-- ==== Sys2Proof/Word.lean ====
section
/-!
DEFINITION. The word and byte types of the bridge (R8: a word is always 64 bits).
-/
namespace Sys2Proof

/-- A word is always 64 bits (R8). -/
abbrev Word := BitVec 64

/-- One byte. -/
abbrev Byte := BitVec 8

end Sys2Proof
end

