-- ==== Sys2Proof/Syntax.lean ====
section
/-!
DEFINITION. The commands: one constructor of `Instr` per row of spec/opcode_table.json, and the types of their operands.
The table gives no operands, so these are the model's (log entry 10); each is what the rule of the row needs from
outside the bridge. Resource numbers are plain `Nat`; WellFormed.lean bounds them.
-/
namespace Sys2Proof

/-- A writer of control space (R455): the service port, or the director software of Aperture `ap`. -/
inductive Writer where
  | svc
  | dir (ap : Nat)
  deriving DecidableEq, Repr

/-- The three parts of the family (R1). -/
inductive Part where
  | qb7432 | qb7416 | qb7408
  deriving DecidableEq, Repr

/-- The straps as sampled at tick s (R419). A strap whose flag `unstable…` is set changed inside its window. -/
structure Straps where
  almSrc     : BitVec 2
  bootBareN  : Bool
  pairId     : Bool
  unstableSrc  : Bool := false
  unstableBare : Bool := false
  unstablePair : Bool := false
  deriving DecidableEq, Repr

/-- What a flash slot answers to a read (R38): its bytes at every speed; SOURCE_ERROR at 200 MHz only; SOURCE_ERROR. -/
inductive FlashSlot where
  | data (bytes : List Byte)
  | errorAt200 (bytes : List Byte)
  | error
  deriving DecidableEq, Repr

/-- Where a channel command or shadow write comes from: slot `slot` of VF `vf` (R153), or control space (R154, R183). -/
inductive ChanSel where
  | slot (ap vf slot : Nat)
  | chan (w : Writer) (c : Nat)
  deriving DecidableEq, Repr

/-- Whose barrier registers are used (R150): VF `vf` of `ap`, or PF0 of `ap` through control space by `w`. -/
inductive BarSel where
  | vf (ap vf : Nat)
  | pf0 (w : Writer) (ap : Nat)
  deriving DecidableEq, Repr

/-- Who makes a logbook port access (R241, R455): a VF through its BAR0, a source that reached the port page through
SPACE 0x3, or the bridge itself. -/
inductive PortSrc where
  | vf (ap vf : Nat)
  | hostFn (ap fn : Nat)
  /-- A Meridian port and the tag of the packet. -/
  | meridian (port tag : Nat)
  | transit (slot : Nat)
  | finder (f : Nat)
  | bridge
  /-- The bridge, for an interrupt line of the Transit bus (R313). -/
  | tirq (line : Nat)
  deriving DecidableEq, Repr

/-- A logbook port access (R240): its source, the queue (the slot of the instance's queues for `PortSrc.vf`, the queue
number otherwise) and the offset in the port page. -/
structure PortSel where
  src : PortSrc
  idx : Nat
  off : Nat
  deriving DecidableEq, Repr

/-- A host posted write (R69, R133): Aperture, address on the host link, bytes from that address on with `none` where the
byte enable is clear, the relaxed-ordering attribute and the poison mark. -/
structure HostWrite where
  ap : Nat
  addr : Nat
  data : List (Option Byte)
  ro : Bool := false
  poisoned : Bool := false
  deriving DecidableEq, Repr

/-- A host read: Aperture, the host's tag, address, length in bytes, relaxed ordering. -/
structure HostReadOp where
  ap : Nat
  tag : Nat
  addr : Nat
  len : Nat
  ro : Bool := false
  deriving DecidableEq, Repr

/-- The AtomicOps that an Aperture completes (R63). -/
inductive AtomicKind where
  | fetchAdd | swap | cas
  deriving DecidableEq, Repr

/-- A host AtomicOp: operand size 4, 8 or 16 bytes; `cmp` is used by CAS only. -/
structure HostAtomic where
  ap : Nat
  tag : Nat
  addr : Nat
  kind : AtomicKind
  size : Nat
  cmp : List Byte
  val : List Byte
  poisoned : Bool := false
  deriving DecidableEq, Repr

/-- Read-only capability fields of the options that an Aperture has (R63, R67, R91). -/
inductive CapField where
  | maxPayloadSupported | cplTimeoutRanges | cplTimeoutDisable
  | atomicComplete32 | atomicComplete64 | atomicComplete128 | atomicRequester
  | tphRequester | steeringTable | pasidWidth | pasidExecute | pasidPrivileged
  | ecrcGenerate | ecrcCheck | ari | flr | aerMultiHeader | tlpPrefixLog
  | ats | pageRequest | ide
  | marginTimingSteps | marginVoltageSteps | marginMaxTiming | marginLeftRight | marginUpDown | marginSampleCount
  | marginErrorSampler
  deriving DecidableEq, Repr

/-- Fields of a function's configuration space that the spec gives behaviour to (R65 to R80, R90). -/
inductive CfgField where
  | vendorId | deviceId | classCode | revision | subsystemVendor | subsystemId
  | busMaster | memorySpace | intxDisable
  | maxPayload | maxReadReq | roEnable | idoEnable | idoCplEnable | extTagEnable | tag10Enable | tag14Enable | cplTimeout
  | pasidEnable | tphEnable | ecrcGenEnable | ecrcCheckEnable
  | msixEnable | functionMask | msixTableSize
  | msiEnable | msiVectors | msiAddr | msiData | msiMask | msiPending
  | bar (b : Nat) | vfBar (b : Nat) | barSize (b : Nat) | vfBarSize (b : Nat)
  | totalVfs | initialVfs | numVfs | vfEnable | vfMse
  | firstVfOffset | vfStride | vfDeviceId | pageSizes | vfMigration | fnDependency
  | aerHeaders | aerClear | aerUncStatus | aerUncSeverity | aerCorStatus
  | pmState | l1ssControl | flitLogControl
  | locator (off : Nat)
  /-- The 16-bit routing ID that the host has assigned to the function; a configuration write gives it to PF0 (R73). -/
  | routingId
  /-- A capability field that reads as a constant. -/
  | cap (c : CapField)
  /-- The 4 bytes of configuration space at an offset from 0x40 on, as the capability chain lays them out (R69). -/
  | space (off : Nat)
  deriving DecidableEq, Repr

/-- A configuration access. -/
inductive CfgAccess where
  | read (f : CfgField)
  | write (f : CfgField) (v : Nat)
  deriving DecidableEq, Repr

/-- Completion status on a host link. -/
inductive CplStatus where
  | sc | ur | ca
  deriving DecidableEq, Repr

/-- A completion that arrives at an Aperture (R84): tag, 16-bit Requester ID, status, poison, the ECRC
check's result and the data bytes. -/
structure HostCpl where
  ap : Nat
  tag : Nat
  rid : Nat
  status : CplStatus
  poisoned : Bool
  ecrcBad : Bool := false
  data : List Byte
  deriving DecidableEq, Repr

/-- Aperture link events (R426). -/
inductive LinkEvent where
  | hotReset | linkDisable | linkDown
  deriving DecidableEq, Repr

/-- What is unmasked (R78): MSI-X entry `v`, the Function Mask, or MSI vector `m`. -/
inductive Unmask where
  | entry (v : Nat)
  | functionMask
  | msi (m : Nat)
  deriving DecidableEq, Repr

/-- A lane margining command (R91): a timing step left or right, or a voltage step up or down. -/
inductive MarginPoint where
  | left (s : Nat) | right (s : Nat) | up (s : Nat) | down (s : Nat)
  deriving DecidableEq, Repr

/-- The two dispatch directions of a host link (R196). -/
inductive Dir where
  | toHost | fromHost
  deriving DecidableEq, Repr

/-- Which share register a share write names (R209). -/
inductive ShareReg where
  | share
  | bucket (d : Dir)
  deriving DecidableEq, Repr

/-- A Meridian packet (R268). `len` is the LEN field, the access length minus 1. `rsvd`: a bit that R268 gives as 0, a
reserved bit of the header or a bit of a padding byte, is 1. -/
structure Packet where
  type : Nat
  tag : Nat
  len : Nat := 0
  cls : Bool := false
  mark : Nat := 0
  poison : Bool := false
  pasid : Option Nat := none
  vi : Nat := 0
  resp : Nat := 0
  op : Nat := 0
  dir : Bool := false
  addr : Nat := 0
  data : List Byte := []
  rsvd : Bool := false
  deriving DecidableEq, Repr

/-- The header of a flit (R346). -/
structure FlitHdr where
  seq : Nat
  ack : Nat
  nak : Bool
  first : Nat
  csel : Nat
  cval : Nat
  deriving DecidableEq, Repr

/-- The control word of a CONTROL flit (R349), its OP aside. -/
structure CtlWord where
  ident : Nat
  width : Nat
  lanes : BitVec 16
  deriving DecidableEq, Repr

/-- What a completed training phase reports (R359, R360): the far end's identity, rate and width, and the lanes usable at both
ends. -/
structure TrainInfo where
  identFar : Nat
  rateFar : Nat
  usable : BitVec 16
  widthFar : Nat := 16
  deriving DecidableEq, Repr

/-- A Transit burst addressed to the bridge (R297): master slot, address, beats, byte enables per beat (bit k enables
lane k), data in lane order, lock and poison marks. -/
structure TransitBurst where
  slot : Nat
  addr : Nat
  beats : Nat
  be : List (BitVec 8)
  data : List Byte
  locked : Bool := false
  poisoned : Bool := false
  /-- For each beat, whether TERR_N and whether TRTY_N is low at its TRDY_N edge by another device's hand (R295); none low where
  the list ends. -/
  lines : List (Bool × Bool) := []
  deriving DecidableEq, Repr

/-- The response lines low at one edge of a burst, and the read data on TAD there (R295). -/
structure RespEdge where
  terr : Bool
  trty : Bool
  twait : Bool
  trdy : Bool
  data : List Byte := []
  deriving DecidableEq, Repr

/-- What the arbiter sees at an edge (R300, R307): the requests of external masters; of an external tenure, TLOCK_N low, a read burst
on the bus, the end of the burst's last beat. -/
structure BusEdge where
  req : BitVec 8
  lock : Bool := false
  read : Bool := false
  ends : Bool := false
  deriving DecidableEq, Repr

/-- The address of a beat and the tick at which it began (R299). -/
structure BeatWait where
  addr : Nat
  began : Nat
  deriving DecidableEq, Repr

/-- How a bridge-mastered Transit burst ended (R298, R311): every beat by TRDY_N (with read data in lane order); TERR_N,
TRTY_N after `done` beats, with the data read in them; `withdrawn` when the grant went with it (R304, R305); or the response lines
edge by edge (R295). -/
inductive BurstEnd where
  | trdy (data : List Byte)
  | terr (done : Nat)
  | trty (done : Nat) (data : List Byte) (withdrawn : Bool)
  | edges (l : List RespEdge)
  deriving DecidableEq, Repr

/-- A delta record's payload (R50). -/
inductive DeltaRec where
  | regWrite (off : Nat) (half : Nat) (value : Word)
  | catEntry (idx : Nat) (image : List Word)
  | sect (ty : Nat) (body : List Byte)
  | create (cmd a b res : Word)
  | destroy (vi ap : Nat)
  | mark
  deriving DecidableEq, Repr

/-- A mirrored change (R377, R381): a delta record, or the start of a reset, which R50 has no record for
(log entry 13). -/
inductive MirrorChange where
  | delta (r : DeltaRec)
  | resetStart (vi trigger : Nat)
  deriving DecidableEq, Repr

/-- One channel of a checkpoint batch (R381). -/
structure CkptChan where
  channel : Nat
  vi : Nat
  state : Nat
  seq : Nat
  progress : Nat
  deriving DecidableEq, Repr

/-- Mirrored logbook pointers (R381). -/
structure LogPtr where
  queue : Nat
  readPos : Nat
  lostPackets : Nat
  lostWords : Nat
  deriving DecidableEq, Repr

/-- A HELLO (R381). -/
structure Hello where
  part : Nat
  pairId : Bool
  homeFirst : Nat
  homeLast : Nat
  /-- Whether the sender holds this bridge's home instances live (R389). -/
  holdsPartner : Bool := false
  deriving DecidableEq, Repr

/-- The state of a host link as its own training reports it (R95). -/
structure HostLink where
  rate : Nat
  width : Nat
  l0pWidth : Nat
  flit : Bool
  sris : Bool
  state : Nat
  clkreq : Bool := false
  deriving DecidableEq, Repr

/-- The host-link layer errors of R90 that are reported by name. -/
inductive HostErr where
  | receiverError | badTlp | badDllp | replayTimeout | replayRollover | malformedTlp | flowControl
  | receiverOverflow | dataLinkProtocol | ecrc (fn : Nat)
  deriving DecidableEq, Repr

/-- How an archive request ended (R16, R435): accepted or read, or uncorrectable. -/
inductive ArchiveEnd where
  | served
  | uncorrectable
  deriving DecidableEq, Repr

/-- The commands of the bridge, in the table's order. -/
inductive Instr where
  | vauxPowerOn (pwrgood perstReleased : Bool) (straps : Straps) (slot0 slot1 : FlashSlot)
  | vauxLost
  | pwrgoodRise (straps : Straps) (slot0 slot1 : FlashSlot)
  | pwrgoodFall
  | perstAssert
  | perstRelease (straps : Straps) (slot0 slot1 : FlashSlot)
  | almanacLoadDone
  | applyLimitExpire
  | serviceLoadWaitExpire
  | chartingComplete
  | bareRelink
  | stage (w : Writer)
  | commit (w : Writer)
  | almCommitDone
  | cancel (w : Writer)
  | seal (w : Writer)
  | load (w : Writer)
  | compact (w : Writer)
  | shelfDataWrite (w : Writer) (value : Word)
  | shelfDataRead (w : Writer)
  | registerWrite (w : Writer) (off : Nat) (be : BitVec 8) (value : Word)
  | rcFieldRead (w : Writer) (off : Nat) (lo hi : Bool)
  | svcWrite64 (off : Nat) (value : Word) (complete : Bool)
  | svcWrite32 (off : Nat) (value : BitVec 32) (complete : Bool)
  | svcRead32 (off : Nat)
  | svcRead64 (off : Nat)
  | svcStatus
  | hostPostedWrite (r : HostWrite)
  | hostRead (r : HostReadOp)
  | hostAtomicOp (r : HostAtomic)
  | hostConfigRequest (ap tag fn : Nat) (acc : CfgAccess)
  | hostCompletion (c : HostCpl)
  | completionTimeout (idx : Nat)
  | ledgerEntryFree (idx : Nat)
  | busMasterEnableClear (ap fn : Nat)
  | busMasterEnableSet (ap fn : Nat)
  | vfFlr (ap vf : Nat)
  | pf0Flr (ap : Nat)
  | apertureLinkEvent (ap : Nat) (ev : LinkEvent)
  | barResize (ap : Nat) (vfBar : Bool) (sizeLog2 : Nat)
  | numvfsWrite (ap n : Nat)
  | interruptMethodChange (ap fn : Nat) (msixEn msiEn : Bool)
  | vectorUnmask (ap fn : Nat) (u : Unmask)
  | laneMarginingCommand (ap lane : Nat) (p : MarginPoint) (measured : Nat)
  | postedEntryIssue (ap : Nat)
  | catCommit (w : Writer) (idx : Nat)
  | barrierPost (b : BarSel) (scope : Nat)
  | barrierRead (b : BarSel) (scope tag : Nat)
  | barrierComplete (ap fn : Nat)
  | barLimitExpire (ap fn : Nat)
  | shadowWrite (c : ChanSel) (w : Nat) (value : Word)
  | arm (c : ChanSel)
  | disarm (c : ChanSel)
  | resume (c : ChanSel)
  | skip (c : ChanSel)
  | abort (c : ChanSel)
  | channelQuiet (c : Nat)
  | runlistPlace (d : Nat)
  | segmentTake (f : Nat)
  | stealProbe (f d : Nat)
  | finderClockGate (f : Nat)
  | segmentWatchdogExpire (c seg : Nat)
  | wedgeEscalation (c : Nat)
  | dispatch (ap : Nat) (d : Dir)
  | swapTo (w : Writer) (ap : Nat)
  | swapFrom (w : Writer) (ap : Nat)
  | shareWrite (w : Writer) (vi : Nat) (r : ShareReg) (value : Word)
  | guideOpen (d : Nat)
  | create (w : Writer) (ap vf : Nat)
  | destroy (w : Writer) (ap vi : Nat)
  | reset (w : Writer) (ap vi : Nat)
  | selfResetRequest (ap vf : Nat) (key : Byte) (reset : Bool)
  | instanceResetDrained (vi : Nat)
  | drainDeadline (vi : Nat)
  | append (p : PortSel) (bytes : List Byte)
  | packet (p : PortSel) (bytes : List Byte)
  | logPortClose (p : PortSel)
  | consume (p : PortSel) (len tag : Nat)
  | consumeStallExpire (q : Nat)
  | dropRest (p : PortSel)
  | setMark (p : PortSel)
  | clearMark (p : PortSel)
  | rewind (p : PortSel)
  | flush (p : PortSel)
  | unreadTimeout (q : Nat)
  | spillRefillDone (q : Nat)
  | archiveTimeout (id : Nat)
  | meridianRead (p : Nat) (pkt : Packet)
  | meridianWrite (p : Nat) (pkt : Packet)
  | rload (p : Nat) (pkt : Packet)
  | cstore (p : Nat) (pkt : Packet)
  | atomic (p : Nat) (pkt : Packet)
  | interrupt (p : Nat) (pkt : Packet)
  | caps (p : Nat) (pkt : Packet)
  | meridianBarrier (p : Nat) (pkt : Packet)
  | meridianCpl (p : Nat) (pkt : Packet)
  | meridianCpld (p : Nat) (pkt : Packet)
  | meridianTimeout (p tag : Nat)
  | meridianTagFree (p tag : Nat)
  | meridianRetryResend (p tag : Nat)
  | payload (k : Nat) (h : FlitHdr) (words : List Word) (corrected : Bool)
  | idle (k : Nat) (h : FlitHdr) (corrected : Bool)
  | badFlit (k : Nat)
  | pause (k : Nat) (lanes : BitVec 16)
  | retrainReq (k : Nat) (ctl : CtlWord)
  | retrainAck (k : Nat) (ctl : CtlWord)
  | down (k : Nat)
  | replayTimerExpire (k : Nat)
  | creditTimeout (k kind : Nat)
  | downHoldExpire (k : Nat)
  | trainingPhaseDone (k : Nat) (info : TrainInfo)
  | trainingPhaseTimeout (k : Nat)
  | retrainReqResend (k : Nat)
  | retrainTimeout (k : Nat)
  | ifvRetrain (w : Writer) (k : Nat)
  | ifvDown (w : Writer) (k : Nat)
  | ifvUp (w : Writer) (k : Nat)
  | widthCapWrite (w : Writer) (k cap : Nat)
  | lossOfLock (lane : Nat) (elastic : Bool)
  | lossOfSignal (lane : Nat)
  | losHeldExpire (lane : Nat)
  | microRetrainDone (lane : Nat)
  | microRetrainTimeout (lane : Nat)
  | refclkWindow (k count : Nat)
  | scanComplete (lane : Nat) (eyes : List (List Byte)) (yields : Nat)
  | eyeHoldExpire (lane : Nat)
  | transitWriteCycle (b : TransitBurst)
  | transitReadCycle (b : TransitBurst)
  | tgtWaitExpire (slot : Nat)
  | delayedHoldExpire (slot : Nat)
  | arbitrationDecision (ext : BusEdge)
  | grantUnused
  | transitUnclaimed (addr : Nat)
  | dataPhaseWaitExpire (addr : BeatWait)
  | grantHoldExpire (addr : Nat)
  | transitBurstDone (e : BurstEnd)
  | transitRetryGapExpire
  | svcTransitRead (w : Writer) (addr : Nat) (be : BitVec 8)
  | svcTransitWrite (w : Writer) (addr : Nat) (be : BitVec 8)
  | ranksWrite (w : Writer) (value : Word)
  | tirqAssert (line : Nat)
  | tirqRepeat (line : Nat)
  | tintSet (w : Writer) (bits : BitVec 4)
  | tintClr (w : Writer) (bits : BitVec 4)
  | hello (h : Hello)
  | change (seq : Nat) (c : MirrorChange)
  | ack (seq code : Nat)
  | ckpt (confirm : Nat) (chans : List CkptChan)
  | logpkt (q : Nat) (words : List Word)
  | logptr (p : LogPtr)
  | resyncEnd (seq : Nat)
  | retract (seq : Nat)
  | mirrorAckTimeout
  | checkpointSend
  | heartbeatEdge
  | heartbeatLost
  | tclkNotSeen
  | fenceExpire
  | mirrorStrobeTimeout
  | fabricClockStop
  | adopt (w : Writer)
  | handback (w : Writer)
  | dim (w : Writer)
  | dimIdleExpire
  | wake (src : Nat)
  | wakeComplete
  | park (w : Writer)
  | service (w : Writer)
  | release (w : Writer)
  | siderealAlarm
  | shutterOpenRequest (n : Nat)
  | shutterOpened (n : Nat)
  | shutterClose (n : Nat)
  | calibrationDone (edges : Option Nat)
  | calibrationPeriod
  | fatalInternalError (cause struct index : Nat)
  | quarantineHoldExpire (straps : Straps) (slot0 slot1 : FlashSlot)
  | hold (w : Writer) (v : Bool)
  | quarantineRelease (w : Writer) (straps : Straps) (slot0 slot1 : FlashSlot)
  | enter (w : Writer)
  | thermtrip
  | eyeSel (w : Writer) (value : Word)
  | eyeCaptureDone (w : Writer)
  | eyeRecAutoIncRead (w : Writer)
  | hostLinkStateChange (ap : Nat) (l : HostLink)
  | hostLinkError (ap : Nat) (e : HostErr)
  | archiveRequestServed (e : ArchiveEnd)
  | eccCorrected (struct : Nat)
  | lossOfSignalEnd (lane : Nat)
  | tirqDeassert (line : Nat)
  deriving DecidableEq, Repr

end Sys2Proof
end

