-- ==== Sys2Proof/Machine/RegTable.lean ====
section
/-!
DEFINITION. The registers of control space: the register index of R471 as the type `Reg`, the offset of each, and the
field tables of the chapters (bits, access code, level, kept), transcribed row by row from the spec's own tables. The
set words of the channel store (R155) are `fndShadow` and `fndActive` with the word as index.
-/
namespace Sys2Proof.Machine

open Sys2Proof

/-- A block with a header of its own (R451). -/
inductive Blk where
  | id | alm | apt (a : Nat) | cat | ord | fnd | dsp | vi | log | mer | trn | lne | ifv | pwr | flt | eye | arc
  deriving DecidableEq, Repr

/-- The block code (R451). -/
def Blk.code : Blk → Nat
  | .id => 0x00 | .alm => 0x01 | .apt _ => 0x02 | .cat => 0x03 | .ord => 0x06 | .fnd => 0x07 | .dsp => 0x09
  | .vi => 0x0A | .log => 0x0B | .mer => 0x0C | .trn => 0x0D | .lne => 0x0E | .ifv => 0x0F | .pwr => 0x10
  | .flt => 0x11 | .eye => 0x12 | .arc => 0x13

/-- The bit of a block in ID_EVENT_SUM and ID_EVENT_ROUTE.MASK (R467): its code, with AP1 to AP3 at bits 20 to 22. -/
def Blk.sumBit : Blk → Nat
  | .apt 0 => 2
  | .apt a => 19 + a
  | b => b.code

/-- The block's base offset (R451). -/
def Blk.base : Blk → Nat
  | .apt a => 0x200000 + 0x40000 * a
  | b => 0x100000 * b.code

/-- Every block header. -/
def Blk.all : List Blk :=
  [.id, .alm, .apt 0, .apt 1, .apt 2, .apt 3, .cat, .ord, .fnd, .dsp, .vi, .log, .mer, .trn, .lne, .ifv, .pwr, .flt,
   .eye, .arc]

/-- Access codes (R11); `rsv` marks reserved bits (R452). -/
inductive Access where
  | ro | rw | rwl | w1c | w1s | wo | rc | rsv
  deriving DecidableEq, Repr

/-- One row of a field table (R10): lowest bit, width, access, level E, kept. -/
structure Field where
  lo : Nat
  len : Nat
  acc : Access
  expert : Bool
  kept : Bool
  deriving DecidableEq, Repr

/-- The registers of R471. Banked registers (R465) carry the bank `n` of their writer first. -/
inductive Reg where
  | blkId (b : Blk)
  | blkVer (b : Blk)
  | blkCtrl (b : Blk)
  | blkStatus (b : Blk)
  | blkReject (b : Blk)
  | blkEvent (b : Blk)
  | blkEventEn (b : Blk)
  | idBoot
  | idPart
  | idEventSum
  | idEventRoute (a : Nat)
  | idIntPend (a w : Nat)
  | almCmd
  | almResult
  | almStatus
  | almShelfAddr
  | almShelfData
  | almKeptUse
  | almApplyTime
  | almFlashCfg
  | almFlashEff
  | almApplyLimit
  | almDigest (k : Nat)
  | aptLinkEff (a : Nat)
  | aptLedgerCfg (a : Nat)
  | aptLedgerUse (a : Nat)
  | aptLateCpl (a : Nat)
  | aptLateLast (a : Nat)
  | aptUnexpCpl (a : Nat)
  | aptMarginCfg (a : Nat)
  | aptIntReissue (a : Nat)
  | aptFnEvents (a : Nat)
  | catStage (n w : Nat)
  | catCommit (n : Nat)
  | catCommitStatus (n : Nat)
  | catDrain (n : Nat)
  | catMiss
  | catMissLast
  | catRegion (k : Nat)
  | catEntry (i w : Nat)
  | ordBarrier (a : Nat)
  | ordBarrierEng (a : Nat)
  | ordBarrierDome (a : Nat)
  | ordBarrierSys (a : Nat)
  | ordBarStatus (a : Nat)
  | ordAptCfg (a : Nat)
  | ordPbUse (a : Nat)
  | ordAtomicStat (a : Nat)
  | ordDiscard (a : Nat)
  | fndChCtrl (c : Nat)
  | fndChCmd (c : Nat)
  | fndChStatus (c : Nat)
  | fndChProgress (c : Nat)
  | fndChFaultAddr (c : Nat)
  | fndChFaultInfo (c : Nat)
  | fndFinderStat (f : Nat)
  | dspSegCfg
  | dspAptCfg (a : Nat)
  | dspDomeCfg (d : Nat)
  | dspDomeStat (d : Nat)
  | dspSchedCmd (a : Nat)
  | dspSchedShadow (y w : Nat)
  | dspSchedActive (y w : Nat)
  | dspViShare (v : Nat)
  | dspViBucket (v x : Nat)
  | dspViFill (v x : Nat)
  | dspGuideCfg (d : Nat)
  | dspGuideStat (d : Nat)
  | viCmd (n : Nat)
  | viCreateA (n : Nat)
  | viCreateB (n : Nat)
  | viCmdStatus (n : Nat)
  | viLastReset
  | viPool (a k : Nat)
  | viEntry (v : Nat)
  | viRes (v : Nat)
  | viCtrl (v : Nat)
  | logSpillCfg
  | logFaultLq (a : Nat)
  | logQGeom (q : Nat)
  | logQIrq (q : Nat)
  | logQStat (q : Nat)
  | logQLost (q : Nat)
  | merPortGeom (p : Nat)
  | merPortCtrl (p : Nat)
  | merPortStat (p : Nat)
  | merCredit (p : Nat)
  | merErrCnt (p : Nat)
  | merErrLast (p : Nat)
  | merEventDrop (p : Nat)
  | trnBusCfg
  | trnTgtCfg
  | trnRanks
  | trnMasterCfg
  | trnArbStat
  | trnCutoff
  | trnErrCnt
  | trnErrLast
  | trnSvcCmd
  | trnSvcData
  | trnTintSet
  | trnTintClr
  | trnIrqRoute (i : Nat)
  | trnIrqAddr (i : Nat)
  | trnTintCfg (k : Nat)
  | lneRefStat (k : Nat)
  | lneHealthCfg
  | lneLaneStat (i : Nat)
  | lneSeeCfg (i : Nat)
  | lneEyeSel (n : Nat)
  | lneEyeHdr (n : Nat)
  | lneEyeRow (n w : Nat)
  | ifvLinkCtrl (k : Nat)
  | ifvLinkCmd (k : Nat)
  | ifvLinkStat (k : Nat)
  | ifvLinkSeq (k : Nat)
  | ifvLinkCnt (k : Nat)
  | ifvLinkTmo (k : Nat)
  | ifvPairCfg
  | ifvPairCtrl
  | ifvPairCmd
  | ifvPairStat
  | ifvMirrorStat
  | ifvJournal
  | pwrMode
  | pwrModeCmd
  | pwrDimCfg
  | pwrSidCal
  | pwrSidTime
  | pwrSidWake
  | pwrDomeClk (d : Nat)
  | pwrDomPol (n : Nat)
  | pwrDomStat (n : Nat)
  | fltLadder (k : Nat)
  | fltRecStat
  | fltLast (w : Nat)
  | fltEcc
  | fltQuarCtrl
  | fltQuarStat
  | fltQuarTick
  | fltLife (w : Nat)
  | eyeSel (n : Nat)
  | eyeStatus (n : Nat)
  | eyeInfo (n : Nat)
  | eyeRec (n w : Nat)
  | arcMap
  | arcStat
  | arcRankUse
  | fndShadow (c w : Nat)
  | fndActive (c w : Nat)
  deriving DecidableEq, Repr

/-- The control-space offset of a register (R471). -/
def Reg.offset : Reg → Nat
  | .blkId b => b.base + 0
  | .blkVer b => b.base + 8
  | .blkCtrl b => b.base + 16
  | .blkStatus b => b.base + 24
  | .blkReject b => b.base + 32
  | .blkEvent b => b.base + 40
  | .blkEventEn b => b.base + 48
  | .idBoot => 0x100
  | .idPart => 0x108
  | .idEventSum => 0x110
  | .idEventRoute a => 0x120 + 8 * a
  | .idIntPend a w => 0x400 + 0x100 * a + 8 * w
  | .almCmd => 0x100100
  | .almResult => 0x100108
  | .almStatus => 0x100110
  | .almShelfAddr => 0x100160
  | .almShelfData => 0x100168
  | .almKeptUse => 0x100170
  | .almApplyTime => 0x100178
  | .almFlashCfg => 0x100180
  | .almFlashEff => 0x100188
  | .almApplyLimit => 0x100190
  | .almDigest k => 0x100120 + 8 * k
  | .aptLinkEff a => 0x200100 + 0x40000 * a
  | .aptLedgerCfg a => 0x200108 + 0x40000 * a
  | .aptLedgerUse a => 0x200110 + 0x40000 * a
  | .aptLateCpl a => 0x200118 + 0x40000 * a
  | .aptLateLast a => 0x200120 + 0x40000 * a
  | .aptUnexpCpl a => 0x200128 + 0x40000 * a
  | .aptMarginCfg a => 0x200130 + 0x40000 * a
  | .aptIntReissue a => 0x200138 + 0x40000 * a
  | .aptFnEvents a => 0x200140 + 0x40000 * a
  | .catStage _ w => 0x300100 + 8 * w
  | .catCommit _ => 0x300120
  | .catCommitStatus _ => 0x300128
  | .catDrain _ => 0x300130
  | .catMiss => 0x300138
  | .catMissLast => 0x300140
  | .catRegion k => 0x300400 + 8 * k
  | .catEntry i w => 0x400000 + 32 * i + 8 * w
  | .ordBarrier a => 0x600100 + 0x40 * a
  | .ordBarrierEng a => 0x600108 + 0x40 * a
  | .ordBarrierDome a => 0x600110 + 0x40 * a
  | .ordBarrierSys a => 0x600118 + 0x40 * a
  | .ordBarStatus a => 0x600120 + 0x40 * a
  | .ordAptCfg a => 0x600300 + 8 * a
  | .ordPbUse a => 0x600320 + 8 * a
  | .ordAtomicStat a => 0x600340 + 8 * a
  | .ordDiscard a => 0x600360 + 8 * a
  | .fndChCtrl c => 0x710000 + 8 * c
  | .fndChCmd c => 0x720000 + 8 * c
  | .fndChStatus c => 0x730000 + 8 * c
  | .fndChProgress c => 0x740000 + 8 * c
  | .fndChFaultAddr c => 0x750000 + 8 * c
  | .fndChFaultInfo c => 0x760000 + 8 * c
  | .fndFinderStat f => 0x770000 + 8 * f
  | .dspSegCfg => 0x900100
  | .dspAptCfg a => 0x900480 + 8 * a
  | .dspDomeCfg d => 0x900200 + 8 * d
  | .dspDomeStat d => 0x900300 + 8 * d
  | .dspSchedCmd a => 0x900400 + 8 * a
  | .dspSchedShadow y w => 0x904000 + 0x800 * y + 8 * w
  | .dspSchedActive y w => 0x908000 + 0x800 * y + 8 * w
  | .dspViShare v => 0x90C000 + 8 * v
  | .dspViBucket v x => 0x910000 + 16 * v + 8 * x
  | .dspViFill v x => 0x918000 + 16 * v + 8 * x
  | .dspGuideCfg d => 0x900500 + 8 * d
  | .dspGuideStat d => 0x900600 + 8 * d
  | .viCmd _ => 0xa00100
  | .viCreateA _ => 0xa00108
  | .viCreateB _ => 0xa00110
  | .viCmdStatus _ => 0xa00118
  | .viLastReset => 0xA00120
  | .viPool a k => 0xA00200 + 0x40 * a + 8 * k
  | .viEntry v => 0xa01000 + 8 * v
  | .viRes v => 0xa05000 + 8 * v
  | .viCtrl v => 0xa09000 + 8 * v
  | .logSpillCfg => 0xB00100
  | .logFaultLq a => 0xB00120 + 8 * a
  | .logQGeom q => 0xb10000 + 8 * q
  | .logQIrq q => 0xb18000 + 8 * q
  | .logQStat q => 0xb20000 + 8 * q
  | .logQLost q => 0xb28000 + 8 * q
  | .merPortGeom p => 0xc00100 + 0x40 * p
  | .merPortCtrl p => 0xc00108 + 0x40 * p
  | .merPortStat p => 0xc00110 + 0x40 * p
  | .merCredit p => 0xc00118 + 0x40 * p
  | .merErrCnt p => 0xc00120 + 0x40 * p
  | .merErrLast p => 0xc00128 + 0x40 * p
  | .merEventDrop p => 0xc00130 + 0x40 * p
  | .trnBusCfg => 0xd00100
  | .trnTgtCfg => 0xd00108
  | .trnRanks => 0xd00110
  | .trnMasterCfg => 0xd00118
  | .trnArbStat => 0xd00120
  | .trnCutoff => 0xd00128
  | .trnErrCnt => 0xd00130
  | .trnErrLast => 0xd00138
  | .trnSvcCmd => 0xd00140
  | .trnSvcData => 0xd00148
  | .trnTintSet => 0xd00320
  | .trnTintClr => 0xd00328
  | .trnIrqRoute i => 0xD00200 + 8 * i
  | .trnIrqAddr i => 0xD00280 + 8 * i
  | .trnTintCfg k => 0xD00300 + 8 * k
  | .lneRefStat k => 0xE00100 + 8 * k
  | .lneHealthCfg => 0xE00180
  | .lneLaneStat i => 0xE00200 + 8 * i
  | .lneSeeCfg i => 0xE00600 + 8 * i
  | .lneEyeSel _ => 0xE00900
  | .lneEyeHdr _ => 0xE00908
  | .lneEyeRow _ w => 0xE00940 + 8 * w
  | .ifvLinkCtrl k => 0xf00100 + 0x40 * k
  | .ifvLinkCmd k => 0xf00108 + 0x40 * k
  | .ifvLinkStat k => 0xf00110 + 0x40 * k
  | .ifvLinkSeq k => 0xf00118 + 0x40 * k
  | .ifvLinkCnt k => 0xf00120 + 0x40 * k
  | .ifvLinkTmo k => 0xf00128 + 0x40 * k
  | .ifvPairCfg => 0xf00300
  | .ifvPairCtrl => 0xf00308
  | .ifvPairCmd => 0xf00310
  | .ifvPairStat => 0xf00318
  | .ifvMirrorStat => 0xf00320
  | .ifvJournal => 0xf00328
  | .pwrMode => 0x1000100
  | .pwrModeCmd => 0x1000108
  | .pwrDimCfg => 0x1000110
  | .pwrSidCal => 0x1000180
  | .pwrSidTime => 0x1000188
  | .pwrSidWake => 0x1000190
  | .pwrDomeClk d => 0x1000200 + 8 * d
  | .pwrDomPol n => 0x1000400 + 8 * n
  | .pwrDomStat n => 0x1000800 + 8 * n
  | .fltLadder k => 0x1100100 + 8 * k
  | .fltRecStat => 0x1100180
  | .fltLast w => 0x1100190 + 8 * w
  | .fltEcc => 0x11001C0
  | .fltQuarCtrl => 0x1100200
  | .fltQuarStat => 0x1100208
  | .fltQuarTick => 0x1100210
  | .fltLife w => 0x1101000 + 8 * w
  | .eyeSel _ => 0x1200100
  | .eyeStatus _ => 0x1200108
  | .eyeInfo _ => 0x1200110
  | .eyeRec _ w => 0x1200140 + 8 * w
  | .arcMap => 0x1300100
  | .arcStat => 0x1300108
  | .arcRankUse => 0x1300110
  | .fndShadow c w => 0x800000 + 0x80 * c + 8 * w
  | .fndActive c w => 0x800040 + 0x80 * c + 8 * w

/-- The block whose range holds a register (R451). -/
def Reg.block : Reg → Blk
  | .blkId b => b
  | .blkVer b => b
  | .blkCtrl b => b
  | .blkStatus b => b
  | .blkReject b => b
  | .blkEvent b => b
  | .blkEventEn b => b
  | .idBoot => .id
  | .idPart => .id
  | .idEventSum => .id
  | .idEventRoute _ => .id
  | .idIntPend _ _ => .id
  | .almCmd => .alm
  | .almResult => .alm
  | .almStatus => .alm
  | .almShelfAddr => .alm
  | .almShelfData => .alm
  | .almKeptUse => .alm
  | .almApplyTime => .alm
  | .almFlashCfg => .alm
  | .almFlashEff => .alm
  | .almApplyLimit => .alm
  | .almDigest _ => .alm
  | .aptLinkEff a => .apt a
  | .aptLedgerCfg a => .apt a
  | .aptLedgerUse a => .apt a
  | .aptLateCpl a => .apt a
  | .aptLateLast a => .apt a
  | .aptUnexpCpl a => .apt a
  | .aptMarginCfg a => .apt a
  | .aptIntReissue a => .apt a
  | .aptFnEvents a => .apt a
  | .catStage _ _ => .cat
  | .catCommit _ => .cat
  | .catCommitStatus _ => .cat
  | .catDrain _ => .cat
  | .catMiss => .cat
  | .catMissLast => .cat
  | .catRegion _ => .cat
  | .catEntry _ _ => .cat
  | .ordBarrier _ => .ord
  | .ordBarrierEng _ => .ord
  | .ordBarrierDome _ => .ord
  | .ordBarrierSys _ => .ord
  | .ordBarStatus _ => .ord
  | .ordAptCfg _ => .ord
  | .ordPbUse _ => .ord
  | .ordAtomicStat _ => .ord
  | .ordDiscard _ => .ord
  | .fndChCtrl _ => .fnd
  | .fndChCmd _ => .fnd
  | .fndChStatus _ => .fnd
  | .fndChProgress _ => .fnd
  | .fndChFaultAddr _ => .fnd
  | .fndChFaultInfo _ => .fnd
  | .fndFinderStat _ => .fnd
  | .dspSegCfg => .dsp
  | .dspAptCfg _ => .dsp
  | .dspDomeCfg _ => .dsp
  | .dspDomeStat _ => .dsp
  | .dspSchedCmd _ => .dsp
  | .dspSchedShadow _ _ => .dsp
  | .dspSchedActive _ _ => .dsp
  | .dspViShare _ => .dsp
  | .dspViBucket _ _ => .dsp
  | .dspViFill _ _ => .dsp
  | .dspGuideCfg _ => .dsp
  | .dspGuideStat _ => .dsp
  | .viCmd _ => .vi
  | .viCreateA _ => .vi
  | .viCreateB _ => .vi
  | .viCmdStatus _ => .vi
  | .viLastReset => .vi
  | .viPool _ _ => .vi
  | .viEntry _ => .vi
  | .viRes _ => .vi
  | .viCtrl _ => .vi
  | .logSpillCfg => .log
  | .logFaultLq _ => .log
  | .logQGeom _ => .log
  | .logQIrq _ => .log
  | .logQStat _ => .log
  | .logQLost _ => .log
  | .merPortGeom _ => .mer
  | .merPortCtrl _ => .mer
  | .merPortStat _ => .mer
  | .merCredit _ => .mer
  | .merErrCnt _ => .mer
  | .merErrLast _ => .mer
  | .merEventDrop _ => .mer
  | .trnBusCfg => .trn
  | .trnTgtCfg => .trn
  | .trnRanks => .trn
  | .trnMasterCfg => .trn
  | .trnArbStat => .trn
  | .trnCutoff => .trn
  | .trnErrCnt => .trn
  | .trnErrLast => .trn
  | .trnSvcCmd => .trn
  | .trnSvcData => .trn
  | .trnTintSet => .trn
  | .trnTintClr => .trn
  | .trnIrqRoute _ => .trn
  | .trnIrqAddr _ => .trn
  | .trnTintCfg _ => .trn
  | .lneRefStat _ => .lne
  | .lneHealthCfg => .lne
  | .lneLaneStat _ => .lne
  | .lneSeeCfg _ => .lne
  | .lneEyeSel _ => .lne
  | .lneEyeHdr _ => .lne
  | .lneEyeRow _ _ => .lne
  | .ifvLinkCtrl _ => .ifv
  | .ifvLinkCmd _ => .ifv
  | .ifvLinkStat _ => .ifv
  | .ifvLinkSeq _ => .ifv
  | .ifvLinkCnt _ => .ifv
  | .ifvLinkTmo _ => .ifv
  | .ifvPairCfg => .ifv
  | .ifvPairCtrl => .ifv
  | .ifvPairCmd => .ifv
  | .ifvPairStat => .ifv
  | .ifvMirrorStat => .ifv
  | .ifvJournal => .ifv
  | .pwrMode => .pwr
  | .pwrModeCmd => .pwr
  | .pwrDimCfg => .pwr
  | .pwrSidCal => .pwr
  | .pwrSidTime => .pwr
  | .pwrSidWake => .pwr
  | .pwrDomeClk _ => .pwr
  | .pwrDomPol _ => .pwr
  | .pwrDomStat _ => .pwr
  | .fltLadder _ => .flt
  | .fltRecStat => .flt
  | .fltLast _ => .flt
  | .fltEcc => .flt
  | .fltQuarCtrl => .flt
  | .fltQuarStat => .flt
  | .fltQuarTick => .flt
  | .fltLife _ => .flt
  | .eyeSel _ => .eye
  | .eyeStatus _ => .eye
  | .eyeInfo _ => .eye
  | .eyeRec _ _ => .eye
  | .arcMap => .arc
  | .arcStat => .arc
  | .arcRankUse => .arc
  | .fndShadow _ _ => .fnd
  | .fndActive _ _ => .fnd

/-- The field table of a register: every bit belongs to one row, reserved rows included. -/
def Reg.fields : Reg → List Field
  | .blkId _ =>
     [⟨0, 8, .ro, false, false⟩, ⟨8, 8, .ro, false, false⟩, ⟨16, 48, .rsv, false, false⟩]
  | .blkVer _ =>
     [⟨0, 8, .ro, false, false⟩, ⟨8, 8, .ro, false, false⟩, ⟨16, 48, .rsv, false, false⟩]
  | .blkCtrl _ =>
     [⟨0, 1, .rw, false, true⟩, ⟨1, 63, .rsv, false, false⟩]
  | .blkStatus _ =>
     [⟨0, 1, .ro, false, false⟩, ⟨1, 1, .ro, false, false⟩, ⟨2, 6, .rsv, false, false⟩,
      ⟨8, 8, .ro, false, false⟩, ⟨16, 48, .rsv, false, false⟩]
  | .blkReject _ =>
     [⟨0, 26, .ro, false, false⟩, ⟨26, 1, .ro, false, false⟩, ⟨27, 5, .rsv, false, false⟩,
      ⟨32, 8, .ro, false, false⟩, ⟨40, 3, .ro, false, false⟩, ⟨43, 1, .rsv, false, false⟩,
      ⟨44, 11, .ro, false, false⟩, ⟨55, 8, .ro, false, false⟩, ⟨63, 1, .w1c, false, false⟩]
  | .blkEvent _ =>
     [⟨0, 31, .w1c, false, false⟩, ⟨31, 1, .w1c, false, false⟩, ⟨32, 32, .rsv, false, false⟩]
  | .blkEventEn _ =>
     [⟨0, 32, .rw, false, true⟩, ⟨32, 32, .rw, false, true⟩]
  | .idBoot =>
     [⟨0, 2, .ro, false, false⟩, ⟨2, 1, .ro, false, false⟩, ⟨3, 1, .ro, false, false⟩,
      ⟨4, 4, .rsv, false, false⟩, ⟨8, 3, .ro, false, false⟩, ⟨11, 5, .rsv, false, false⟩,
      ⟨16, 32, .ro, false, false⟩, ⟨48, 16, .rsv, false, false⟩]
  | .idPart =>
     [⟨0, 16, .ro, false, false⟩, ⟨16, 8, .ro, false, false⟩, ⟨24, 8, .rsv, false, false⟩,
      ⟨32, 6, .ro, false, false⟩, ⟨38, 2, .rsv, false, false⟩, ⟨40, 3, .ro, false, false⟩,
      ⟨43, 5, .rsv, false, false⟩, ⟨48, 12, .ro, false, false⟩, ⟨60, 4, .rsv, false, false⟩]
  | .idEventSum =>
     [⟨0, 23, .ro, false, false⟩, ⟨23, 9, .rsv, false, false⟩, ⟨32, 23, .ro, false, false⟩,
      ⟨55, 9, .rsv, false, false⟩]
  | .idEventRoute _ =>
     [⟨0, 11, .rw, false, true⟩, ⟨11, 1, .rw, false, true⟩, ⟨12, 20, .rsv, false, false⟩,
      ⟨32, 23, .rw, false, true⟩, ⟨55, 9, .rsv, false, false⟩]
  | .idIntPend _ _ =>
     [⟨0, 64, .w1c, false, false⟩]
  | .almCmd =>
     [⟨0, 4, .wo, false, false⟩, ⟨4, 60, .rsv, false, false⟩]
  | .almResult =>
     [⟨0, 8, .ro, false, false⟩, ⟨8, 16, .ro, false, false⟩, ⟨24, 32, .ro, false, false⟩,
      ⟨56, 1, .ro, false, false⟩, ⟨57, 7, .rsv, false, false⟩]
  | .almStatus =>
     [⟨0, 2, .ro, false, false⟩, ⟨2, 1, .ro, false, false⟩, ⟨3, 1, .ro, false, false⟩,
      ⟨4, 1, .ro, false, false⟩, ⟨5, 1, .ro, false, false⟩, ⟨6, 1, .ro, false, false⟩,
      ⟨7, 1, .ro, false, false⟩, ⟨8, 1, .ro, false, false⟩, ⟨9, 1, .ro, false, false⟩,
      ⟨10, 1, .ro, false, false⟩, ⟨11, 1, .ro, false, false⟩, ⟨12, 1, .ro, false, false⟩,
      ⟨13, 51, .rsv, false, false⟩]
  | .almShelfAddr =>
     [⟨0, 23, .rw, false, false⟩, ⟨23, 41, .rsv, false, false⟩]
  | .almShelfData =>
     [⟨0, 64, .rw, false, false⟩]
  | .almKeptUse =>
     [⟨0, 19, .ro, false, false⟩, ⟨19, 13, .ro, false, false⟩, ⟨32, 20, .ro, false, false⟩,
      ⟨52, 12, .rsv, false, false⟩]
  | .almApplyTime =>
     [⟨0, 32, .ro, false, false⟩, ⟨32, 32, .rsv, false, false⟩]
  | .almFlashCfg =>
     [⟨0, 2, .rw, false, true⟩, ⟨2, 6, .rsv, false, false⟩, ⟨8, 5, .rw, true, true⟩,
      ⟨13, 3, .rsv, false, false⟩, ⟨16, 1, .rw, true, true⟩, ⟨17, 7, .rsv, false, false⟩,
      ⟨24, 1, .rw, false, true⟩, ⟨25, 39, .rsv, false, false⟩]
  | .almFlashEff =>
     [⟨0, 8, .ro, false, false⟩, ⟨8, 1, .ro, false, false⟩, ⟨9, 7, .rsv, false, false⟩,
      ⟨16, 5, .ro, false, false⟩, ⟨21, 3, .rsv, false, false⟩, ⟨24, 1, .ro, false, false⟩,
      ⟨25, 39, .rsv, false, false⟩]
  | .almApplyLimit =>
     [⟨0, 32, .rwl, false, false⟩, ⟨32, 32, .rsv, false, false⟩]
  | .almDigest _ =>
     [⟨0, 64, .ro, false, false⟩]
  | .aptLinkEff _ =>
     [⟨0, 3, .ro, false, false⟩, ⟨3, 5, .rsv, false, false⟩, ⟨8, 5, .ro, false, false⟩,
      ⟨13, 3, .rsv, false, false⟩, ⟨16, 5, .ro, false, false⟩, ⟨21, 3, .rsv, false, false⟩,
      ⟨24, 1, .ro, false, false⟩, ⟨25, 1, .ro, false, false⟩, ⟨26, 4, .ro, false, false⟩,
      ⟨30, 34, .rsv, false, false⟩]
  | .aptLedgerCfg _ =>
     [⟨0, 15, .rw, false, true⟩, ⟨15, 49, .rsv, false, false⟩]
  | .aptLedgerUse _ =>
     [⟨0, 15, .ro, false, false⟩, ⟨15, 1, .rsv, false, false⟩, ⟨16, 15, .ro, false, false⟩,
      ⟨31, 1, .rsv, false, false⟩, ⟨32, 15, .rc, false, false⟩, ⟨47, 17, .rsv, false, false⟩]
  | .aptLateCpl _ =>
     [⟨0, 32, .ro, false, false⟩, ⟨32, 32, .rsv, false, false⟩]
  | .aptLateLast _ =>
     [⟨0, 14, .ro, false, false⟩, ⟨14, 2, .rsv, false, false⟩, ⟨16, 16, .ro, false, false⟩,
      ⟨32, 31, .ro, false, false⟩, ⟨63, 1, .w1c, false, false⟩]
  | .aptUnexpCpl _ =>
     [⟨0, 32, .ro, false, false⟩, ⟨32, 32, .rsv, false, false⟩]
  | .aptMarginCfg _ =>
     [⟨0, 1, .rw, true, true⟩, ⟨1, 63, .rsv, false, false⟩]
  | .aptIntReissue _ =>
     [⟨0, 32, .ro, false, false⟩, ⟨32, 32, .rsv, false, false⟩]
  | .aptFnEvents _ =>
     [⟨0, 32, .ro, false, false⟩, ⟨32, 16, .ro, false, false⟩, ⟨48, 16, .rsv, false, false⟩]
  | .catStage _ _ =>
     [⟨0, 64, .rw, false, false⟩]
  | .catCommit _ =>
     [⟨0, 16, .wo, false, false⟩, ⟨16, 48, .rsv, false, false⟩]
  | .catCommitStatus _ =>
     [⟨0, 16, .ro, false, false⟩, ⟨16, 8, .ro, false, false⟩, ⟨24, 8, .ro, false, false⟩,
      ⟨32, 1, .ro, false, false⟩, ⟨33, 31, .rsv, false, false⟩]
  | .catDrain _ =>
     [⟨0, 16, .rw, false, false⟩, ⟨16, 16, .rsv, false, false⟩, ⟨32, 16, .ro, false, false⟩,
      ⟨48, 16, .rsv, false, false⟩]
  | .catMiss =>
     [⟨0, 24, .ro, false, false⟩, ⟨24, 24, .ro, false, false⟩, ⟨48, 16, .ro, false, false⟩]
  | .catMissLast =>
     [⟨0, 52, .ro, false, false⟩, ⟨52, 3, .ro, false, false⟩, ⟨55, 2, .ro, false, false⟩,
      ⟨57, 1, .ro, false, false⟩, ⟨58, 5, .rsv, false, false⟩, ⟨63, 1, .w1c, false, false⟩]
  | .catRegion _ =>
     [⟨0, 64, .ro, false, false⟩]
  | .catEntry _ _ =>
     [⟨0, 64, .ro, false, true⟩]
  | .ordBarrier _ =>
     [⟨0, 2, .wo, false, false⟩, ⟨2, 62, .rsv, false, false⟩]
  | .ordBarrierEng _ =>
     [⟨0, 1, .ro, false, false⟩, ⟨1, 1, .ro, false, false⟩, ⟨2, 1, .ro, false, false⟩,
      ⟨3, 2, .ro, false, false⟩, ⟨5, 3, .rsv, false, false⟩, ⟨8, 16, .ro, false, false⟩,
      ⟨24, 8, .ro, false, false⟩, ⟨32, 4, .ro, false, false⟩, ⟨36, 2, .ro, false, false⟩,
      ⟨38, 10, .rsv, false, false⟩, ⟨48, 16, .ro, false, false⟩]
  | .ordBarrierDome _ =>
     [⟨0, 1, .ro, false, false⟩, ⟨1, 1, .ro, false, false⟩, ⟨2, 1, .ro, false, false⟩,
      ⟨3, 2, .ro, false, false⟩, ⟨5, 3, .rsv, false, false⟩, ⟨8, 16, .ro, false, false⟩,
      ⟨24, 8, .ro, false, false⟩, ⟨32, 4, .ro, false, false⟩, ⟨36, 2, .ro, false, false⟩,
      ⟨38, 10, .rsv, false, false⟩, ⟨48, 16, .ro, false, false⟩]
  | .ordBarrierSys _ =>
     [⟨0, 1, .ro, false, false⟩, ⟨1, 1, .ro, false, false⟩, ⟨2, 1, .ro, false, false⟩,
      ⟨3, 2, .ro, false, false⟩, ⟨5, 3, .rsv, false, false⟩, ⟨8, 16, .ro, false, false⟩,
      ⟨24, 8, .ro, false, false⟩, ⟨32, 4, .ro, false, false⟩, ⟨36, 2, .ro, false, false⟩,
      ⟨38, 10, .rsv, false, false⟩, ⟨48, 16, .ro, false, false⟩]
  | .ordBarStatus _ =>
     [⟨0, 1, .ro, false, false⟩, ⟨1, 1, .ro, false, false⟩, ⟨2, 1, .ro, false, false⟩,
      ⟨3, 2, .ro, false, false⟩, ⟨5, 3, .rsv, false, false⟩, ⟨8, 16, .ro, false, false⟩,
      ⟨24, 8, .ro, false, false⟩, ⟨32, 4, .ro, false, false⟩, ⟨36, 2, .ro, false, false⟩,
      ⟨38, 10, .rsv, false, false⟩, ⟨48, 16, .ro, false, false⟩]
  | .ordAptCfg _ =>
     [⟨0, 1, .rw, false, true⟩, ⟨1, 7, .rsv, false, false⟩, ⟨8, 32, .rw, true, true⟩,
      ⟨40, 24, .rsv, false, false⟩]
  | .ordPbUse _ =>
     [⟨0, 11, .ro, false, false⟩, ⟨11, 5, .rsv, false, false⟩, ⟨16, 11, .ro, false, false⟩,
      ⟨27, 5, .rsv, false, false⟩, ⟨32, 11, .rc, false, false⟩, ⟨43, 21, .rsv, false, false⟩]
  | .ordAtomicStat _ =>
     [⟨0, 20, .ro, false, false⟩, ⟨20, 20, .ro, false, false⟩, ⟨40, 20, .ro, false, false⟩,
      ⟨60, 4, .rsv, false, false⟩]
  | .ordDiscard _ =>
     [⟨0, 32, .ro, false, false⟩, ⟨32, 32, .rsv, false, false⟩]
  | .fndChCtrl _ =>
     [⟨0, 5, .rw, false, true⟩, ⟨5, 3, .rsv, false, false⟩, ⟨8, 16, .rw, false, true⟩,
      ⟨24, 40, .rsv, false, false⟩]
  | .fndChCmd _ =>
     [⟨0, 3, .wo, false, false⟩, ⟨3, 61, .rsv, false, false⟩]
  | .fndChStatus _ =>
     [⟨0, 2, .ro, false, false⟩, ⟨2, 2, .ro, false, false⟩, ⟨4, 1, .ro, false, false⟩,
      ⟨5, 3, .rsv, false, false⟩, ⟨8, 4, .ro, false, false⟩, ⟨12, 4, .rsv, false, false⟩,
      ⟨16, 16, .ro, false, false⟩, ⟨32, 16, .ro, false, false⟩, ⟨48, 16, .ro, false, false⟩]
  | .fndChProgress _ =>
     [⟨0, 36, .ro, false, false⟩, ⟨36, 28, .rsv, false, false⟩]
  | .fndChFaultAddr _ =>
     [⟨0, 64, .ro, false, false⟩]
  | .fndChFaultInfo _ =>
     [⟨0, 3, .ro, false, false⟩, ⟨3, 1, .ro, false, false⟩, ⟨4, 5, .ro, false, false⟩,
      ⟨9, 7, .rsv, false, false⟩, ⟨16, 32, .ro, false, false⟩, ⟨48, 8, .ro, false, false⟩,
      ⟨56, 6, .rsv, false, false⟩, ⟨62, 1, .ro, false, false⟩, ⟨63, 1, .ro, false, false⟩]
  | .fndFinderStat _ =>
     [⟨0, 2, .ro, false, false⟩, ⟨2, 7, .ro, false, false⟩, ⟨9, 1, .rsv, false, false⟩,
      ⟨10, 4, .ro, false, false⟩, ⟨14, 2, .rsv, false, false⟩, ⟨16, 13, .ro, false, false⟩,
      ⟨29, 3, .rsv, false, false⟩, ⟨32, 32, .rc, false, false⟩]
  | .dspSegCfg =>
     [⟨0, 5, .rw, false, true⟩, ⟨5, 59, .rsv, false, false⟩]
  | .dspAptCfg _ =>
     [⟨0, 8, .rw, false, true⟩, ⟨8, 56, .rsv, false, false⟩]
  | .dspDomeCfg _ =>
     [⟨0, 2, .rw, false, true⟩, ⟨2, 1, .rw, false, true⟩, ⟨3, 2, .rw, false, true⟩,
      ⟨5, 1, .rw, false, true⟩, ⟨6, 2, .rsv, false, false⟩, ⟨8, 4, .rw, true, true⟩,
      ⟨12, 4, .rsv, false, false⟩, ⟨16, 10, .rw, true, true⟩, ⟨26, 38, .rsv, false, false⟩]
  | .dspDomeStat _ =>
     [⟨0, 10, .ro, false, false⟩, ⟨10, 6, .rsv, false, false⟩, ⟨16, 10, .ro, false, false⟩,
      ⟨26, 6, .rsv, false, false⟩, ⟨32, 16, .rc, false, false⟩, ⟨48, 16, .rc, false, false⟩]
  | .dspSchedCmd _ =>
     [⟨0, 1, .wo, false, false⟩, ⟨1, 1, .wo, false, false⟩, ⟨2, 6, .rsv, false, false⟩,
      ⟨8, 1, .ro, false, false⟩, ⟨9, 1, .ro, false, false⟩, ⟨10, 6, .rsv, false, false⟩,
      ⟨16, 16, .ro, false, false⟩, ⟨32, 16, .ro, false, false⟩, ⟨48, 16, .rsv, false, false⟩]
  | .dspSchedShadow _ _ =>
     [⟨0, 64, .rw, false, false⟩]
  | .dspSchedActive _ _ =>
     [⟨0, 64, .ro, false, true⟩]
  | .dspViShare _ =>
     [⟨0, 8, .rw, false, true⟩, ⟨8, 3, .rw, false, true⟩, ⟨11, 53, .rsv, false, false⟩]
  | .dspViBucket _ _ =>
     [⟨0, 19, .rw, false, true⟩, ⟨19, 13, .rsv, false, false⟩, ⟨32, 15, .rw, false, true⟩,
      ⟨47, 17, .rsv, false, false⟩]
  | .dspViFill _ _ =>
     [⟨0, 25, .ro, false, false⟩, ⟨25, 7, .rsv, false, false⟩, ⟨32, 1, .ro, false, false⟩,
      ⟨33, 31, .rsv, false, false⟩]
  | .dspGuideCfg _ =>
     [⟨0, 3, .rw, false, true⟩, ⟨3, 5, .rsv, false, false⟩, ⟨8, 8, .rw, false, true⟩,
      ⟨16, 16, .rw, true, true⟩, ⟨32, 32, .rsv, false, false⟩]
  | .dspGuideStat _ =>
     [⟨0, 16, .rc, false, false⟩, ⟨16, 16, .rc, false, false⟩, ⟨32, 16, .rc, false, false⟩,
      ⟨48, 15, .rsv, false, false⟩, ⟨63, 1, .ro, false, false⟩]
  | .viCmd _ =>
     [⟨0, 3, .wo, false, false⟩, ⟨3, 2, .wo, false, false⟩, ⟨5, 11, .rsv, false, false⟩,
      ⟨16, 11, .wo, false, false⟩, ⟨27, 5, .rsv, false, false⟩, ⟨32, 11, .wo, false, false⟩,
      ⟨43, 21, .rsv, false, false⟩]
  | .viCreateA _ =>
     [⟨0, 8, .rw, false, false⟩, ⟨8, 8, .rw, false, false⟩, ⟨16, 12, .rw, false, false⟩,
      ⟨28, 4, .rsv, false, false⟩, ⟨32, 5, .rw, false, false⟩, ⟨37, 3, .rsv, false, false⟩,
      ⟨40, 15, .rw, false, false⟩, ⟨55, 9, .rsv, false, false⟩]
  | .viCreateB _ =>
     [⟨0, 12, .rw, false, false⟩, ⟨12, 4, .rsv, false, false⟩, ⟨16, 16, .rw, false, false⟩,
      ⟨32, 32, .rsv, false, false⟩]
  | .viCmdStatus _ =>
     [⟨0, 8, .ro, false, false⟩, ⟨8, 11, .ro, false, false⟩, ⟨19, 5, .rsv, false, false⟩,
      ⟨24, 1, .ro, false, false⟩, ⟨25, 39, .rsv, false, false⟩]
  | .viLastReset =>
     [⟨0, 11, .ro, false, false⟩, ⟨11, 3, .ro, false, false⟩, ⟨14, 2, .rsv, false, false⟩,
      ⟨16, 16, .ro, false, false⟩, ⟨32, 32, .ro, false, false⟩]
  | .viPool _ _ =>
     [⟨0, 32, .ro, false, false⟩, ⟨32, 32, .ro, false, false⟩]
  | .viEntry _ =>
     [⟨0, 1, .ro, false, true⟩, ⟨1, 2, .ro, false, false⟩, ⟨3, 2, .ro, false, true⟩,
      ⟨5, 11, .ro, false, true⟩, ⟨16, 13, .ro, false, true⟩, ⟨29, 3, .rsv, false, false⟩,
      ⟨32, 8, .ro, false, true⟩, ⟨40, 8, .rsv, false, false⟩, ⟨48, 16, .ro, false, true⟩]
  | .viRes _ =>
     [⟨0, 12, .ro, false, true⟩, ⟨12, 5, .ro, false, true⟩, ⟨17, 15, .ro, false, true⟩,
      ⟨32, 12, .ro, false, true⟩, ⟨44, 4, .rsv, false, false⟩, ⟨48, 16, .ro, false, true⟩]
  | .viCtrl _ =>
     [⟨0, 2, .rw, false, true⟩, ⟨2, 6, .rsv, false, false⟩, ⟨8, 8, .rw, false, true⟩,
      ⟨16, 48, .rsv, false, false⟩]
  | .logSpillCfg =>
     [⟨0, 14, .rw, false, true⟩, ⟨14, 18, .rsv, false, false⟩, ⟨32, 18, .ro, false, false⟩,
      ⟨50, 14, .rsv, false, false⟩]
  | .logFaultLq _ =>
     [⟨0, 12, .rw, false, true⟩, ⟨12, 3, .rsv, false, false⟩, ⟨15, 1, .rw, false, true⟩,
      ⟨16, 48, .rsv, false, false⟩]
  | .logQGeom _ =>
     [⟨0, 5, .rw, false, true⟩, ⟨5, 3, .rsv, false, false⟩, ⟨8, 8, .rw, false, true⟩,
      ⟨16, 26, .rw, false, true⟩, ⟨42, 2, .rw, false, true⟩, ⟨44, 20, .rsv, false, false⟩]
  | .logQIrq _ =>
     [⟨0, 11, .rw, false, true⟩, ⟨11, 2, .rw, false, true⟩, ⟨13, 1, .rw, false, true⟩,
      ⟨14, 1, .rw, false, true⟩, ⟨15, 1, .rw, false, true⟩, ⟨16, 48, .rsv, false, false⟩]
  | .logQStat _ =>
     [⟨0, 27, .ro, false, false⟩, ⟨27, 5, .rsv, false, false⟩, ⟨32, 16, .ro, false, false⟩,
      ⟨48, 8, .ro, false, false⟩, ⟨56, 8, .ro, false, false⟩]
  | .logQLost _ =>
     [⟨0, 32, .ro, false, false⟩, ⟨32, 32, .ro, false, false⟩]
  | .merPortGeom _ =>
     [⟨0, 1, .ro, false, false⟩, ⟨1, 7, .rsv, false, false⟩, ⟨8, 5, .ro, false, false⟩,
      ⟨13, 3, .rsv, false, false⟩, ⟨16, 2, .ro, false, false⟩, ⟨18, 6, .rsv, false, false⟩,
      ⟨24, 4, .ro, false, false⟩, ⟨28, 4, .ro, false, false⟩, ⟨32, 32, .rsv, false, false⟩]
  | .merPortCtrl _ =>
     [⟨0, 4, .rw, true, true⟩, ⟨4, 4, .rsv, false, false⟩, ⟨8, 12, .rw, true, true⟩,
      ⟨20, 4, .rsv, false, false⟩, ⟨24, 1, .rw, false, true⟩, ⟨25, 39, .rsv, false, false⟩]
  | .merPortStat _ =>
     [⟨0, 1, .ro, false, false⟩, ⟨1, 1, .ro, false, false⟩, ⟨2, 1, .ro, false, false⟩,
      ⟨3, 1, .ro, false, false⟩, ⟨4, 4, .rsv, false, false⟩, ⟨8, 8, .ro, false, false⟩,
      ⟨16, 13, .ro, false, false⟩, ⟨29, 3, .rsv, false, false⟩, ⟨32, 13, .ro, false, false⟩,
      ⟨45, 19, .rsv, false, false⟩]
  | .merCredit _ =>
     [⟨0, 16, .ro, false, false⟩, ⟨16, 16, .ro, false, false⟩, ⟨32, 16, .ro, false, false⟩,
      ⟨48, 16, .ro, false, false⟩]
  | .merErrCnt _ =>
     [⟨0, 16, .ro, false, false⟩, ⟨16, 16, .ro, false, false⟩, ⟨32, 16, .ro, false, false⟩,
      ⟨48, 16, .ro, false, false⟩]
  | .merErrLast _ =>
     [⟨0, 12, .ro, false, false⟩, ⟨12, 4, .ro, false, false⟩, ⟨16, 4, .ro, false, false⟩,
      ⟨20, 12, .rsv, false, false⟩, ⟨32, 31, .ro, false, false⟩, ⟨63, 1, .w1c, false, false⟩]
  | .merEventDrop _ =>
     [⟨0, 32, .ro, false, false⟩, ⟨32, 32, .rsv, false, false⟩]
  | .trnBusCfg =>
     [⟨0, 1, .ro, false, false⟩, ⟨1, 7, .rsv, false, false⟩, ⟨8, 8, .ro, false, false⟩,
      ⟨16, 1, .ro, false, false⟩, ⟨17, 1, .ro, false, false⟩, ⟨18, 46, .rsv, false, false⟩]
  | .trnTgtCfg =>
     [⟨0, 8, .rw, true, true⟩, ⟨8, 8, .rsv, false, false⟩, ⟨16, 24, .rw, false, true⟩,
      ⟨40, 8, .rsv, false, false⟩, ⟨48, 7, .ro, false, false⟩, ⟨55, 9, .rsv, false, false⟩]
  | .trnRanks =>
     [⟨0, 24, .rw, false, true⟩, ⟨24, 40, .rsv, false, false⟩]
  | .trnMasterCfg =>
     [⟨0, 4, .rw, true, true⟩, ⟨4, 4, .rsv, false, false⟩, ⟨8, 8, .rw, true, true⟩,
      ⟨16, 48, .rsv, false, false⟩]
  | .trnArbStat =>
     [⟨0, 8, .ro, false, false⟩, ⟨8, 3, .ro, false, false⟩, ⟨11, 1, .ro, false, false⟩,
      ⟨12, 1, .ro, false, false⟩, ⟨13, 1, .ro, false, false⟩, ⟨14, 2, .rsv, false, false⟩,
      ⟨16, 16, .rc, false, false⟩, ⟨32, 32, .rsv, false, false⟩]
  | .trnCutoff =>
     [⟨0, 8, .w1c, false, false⟩, ⟨8, 3, .ro, false, false⟩, ⟨11, 5, .rsv, false, false⟩,
      ⟨16, 16, .ro, false, false⟩, ⟨32, 32, .rsv, false, false⟩]
  | .trnErrCnt =>
     [⟨0, 16, .ro, false, false⟩, ⟨16, 16, .ro, false, false⟩, ⟨32, 16, .ro, false, false⟩,
      ⟨48, 16, .ro, false, false⟩]
  | .trnErrLast =>
     [⟨0, 40, .ro, false, false⟩, ⟨40, 3, .ro, false, false⟩, ⟨43, 4, .ro, false, false⟩,
      ⟨47, 16, .rsv, false, false⟩, ⟨63, 1, .w1c, false, false⟩]
  | .trnSvcCmd =>
     [⟨0, 40, .rw, false, false⟩, ⟨40, 8, .rw, false, false⟩, ⟨48, 2, .rw, false, false⟩,
      ⟨50, 11, .rsv, false, false⟩, ⟨61, 1, .ro, false, false⟩, ⟨62, 1, .ro, false, false⟩,
      ⟨63, 1, .ro, false, false⟩]
  | .trnSvcData =>
     [⟨0, 64, .rw, false, false⟩]
  | .trnTintSet =>
     [⟨0, 4, .w1s, false, false⟩, ⟨4, 60, .rsv, false, false⟩]
  | .trnTintClr =>
     [⟨0, 4, .w1c, false, false⟩, ⟨4, 60, .rsv, false, false⟩]
  | .trnIrqRoute _ =>
     [⟨0, 2, .rw, false, true⟩, ⟨2, 1, .rw, false, true⟩, ⟨3, 2, .rw, false, true⟩,
      ⟨5, 11, .rw, false, true⟩, ⟨16, 11, .rw, false, true⟩, ⟨27, 2, .rw, false, true⟩,
      ⟨29, 3, .rsv, false, false⟩, ⟨32, 12, .rw, false, true⟩, ⟨44, 4, .rsv, false, false⟩,
      ⟨48, 1, .rw, false, true⟩, ⟨49, 9, .rw, false, true⟩, ⟨58, 1, .ro, false, false⟩,
      ⟨59, 5, .rsv, false, false⟩]
  | .trnIrqAddr _ =>
     [⟨0, 52, .rw, false, true⟩, ⟨52, 12, .rsv, false, false⟩]
  | .trnTintCfg _ =>
     [⟨0, 2, .rw, false, true⟩, ⟨2, 2, .rsv, false, false⟩, ⟨4, 12, .rw, false, true⟩,
      ⟨16, 48, .rsv, false, false⟩]
  | .lneRefStat _ =>
     [⟨0, 1, .ro, false, false⟩, ⟨1, 31, .rsv, false, false⟩, ⟨32, 32, .ro, false, false⟩]
  | .lneHealthCfg =>
     [⟨0, 16, .rw, false, true⟩, ⟨16, 8, .rw, false, true⟩, ⟨24, 40, .rsv, false, false⟩]
  | .lneLaneStat _ =>
     [⟨0, 1, .ro, false, false⟩, ⟨1, 1, .ro, false, false⟩, ⟨2, 1, .ro, false, false⟩,
      ⟨3, 1, .ro, false, false⟩, ⟨4, 2, .ro, false, false⟩, ⟨6, 2, .rsv, false, false⟩,
      ⟨8, 16, .ro, false, false⟩, ⟨24, 16, .ro, false, false⟩, ⟨40, 16, .ro, false, false⟩,
      ⟨56, 8, .rsv, false, false⟩]
  | .lneSeeCfg _ =>
     [⟨0, 1, .rw, false, true⟩, ⟨1, 7, .rsv, false, false⟩, ⟨8, 4, .rw, true, true⟩,
      ⟨12, 4, .rsv, false, false⟩, ⟨16, 8, .rw, true, true⟩, ⟨24, 7, .rw, false, true⟩,
      ⟨31, 33, .rsv, false, false⟩]
  | .lneEyeSel _ =>
     [⟨0, 7, .rw, false, false⟩, ⟨7, 1, .rsv, false, false⟩, ⟨8, 2, .rw, false, false⟩,
      ⟨10, 6, .rsv, false, false⟩, ⟨16, 7, .rw, false, false⟩, ⟨23, 1, .rw, false, false⟩,
      ⟨24, 40, .rsv, false, false⟩]
  | .lneEyeHdr _ =>
     [⟨0, 8, .ro, false, false⟩, ⟨8, 8, .ro, false, false⟩, ⟨16, 16, .ro, false, false⟩,
      ⟨32, 31, .ro, false, false⟩, ⟨63, 1, .ro, false, false⟩]
  | .lneEyeRow _ _ =>
     [⟨0, 64, .ro, false, false⟩]
  | .ifvLinkCtrl _ =>
     [⟨0, 5, .rw, false, true⟩, ⟨5, 3, .rsv, false, false⟩, ⟨8, 1, .rw, false, true⟩,
      ⟨9, 7, .rsv, false, false⟩, ⟨16, 16, .rw, true, true⟩, ⟨32, 32, .rsv, false, false⟩]
  | .ifvLinkCmd _ =>
     [⟨0, 2, .wo, false, false⟩, ⟨2, 62, .rsv, false, false⟩]
  | .ifvLinkStat _ =>
     [⟨0, 3, .ro, false, false⟩, ⟨3, 5, .rsv, false, false⟩, ⟨8, 5, .ro, false, false⟩,
      ⟨13, 3, .rsv, false, false⟩, ⟨16, 2, .ro, false, false⟩, ⟨18, 2, .rsv, false, false⟩,
      ⟨20, 4, .ro, false, false⟩, ⟨24, 4, .ro, false, false⟩, ⟨28, 4, .ro, false, false⟩,
      ⟨32, 16, .ro, false, false⟩, ⟨48, 6, .ro, false, false⟩, ⟨54, 10, .rsv, false, false⟩]
  | .ifvLinkSeq _ =>
     [⟨0, 12, .ro, false, false⟩, ⟨12, 4, .rsv, false, false⟩, ⟨16, 12, .ro, false, false⟩,
      ⟨28, 4, .rsv, false, false⟩, ⟨32, 12, .ro, false, false⟩, ⟨44, 20, .rsv, false, false⟩]
  | .ifvLinkCnt _ =>
     [⟨0, 16, .ro, false, false⟩, ⟨16, 16, .ro, false, false⟩, ⟨32, 16, .ro, false, false⟩,
      ⟨48, 8, .ro, false, false⟩, ⟨56, 8, .ro, false, false⟩]
  | .ifvLinkTmo _ =>
     [⟨0, 32, .ro, false, false⟩, ⟨32, 32, .ro, false, false⟩]
  | .ifvPairCfg =>
     [⟨0, 1, .ro, false, false⟩, ⟨1, 1, .ro, false, false⟩, ⟨2, 2, .ro, false, false⟩,
      ⟨4, 12, .rsv, false, false⟩, ⟨16, 16, .ro, false, false⟩, ⟨32, 11, .ro, false, false⟩,
      ⟨43, 5, .rsv, false, false⟩, ⟨48, 11, .ro, false, false⟩, ⟨59, 5, .rsv, false, false⟩]
  | .ifvPairCtrl =>
     [⟨0, 16, .rw, true, true⟩, ⟨16, 32, .rw, true, true⟩, ⟨48, 1, .rw, false, true⟩,
      ⟨49, 15, .rsv, false, false⟩]
  | .ifvPairCmd =>
     [⟨0, 2, .wo, false, false⟩, ⟨2, 62, .rsv, false, false⟩]
  | .ifvPairStat =>
     [⟨0, 1, .ro, false, false⟩, ⟨1, 1, .ro, false, false⟩, ⟨2, 1, .ro, false, false⟩,
      ⟨3, 1, .ro, false, false⟩, ⟨4, 1, .ro, false, false⟩, ⟨5, 1, .ro, false, false⟩,
      ⟨6, 1, .ro, false, false⟩, ⟨7, 9, .rsv, false, false⟩, ⟨16, 11, .ro, false, false⟩,
      ⟨27, 5, .rsv, false, false⟩, ⟨32, 11, .ro, false, false⟩, ⟨43, 5, .rsv, false, false⟩,
      ⟨48, 3, .ro, false, false⟩, ⟨51, 13, .rsv, false, false⟩]
  | .ifvMirrorStat =>
     [⟨0, 16, .ro, false, false⟩, ⟨16, 16, .rc, false, false⟩, ⟨32, 16, .ro, false, false⟩,
      ⟨48, 16, .ro, false, false⟩]
  | .ifvJournal =>
     [⟨0, 16, .ro, false, false⟩, ⟨16, 16, .rsv, false, false⟩, ⟨32, 32, .ro, false, false⟩]
  | .pwrMode =>
     [⟨0, 4, .ro, false, false⟩, ⟨4, 4, .ro, false, false⟩, ⟨8, 4, .ro, false, false⟩,
      ⟨12, 4, .rsv, false, false⟩, ⟨16, 11, .ro, false, false⟩, ⟨27, 5, .rsv, false, false⟩,
      ⟨32, 1, .ro, false, false⟩, ⟨33, 31, .rsv, false, false⟩]
  | .pwrModeCmd =>
     [⟨0, 3, .wo, false, false⟩, ⟨3, 61, .rsv, false, false⟩]
  | .pwrDimCfg =>
     [⟨0, 1, .rw, false, true⟩, ⟨1, 7, .rsv, false, false⟩, ⟨8, 32, .rw, false, true⟩,
      ⟨40, 24, .rsv, false, false⟩]
  | .pwrSidCal =>
     [⟨0, 6, .ro, false, false⟩, ⟨6, 2, .rsv, false, false⟩, ⟨8, 4, .rw, false, true⟩,
      ⟨12, 1, .rw, false, true⟩, ⟨13, 1, .ro, false, false⟩, ⟨14, 2, .rsv, false, false⟩,
      ⟨16, 16, .rw, false, true⟩, ⟨32, 16, .ro, false, false⟩, ⟨48, 16, .rsv, false, false⟩]
  | .pwrSidTime =>
     [⟨0, 64, .ro, false, false⟩]
  | .pwrSidWake =>
     [⟨0, 63, .rw, false, false⟩, ⟨63, 1, .rw, false, false⟩]
  | .pwrDomeClk _ =>
     [⟨0, 2, .rw, true, true⟩, ⟨2, 6, .rsv, false, false⟩, ⟨8, 16, .rw, true, true⟩,
      ⟨24, 40, .rsv, false, false⟩]
  | .pwrDomPol _ =>
     [⟨0, 2, .ro, false, false⟩, ⟨2, 14, .rsv, false, false⟩, ⟨16, 16, .ro, false, false⟩,
      ⟨32, 32, .rsv, false, false⟩]
  | .pwrDomStat _ =>
     [⟨0, 3, .ro, false, false⟩, ⟨3, 13, .rsv, false, false⟩, ⟨16, 16, .rc, false, false⟩,
      ⟨32, 16, .rc, false, false⟩, ⟨48, 16, .rsv, false, false⟩]
  | .fltLadder _ =>
     [⟨0, 32, .ro, false, false⟩, ⟨32, 32, .rsv, false, false⟩]
  | .fltRecStat =>
     [⟨0, 32, .ro, false, false⟩, ⟨32, 11, .ro, false, false⟩, ⟨43, 21, .rsv, false, false⟩]
  | .fltLast _ =>
     [⟨0, 64, .ro, false, false⟩]
  | .fltEcc =>
     [⟨0, 24, .ro, false, false⟩, ⟨24, 16, .ro, false, false⟩, ⟨40, 8, .ro, false, false⟩,
      ⟨48, 16, .rsv, false, false⟩]
  | .fltQuarCtrl =>
     [⟨0, 1, .rw, false, false⟩, ⟨1, 1, .wo, false, false⟩, ⟨2, 1, .wo, false, false⟩,
      ⟨3, 61, .rsv, false, false⟩]
  | .fltQuarStat =>
     [⟨0, 3, .ro, false, false⟩, ⟨3, 5, .rsv, false, false⟩, ⟨8, 8, .ro, false, false⟩,
      ⟨16, 40, .ro, false, false⟩, ⟨56, 2, .ro, false, true⟩, ⟨58, 1, .ro, false, false⟩,
      ⟨59, 1, .ro, false, false⟩, ⟨60, 4, .rsv, false, false⟩]
  | .fltQuarTick =>
     [⟨0, 63, .ro, false, false⟩, ⟨63, 1, .rsv, false, false⟩]
  | .fltLife _ =>
     [⟨0, 64, .ro, false, true⟩]
  | .eyeSel _ =>
     [⟨0, 8, .rw, false, false⟩, ⟨8, 1, .rw, false, false⟩, ⟨9, 7, .rsv, false, false⟩,
      ⟨16, 40, .rw, false, false⟩, ⟨56, 8, .rsv, false, false⟩]
  | .eyeStatus _ =>
     [⟨0, 1, .ro, false, false⟩, ⟨1, 1, .ro, false, false⟩, ⟨2, 6, .rsv, false, false⟩,
      ⟨8, 31, .ro, false, false⟩, ⟨39, 25, .rsv, false, false⟩]
  | .eyeInfo _ =>
     [⟨0, 40, .ro, false, false⟩, ⟨40, 8, .ro, false, false⟩, ⟨48, 16, .rsv, false, false⟩]
  | .eyeRec _ _ =>
     [⟨0, 64, .ro, false, false⟩]
  | .arcMap =>
     [⟨0, 16, .ro, false, false⟩, ⟨16, 16, .ro, false, false⟩, ⟨32, 16, .ro, false, false⟩,
      ⟨48, 16, .ro, false, false⟩]
  | .arcStat =>
     [⟨0, 1, .ro, false, false⟩, ⟨1, 1, .ro, false, false⟩, ⟨2, 6, .rsv, false, false⟩,
      ⟨8, 16, .ro, false, false⟩, ⟨24, 40, .rsv, false, false⟩]
  | .arcRankUse =>
     [⟨0, 16, .rc, false, false⟩, ⟨16, 16, .rc, false, false⟩, ⟨32, 16, .rc, false, false⟩,
      ⟨48, 16, .rc, false, false⟩]
  | .fndShadow _ 0 =>
     [⟨0, 63, .rw, false, false⟩, ⟨63, 1, .rw, false, false⟩]
  | .fndShadow _ 1 =>
     [⟨0, 63, .rw, false, false⟩, ⟨63, 1, .rw, false, false⟩]
  | .fndShadow _ 2 =>
     [⟨0, 36, .rw, false, false⟩, ⟨36, 4, .rw, false, false⟩, ⟨40, 20, .rw, false, false⟩, ⟨60, 4, .rsv, false, false⟩]
  | .fndShadow _ 3 =>
     [⟨0, 2, .rw, false, false⟩, ⟨2, 2, .rw, false, false⟩, ⟨4, 3, .rw, false, false⟩, ⟨7, 1, .rw, false, false⟩, ⟨8, 3, .rw, false, false⟩, ⟨11, 1, .rw, false, false⟩, ⟨12, 2, .rw, false, false⟩, ⟨14, 1, .rw, false, false⟩, ⟨15, 1, .rw, false, false⟩, ⟨16, 1, .rw, false, false⟩, ⟨17, 1, .rw, false, false⟩, ⟨18, 1, .rw, false, false⟩, ⟨19, 11, .rw, false, false⟩, ⟨30, 8, .rw, false, false⟩, ⟨38, 1, .rw, false, false⟩, ⟨39, 25, .rsv, false, false⟩]
  | .fndShadow _ _ => [⟨0, 64, .rw, false, false⟩]
  | .fndActive _ _ => [⟨0, 64, .ro, false, false⟩]

/-- The value of a register after reset as its field table gives it; the rows marked A or Part are 0 here and are
set by `Reg.resetValue`. -/
def Reg.tableReset : Reg → Word
  | .blkVer _ => 0x100
  | .idBoot => 0x4
  | .almFlashCfg => 0x11400
  | .almFlashEff => 0x11401c8
  | .ordAptCfg _ => 0x6ddd001
  | .fndChCtrl _ => 0xffff00
  | .fndChStatus _ => 0x10
  | .dspSegCfg => 0xd
  | .dspAptCfg _ => 0x10
  | .dspDomeCfg _ => 0x400424
  | .dspGuideCfg _ => 0x190000
  | .viCtrl _ => 0x6400
  | .merPortCtrl _ => 0x1908
  | .trnTgtCfg => 0x9c40019
  | .trnMasterCfg => 0x1008
  | .lneHealthCfg => 0x80032
  | .lneSeeCfg _ => 0xa01
  | .ifvLinkCtrl _ => 0x13880100
  | .ifvPairCtrl => 0x1002625a000fa
  | .pwrMode => 0x2
  | .pwrDimCfg => 0x3d09000
  | .pwrSidCal => 0x3e81000
  | .pwrDomeClk _ => 0x10000
  | .fltRecStat => 0x100000000
  | .eyeInfo _ => 0x10000000000
  | _ => 0

/-- Whether `o` is one of the `n` places `base + stride * i`; the index when it is. -/
def slotOf (base stride n o : Nat) : Option Nat :=
  if base ≤ o ∧ (o - base) % stride = 0 ∧ (o - base) / stride < n then some ((o - base) / stride) else none

/-- As `slotOf` with two indices: `base + s1 * i + s2 * j` with `i < n1` and `j < n2`. -/
def slotOf2 (base s1 n1 s2 n2 o : Nat) : Option (Nat × Nat) :=
  if base ≤ o ∧ (o - base) / s1 < n1 ∧ (o - base) % s1 % s2 = 0 ∧ (o - base) % s1 / s2 < n2 then
    some ((o - base) / s1, (o - base) % s1 / s2)
  else none

/-- The block whose range holds an offset (R451, R452): the identity block at or above 0x0140_0000. -/
def Blk.ofOffset (o : Nat) : Blk :=
  let c := o / 0x100000
  if c = 0 then .id else if c = 1 then .alm else if c = 2 then .apt ((o / 0x40000) % 4) else if c ≤ 5 then .cat
  else if c = 6 then .ord else if c ≤ 8 then .fnd else if c = 9 then .dsp else if c = 0xA then .vi
  else if c = 0xB then .log else if c = 0xC then .mer else if c = 0xD then .trn else if c = 0xE then .lne
  else if c = 0xF then .ifv else if c = 0x10 then .pwr else if c = 0x11 then .flt else if c = 0x12 then .eye
  else if c = 0x13 then .arc else .id

/-- The header registers (R453). -/
def Reg.ofHeader (b : Blk) (o : Nat) : Option Reg :=
  if o = b.base then some (.blkId b)
  else if o = b.base + 8 then some (.blkVer b)
  else if o = b.base + 16 then some (.blkCtrl b)
  else if o = b.base + 24 then some (.blkStatus b)
  else if o = b.base + 32 then some (.blkReject b)
  else if o = b.base + 40 then some (.blkEvent b)
  else if o = b.base + 48 then some (.blkEventEn b)
  else none

/-- The registers of block `.id` beyond its header; `n` is the reader's or writer's bank (R465). -/
def Reg.ofId (n o : Nat) : Option Reg :=
  if o = 0x100 then some (.idBoot)
  else if o = 0x108 then some (.idPart)
  else if o = 0x110 then some (.idEventSum)
  else
    (slotOf 0x120 8 4 o).map (fun i => .idEventRoute i) <|>
    (slotOf2 0x400 256 4 8 32 o).map (fun p => .idIntPend p.1 p.2)

/-- The registers of block `.alm` beyond its header; `n` is the reader's or writer's bank (R465). -/
def Reg.ofAlm (n o : Nat) : Option Reg :=
  if o = 0x100100 then some (.almCmd)
  else if o = 0x100108 then some (.almResult)
  else if o = 0x100110 then some (.almStatus)
  else if o = 0x100160 then some (.almShelfAddr)
  else if o = 0x100168 then some (.almShelfData)
  else if o = 0x100170 then some (.almKeptUse)
  else if o = 0x100178 then some (.almApplyTime)
  else if o = 0x100180 then some (.almFlashCfg)
  else if o = 0x100188 then some (.almFlashEff)
  else if o = 0x100190 then some (.almApplyLimit)
  else
    (slotOf 0x100120 8 6 o).map (fun i => .almDigest i)

/-- The registers of Aperture block `a`. -/
def Reg.ofApt (a o : Nat) : Option Reg :=
  let e := o - (0x200000 + 0x40000 * a)
  if e = 0x100 then some (.aptLinkEff a)
  else if e = 0x108 then some (.aptLedgerCfg a)
  else if e = 0x110 then some (.aptLedgerUse a)
  else if e = 0x118 then some (.aptLateCpl a)
  else if e = 0x120 then some (.aptLateLast a)
  else if e = 0x128 then some (.aptUnexpCpl a)
  else if e = 0x130 then some (.aptMarginCfg a)
  else if e = 0x138 then some (.aptIntReissue a)
  else if e = 0x140 then some (.aptFnEvents a)
  else none

/-- The registers of block `.cat` beyond its header; `n` is the reader's or writer's bank (R465). -/
def Reg.ofCat (n o : Nat) : Option Reg :=
  if o = 0x300120 then some (.catCommit n)
  else if o = 0x300128 then some (.catCommitStatus n)
  else if o = 0x300130 then some (.catDrain n)
  else if o = 0x300138 then some (.catMiss)
  else if o = 0x300140 then some (.catMissLast)
  else
    (slotOf 0x300100 8 4 o).map (fun i => .catStage n i) <|>
    (slotOf 0x300400 8 128 o).map (fun i => .catRegion i) <|>
    (slotOf2 0x400000 32 65536 8 4 o).map (fun p => .catEntry p.1 p.2)

/-- The registers of block `.ord` beyond its header; `n` is the reader's or writer's bank (R465). -/
def Reg.ofOrd (n o : Nat) : Option Reg :=
    (slotOf 0x600100 64 4 o).map (fun i => .ordBarrier i) <|>
    (slotOf 0x600108 64 4 o).map (fun i => .ordBarrierEng i) <|>
    (slotOf 0x600110 64 4 o).map (fun i => .ordBarrierDome i) <|>
    (slotOf 0x600118 64 4 o).map (fun i => .ordBarrierSys i) <|>
    (slotOf 0x600120 64 4 o).map (fun i => .ordBarStatus i) <|>
    (slotOf 0x600300 8 4 o).map (fun i => .ordAptCfg i) <|>
    (slotOf 0x600320 8 4 o).map (fun i => .ordPbUse i) <|>
    (slotOf 0x600340 8 4 o).map (fun i => .ordAtomicStat i) <|>
    (slotOf 0x600360 8 4 o).map (fun i => .ordDiscard i)

/-- The registers of block `.fnd` beyond its header; `n` is the reader's or writer's bank (R465). -/
def Reg.ofFnd (n o : Nat) : Option Reg :=
    (slotOf 0x710000 8 8192 o).map (fun i => .fndChCtrl i) <|>
    (slotOf 0x720000 8 8192 o).map (fun i => .fndChCmd i) <|>
    (slotOf 0x730000 8 8192 o).map (fun i => .fndChStatus i) <|>
    (slotOf 0x740000 8 8192 o).map (fun i => .fndChProgress i) <|>
    (slotOf 0x750000 8 8192 o).map (fun i => .fndChFaultAddr i) <|>
    (slotOf 0x760000 8 8192 o).map (fun i => .fndChFaultInfo i) <|>
    (slotOf 0x770000 8 256 o).map (fun i => .fndFinderStat i)

/-- The registers of block `.dsp` beyond its header; `n` is the reader's or writer's bank (R465). -/
def Reg.ofDsp (n o : Nat) : Option Reg :=
  if o = 0x900100 then some (.dspSegCfg)
  else
    (slotOf 0x900480 8 4 o).map (fun i => .dspAptCfg i) <|>
    (slotOf 0x900200 8 32 o).map (fun i => .dspDomeCfg i) <|>
    (slotOf 0x900300 8 32 o).map (fun i => .dspDomeStat i) <|>
    (slotOf 0x900400 8 4 o).map (fun i => .dspSchedCmd i) <|>
    (slotOf2 0x904000 2048 8 8 256 o).map (fun p => .dspSchedShadow p.1 p.2) <|>
    (slotOf2 0x908000 2048 8 8 256 o).map (fun p => .dspSchedActive p.1 p.2) <|>
    (slotOf 0x90c000 8 2048 o).map (fun i => .dspViShare i) <|>
    (slotOf2 0x910000 16 2048 8 2 o).map (fun p => .dspViBucket p.1 p.2) <|>
    (slotOf2 0x918000 16 2048 8 2 o).map (fun p => .dspViFill p.1 p.2) <|>
    (slotOf 0x900500 8 32 o).map (fun i => .dspGuideCfg i) <|>
    (slotOf 0x900600 8 32 o).map (fun i => .dspGuideStat i)

/-- The registers of block `.vi` beyond its header; `n` is the reader's or writer's bank (R465). -/
def Reg.ofVi (n o : Nat) : Option Reg :=
  if o = 0xa00100 then some (.viCmd n)
  else if o = 0xa00108 then some (.viCreateA n)
  else if o = 0xa00110 then some (.viCreateB n)
  else if o = 0xa00118 then some (.viCmdStatus n)
  else if o = 0xa00120 then some (.viLastReset)
  else
    (slotOf2 0xa00200 64 4 8 7 o).map (fun p => .viPool p.1 p.2) <|>
    (slotOf 0xa01000 8 2048 o).map (fun i => .viEntry i) <|>
    (slotOf 0xa05000 8 2048 o).map (fun i => .viRes i) <|>
    (slotOf 0xa09000 8 2048 o).map (fun i => .viCtrl i)

/-- The registers of block `.log` beyond its header; `n` is the reader's or writer's bank (R465). -/
def Reg.ofLog (n o : Nat) : Option Reg :=
  if o = 0xb00100 then some (.logSpillCfg)
  else
    (slotOf 0xb00120 8 4 o).map (fun i => .logFaultLq i) <|>
    (slotOf 0xb10000 8 4096 o).map (fun i => .logQGeom i) <|>
    (slotOf 0xb18000 8 4096 o).map (fun i => .logQIrq i) <|>
    (slotOf 0xb20000 8 4096 o).map (fun i => .logQStat i) <|>
    (slotOf 0xb28000 8 4096 o).map (fun i => .logQLost i)

/-- The registers of block `.mer` beyond its header; `n` is the reader's or writer's bank (R465). -/
def Reg.ofMer (n o : Nat) : Option Reg :=
    (slotOf 0xc00100 64 4 o).map (fun i => .merPortGeom i) <|>
    (slotOf 0xc00108 64 4 o).map (fun i => .merPortCtrl i) <|>
    (slotOf 0xc00110 64 4 o).map (fun i => .merPortStat i) <|>
    (slotOf 0xc00118 64 4 o).map (fun i => .merCredit i) <|>
    (slotOf 0xc00120 64 4 o).map (fun i => .merErrCnt i) <|>
    (slotOf 0xc00128 64 4 o).map (fun i => .merErrLast i) <|>
    (slotOf 0xc00130 64 4 o).map (fun i => .merEventDrop i)

/-- The registers of block `.trn` beyond its header; `n` is the reader's or writer's bank (R465). -/
def Reg.ofTrn (n o : Nat) : Option Reg :=
  if o = 0xd00100 then some (.trnBusCfg)
  else if o = 0xd00108 then some (.trnTgtCfg)
  else if o = 0xd00110 then some (.trnRanks)
  else if o = 0xd00118 then some (.trnMasterCfg)
  else if o = 0xd00120 then some (.trnArbStat)
  else if o = 0xd00128 then some (.trnCutoff)
  else if o = 0xd00130 then some (.trnErrCnt)
  else if o = 0xd00138 then some (.trnErrLast)
  else if o = 0xd00140 then some (.trnSvcCmd)
  else if o = 0xd00148 then some (.trnSvcData)
  else if o = 0xd00320 then some (.trnTintSet)
  else if o = 0xd00328 then some (.trnTintClr)
  else
    (slotOf 0xd00200 8 16 o).map (fun i => .trnIrqRoute i) <|>
    (slotOf 0xd00280 8 16 o).map (fun i => .trnIrqAddr i) <|>
    (slotOf 0xd00300 8 4 o).map (fun i => .trnTintCfg i)

/-- The registers of block `.lne` beyond its header; `n` is the reader's or writer's bank (R465). -/
def Reg.ofLne (n o : Nat) : Option Reg :=
  if o = 0xe00180 then some (.lneHealthCfg)
  else if o = 0xe00900 then some (.lneEyeSel n)
  else if o = 0xe00908 then some (.lneEyeHdr n)
  else
    (slotOf 0xe00100 8 9 o).map (fun i => .lneRefStat i) <|>
    (slotOf 0xe00200 8 72 o).map (fun i => .lneLaneStat i) <|>
    (slotOf 0xe00600 8 72 o).map (fun i => .lneSeeCfg i) <|>
    (slotOf 0xe00940 8 8 o).map (fun i => .lneEyeRow n i)

/-- The registers of block `.ifv` beyond its header; `n` is the reader's or writer's bank (R465). -/
def Reg.ofIfv (n o : Nat) : Option Reg :=
  if o = 0xf00300 then some (.ifvPairCfg)
  else if o = 0xf00308 then some (.ifvPairCtrl)
  else if o = 0xf00310 then some (.ifvPairCmd)
  else if o = 0xf00318 then some (.ifvPairStat)
  else if o = 0xf00320 then some (.ifvMirrorStat)
  else if o = 0xf00328 then some (.ifvJournal)
  else
    (slotOf 0xf00100 64 5 o).map (fun i => .ifvLinkCtrl i) <|>
    (slotOf 0xf00108 64 5 o).map (fun i => .ifvLinkCmd i) <|>
    (slotOf 0xf00110 64 5 o).map (fun i => .ifvLinkStat i) <|>
    (slotOf 0xf00118 64 5 o).map (fun i => .ifvLinkSeq i) <|>
    (slotOf 0xf00120 64 5 o).map (fun i => .ifvLinkCnt i) <|>
    (slotOf 0xf00128 64 5 o).map (fun i => .ifvLinkTmo i)

/-- The registers of block `.pwr` beyond its header; `n` is the reader's or writer's bank (R465). -/
def Reg.ofPwr (n o : Nat) : Option Reg :=
  if o = 0x1000100 then some (.pwrMode)
  else if o = 0x1000108 then some (.pwrModeCmd)
  else if o = 0x1000110 then some (.pwrDimCfg)
  else if o = 0x1000180 then some (.pwrSidCal)
  else if o = 0x1000188 then some (.pwrSidTime)
  else if o = 0x1000190 then some (.pwrSidWake)
  else
    (slotOf 0x1000200 8 32 o).map (fun i => .pwrDomeClk i) <|>
    (slotOf 0x1000400 8 96 o).map (fun i => .pwrDomPol i) <|>
    (slotOf 0x1000800 8 96 o).map (fun i => .pwrDomStat i)

/-- The registers of block `.flt` beyond its header; `n` is the reader's or writer's bank (R465). -/
def Reg.ofFlt (n o : Nat) : Option Reg :=
  if o = 0x1100180 then some (.fltRecStat)
  else if o = 0x11001c0 then some (.fltEcc)
  else if o = 0x1100200 then some (.fltQuarCtrl)
  else if o = 0x1100208 then some (.fltQuarStat)
  else if o = 0x1100210 then some (.fltQuarTick)
  else
    (slotOf 0x1100100 8 15 o).map (fun i => .fltLadder i) <|>
    (slotOf 0x1100190 8 4 o).map (fun i => .fltLast i) <|>
    (slotOf 0x1101000 8 512 o).map (fun i => .fltLife i)

/-- The registers of block `.eye` beyond its header; `n` is the reader's or writer's bank (R465). -/
def Reg.ofEye (n o : Nat) : Option Reg :=
  if o = 0x1200100 then some (.eyeSel n)
  else if o = 0x1200108 then some (.eyeStatus n)
  else if o = 0x1200110 then some (.eyeInfo n)
  else
    (slotOf 0x1200140 8 8 o).map (fun i => .eyeRec n i)

/-- The registers of block `.arc` beyond its header; `n` is the reader's or writer's bank (R465). -/
def Reg.ofArc (n o : Nat) : Option Reg :=
  if o = 0x1300100 then some (.arcMap)
  else if o = 0x1300108 then some (.arcStat)
  else if o = 0x1300110 then some (.arcRankUse)
  else
    none

/-- The register at an offset that is a multiple of 8, for bank `n` (R451, R471). -/
def Reg.ofOffset (n o : Nat) : Option Reg :=
  let b := Blk.ofOffset o
  Reg.ofHeader b o <|>
  match b with
  | .id => Reg.ofId n o | .alm => Reg.ofAlm n o | .apt a => Reg.ofApt a o | .cat => Reg.ofCat n o
  | .ord => Reg.ofOrd n o
  | .fnd => Reg.ofFnd n o <|> (slotOf2 0x800000 128 8192 8 8 o).map (fun p => .fndShadow p.1 p.2) <|>
      (slotOf2 0x800040 128 8192 8 8 o).map (fun p => .fndActive p.1 p.2)
  | .dsp => Reg.ofDsp n o | .vi => Reg.ofVi n o | .log => Reg.ofLog n o | .mer => Reg.ofMer n o
  | .trn => Reg.ofTrn n o | .lne => Reg.ofLne n o | .ifv => Reg.ofIfv n o | .pwr => Reg.ofPwr n o
  | .flt => Reg.ofFlt n o | .eye => Reg.ofEye n o | .arc => Reg.ofArc n o

end Sys2Proof.Machine
end

