-- ==== Sys2Proof/Machine/Fields.lean ====
section
/-!
DEFINITION. The named fields of the registers: lowest bit and width of each, transcribed from the spec's field tables.
-/
namespace Sys2Proof.Machine

/-- A field's place in its word: lowest bit and width. -/
structure Fld where
  lo : Nat
  len : Nat
  deriving DecidableEq, Repr

namespace Fld

/-- BLK_ID.BLOCK (R454) -/
def blkId_BLOCK : Fld := ⟨0, 8⟩
/-- BLK_ID.INSTANCE (R454) -/
def blkId_INSTANCE : Fld := ⟨8, 8⟩
/-- BLK_VER.MINOR (R454) -/
def blkVer_MINOR : Fld := ⟨0, 8⟩
/-- BLK_VER.MAJOR (R454) -/
def blkVer_MAJOR : Fld := ⟨8, 8⟩
/-- BLK_CTRL.EXPERT_EN (R454) -/
def blkCtrl_EXPERT_EN : Fld := ⟨0, 1⟩
/-- BLK_STATUS.OVERRIDDEN (R454) -/
def blkStatus_OVERRIDDEN : Fld := ⟨0, 1⟩
/-- BLK_STATUS.FUSED (R454) -/
def blkStatus_FUSED : Fld := ⟨1, 1⟩
/-- BLK_STATUS.OVERRIDES (R454) -/
def blkStatus_OVERRIDES : Fld := ⟨8, 8⟩
/-- BLK_REJECT.OFFSET (R455) -/
def blkReject_OFFSET : Fld := ⟨0, 26⟩
/-- BLK_REJECT.HALF (R455) -/
def blkReject_HALF : Fld := ⟨26, 1⟩
/-- BLK_REJECT.REASON (R455) -/
def blkReject_REASON : Fld := ⟨32, 8⟩
/-- BLK_REJECT.WRITER (R455) -/
def blkReject_WRITER : Fld := ⟨40, 3⟩
/-- BLK_REJECT.VF (R455) -/
def blkReject_VF : Fld := ⟨44, 11⟩
/-- BLK_REJECT.COUNT (R455) -/
def blkReject_COUNT : Fld := ⟨55, 8⟩
/-- BLK_REJECT.VALID (R455) -/
def blkReject_VALID : Fld := ⟨63, 1⟩
/-- BLK_EVENT.EVENTS (R455) -/
def blkEvent_EVENTS : Fld := ⟨0, 31⟩
/-- BLK_EVENT.REJECT (R455) -/
def blkEvent_REJECT : Fld := ⟨31, 1⟩
/-- BLK_EVENT_EN.HOST_EN (R455) -/
def blkEventEn_HOST_EN : Fld := ⟨0, 32⟩
/-- BLK_EVENT_EN.SVC_EN (R455) -/
def blkEventEn_SVC_EN : Fld := ⟨32, 32⟩
/-- ID_BOOT.ALM_SRC (R429) -/
def idBoot_ALM_SRC : Fld := ⟨0, 2⟩
/-- ID_BOOT.BOOT_BARE_N (R429) -/
def idBoot_BOOT_BARE_N : Fld := ⟨2, 1⟩
/-- ID_BOOT.PAIR_ID (R429) -/
def idBoot_PAIR_ID : Fld := ⟨3, 1⟩
/-- ID_BOOT.CAUSE (R429) -/
def idBoot_CAUSE : Fld := ⟨8, 3⟩
/-- ID_BOOT.READY_TICKS (R429) -/
def idBoot_READY_TICKS : Fld := ⟨16, 32⟩
/-- ID_PART.PART (R467) -/
def idPart_PART : Fld := ⟨0, 16⟩
/-- ID_PART.DIE_REV (R467) -/
def idPart_DIE_REV : Fld := ⟨16, 8⟩
/-- ID_PART.DOMES (R467) -/
def idPart_DOMES : Fld := ⟨32, 6⟩
/-- ID_PART.APERTURES (R467) -/
def idPart_APERTURES : Fld := ⟨40, 3⟩
/-- ID_PART.VI_COUNT (R467) -/
def idPart_VI_COUNT : Fld := ⟨48, 12⟩
/-- ID_EVENT_SUM.PENDING (R467) -/
def idEventSum_PENDING : Fld := ⟨0, 23⟩
/-- ID_EVENT_SUM.SVC_PENDING (R467) -/
def idEventSum_SVC_PENDING : Fld := ⟨32, 23⟩
/-- ID_EVENT_ROUTE.VECTOR (R467) -/
def idEventRoute_VECTOR : Fld := ⟨0, 11⟩
/-- ID_EVENT_ROUTE.EN (R467) -/
def idEventRoute_EN : Fld := ⟨11, 1⟩
/-- ID_EVENT_ROUTE.MASK (R467) -/
def idEventRoute_MASK : Fld := ⟨32, 23⟩
/-- ID_INT_PEND.PEND (R468) -/
def idIntPend_PEND : Fld := ⟨0, 64⟩
/-- ALM_CMD.CMD (R56) -/
def almCmd_CMD : Fld := ⟨0, 4⟩
/-- ALM_RESULT.CODE (R57) -/
def almResult_CODE : Fld := ⟨0, 8⟩
/-- ALM_RESULT.SECTION (R57) -/
def almResult_SECTION : Fld := ⟨8, 16⟩
/-- ALM_RESULT.RECORD (R57) -/
def almResult_RECORD : Fld := ⟨24, 32⟩
/-- ALM_RESULT.DONE (R57) -/
def almResult_DONE : Fld := ⟨56, 1⟩
/-- ALM_STATUS.SOURCE (R58) -/
def almStatus_SOURCE : Fld := ⟨0, 2⟩
/-- ALM_STATUS.SLOT (R58) -/
def almStatus_SLOT : Fld := ⟨2, 1⟩
/-- ALM_STATUS.SIGNED (R58) -/
def almStatus_SIGNED : Fld := ⟨3, 1⟩
/-- ALM_STATUS.SEALED (R58) -/
def almStatus_SEALED : Fld := ⟨4, 1⟩
/-- ALM_STATUS.AUTH_FUSE (R58) -/
def almStatus_AUTH_FUSE : Fld := ⟨5, 1⟩
/-- ALM_STATUS.AUX_LOST (R58) -/
def almStatus_AUX_LOST : Fld := ⟨6, 1⟩
/-- ALM_STATUS.REPLAYED (R58) -/
def almStatus_REPLAYED : Fld := ⟨7, 1⟩
/-- ALM_STATUS.DELTA_DISCARDED (R58) -/
def almStatus_DELTA_DISCARDED : Fld := ⟨8, 1⟩
/-- ALM_STATUS.DELTA_OVERFLOW (R58) -/
def almStatus_DELTA_OVERFLOW : Fld := ⟨9, 1⟩
/-- ALM_STATUS.STAGED (R58) -/
def almStatus_STAGED : Fld := ⟨10, 1⟩
/-- ALM_STATUS.BUSY (R58) -/
def almStatus_BUSY : Fld := ⟨11, 1⟩
/-- ALM_STATUS.SLOT_FALLBACK (R58) -/
def almStatus_SLOT_FALLBACK : Fld := ⟨12, 1⟩
/-- ALM_SHELF_ADDR.OFFSET (R60) -/
def almShelfAddr_OFFSET : Fld := ⟨0, 23⟩
/-- ALM_SHELF_DATA.DATA (R60) -/
def almShelfData_DATA : Fld := ⟨0, 64⟩
/-- ALM_KEPT_USE.DELTA_BYTES (R60) -/
def almKeptUse_DELTA_BYTES : Fld := ⟨0, 19⟩
/-- ALM_KEPT_USE.SKIPPED (R60) -/
def almKeptUse_SKIPPED : Fld := ⟨19, 13⟩
/-- ALM_KEPT_USE.DELTA_RECORDS (R60) -/
def almKeptUse_DELTA_RECORDS : Fld := ⟨32, 20⟩
/-- ALM_APPLY_TIME.TICKS (R60) -/
def almApplyTime_TICKS : Fld := ⟨0, 32⟩
/-- ALM_FLASH_CFG.SPEED (R61) -/
def almFlashCfg_SPEED : Fld := ⟨0, 2⟩
/-- ALM_FLASH_CFG.DUMMY (R61) -/
def almFlashCfg_DUMMY : Fld := ⟨8, 5⟩
/-- ALM_FLASH_CFG.DQS_EN (R61) -/
def almFlashCfg_DQS_EN : Fld := ⟨16, 1⟩
/-- ALM_FLASH_CFG.SLOT_PREF (R61) -/
def almFlashCfg_SLOT_PREF : Fld := ⟨24, 1⟩
/-- ALM_FLASH_EFF.CLK_MHZ (R61) -/
def almFlashEff_CLK_MHZ : Fld := ⟨0, 8⟩
/-- ALM_FLASH_EFF.DDR (R61) -/
def almFlashEff_DDR : Fld := ⟨8, 1⟩
/-- ALM_FLASH_EFF.DUMMY (R61) -/
def almFlashEff_DUMMY : Fld := ⟨16, 5⟩
/-- ALM_FLASH_EFF.DQS_EN (R61) -/
def almFlashEff_DQS_EN : Fld := ⟨24, 1⟩
/-- ALM_APPLY_LIMIT.TICKS (R62) -/
def almApplyLimit_TICKS : Fld := ⟨0, 32⟩
/-- ALM_DIGEST.DIGEST (R59) -/
def almDigest_DIGEST : Fld := ⟨0, 64⟩
/-- APT_LINK_EFF.RATE (R95) -/
def aptLinkEff_RATE : Fld := ⟨0, 3⟩
/-- APT_LINK_EFF.WIDTH (R95) -/
def aptLinkEff_WIDTH : Fld := ⟨8, 5⟩
/-- APT_LINK_EFF.L0P_WIDTH (R95) -/
def aptLinkEff_L0P_WIDTH : Fld := ⟨16, 5⟩
/-- APT_LINK_EFF.FLIT (R95) -/
def aptLinkEff_FLIT : Fld := ⟨24, 1⟩
/-- APT_LINK_EFF.SRIS (R95) -/
def aptLinkEff_SRIS : Fld := ⟨25, 1⟩
/-- APT_LINK_EFF.STATE (R95) -/
def aptLinkEff_STATE : Fld := ⟨26, 4⟩
/-- APT_LEDGER_CFG.QUOTA (R96) -/
def aptLedgerCfg_QUOTA : Fld := ⟨0, 15⟩
/-- APT_LEDGER_USE.HELD (R96) -/
def aptLedgerUse_HELD : Fld := ⟨0, 15⟩
/-- APT_LEDGER_USE.QUARANTINED (R96) -/
def aptLedgerUse_QUARANTINED : Fld := ⟨16, 15⟩
/-- APT_LEDGER_USE.PEAK (R96) -/
def aptLedgerUse_PEAK : Fld := ⟨32, 15⟩
/-- APT_LATE_CPL.COUNT (R97) -/
def aptLateCpl_COUNT : Fld := ⟨0, 32⟩
/-- APT_LATE_LAST.TAG (R97) -/
def aptLateLast_TAG : Fld := ⟨0, 14⟩
/-- APT_LATE_LAST.RID (R97) -/
def aptLateLast_RID : Fld := ⟨16, 16⟩
/-- APT_LATE_LAST.TICK (R97) -/
def aptLateLast_TICK : Fld := ⟨32, 31⟩
/-- APT_LATE_LAST.VALID (R97) -/
def aptLateLast_VALID : Fld := ⟨63, 1⟩
/-- APT_UNEXP_CPL.COUNT (R97) -/
def aptUnexpCpl_COUNT : Fld := ⟨0, 32⟩
/-- APT_MARGIN_CFG.SOURCE (R98) -/
def aptMarginCfg_SOURCE : Fld := ⟨0, 1⟩
/-- APT_INT_REISSUE.COUNT (R97) -/
def aptIntReissue_COUNT : Fld := ⟨0, 32⟩
/-- APT_FN_EVENTS.DROPPED_POSTED (R98) -/
def aptFnEvents_DROPPED_POSTED : Fld := ⟨0, 32⟩
/-- APT_FN_EVENTS.RESIZE_REFUSED (R98) -/
def aptFnEvents_RESIZE_REFUSED : Fld := ⟨32, 16⟩
/-- CAT_STAGE.IMAGE (R123) -/
def catStage_IMAGE : Fld := ⟨0, 64⟩
/-- CAT_COMMIT.INDEX (R123) -/
def catCommit_INDEX : Fld := ⟨0, 16⟩
/-- CAT_COMMIT_STATUS.INDEX (R124) -/
def catCommitStatus_INDEX : Fld := ⟨0, 16⟩
/-- CAT_COMMIT_STATUS.CODE (R124) -/
def catCommitStatus_CODE : Fld := ⟨16, 8⟩
/-- CAT_COMMIT_STATUS.GEN (R124) -/
def catCommitStatus_GEN : Fld := ⟨24, 8⟩
/-- CAT_COMMIT_STATUS.DONE (R124) -/
def catCommitStatus_DONE : Fld := ⟨32, 1⟩
/-- CAT_DRAIN.INDEX (R125) -/
def catDrain_INDEX : Fld := ⟨0, 16⟩
/-- CAT_DRAIN.OLD_INFLIGHT (R125) -/
def catDrain_OLD_INFLIGHT : Fld := ⟨32, 16⟩
/-- CAT_MISS.MISSES (R126) -/
def catMiss_MISSES : Fld := ⟨0, 24⟩
/-- CAT_MISS.DISABLED_HITS (R126) -/
def catMiss_DISABLED_HITS : Fld := ⟨24, 24⟩
/-- CAT_MISS.POISON_DROP (R126) -/
def catMiss_POISON_DROP : Fld := ⟨48, 16⟩
/-- CAT_MISS_LAST.ADDR (R126) -/
def catMissLast_ADDR : Fld := ⟨0, 52⟩
/-- CAT_MISS_LAST.SOURCE (R126) -/
def catMissLast_SOURCE : Fld := ⟨52, 3⟩
/-- CAT_MISS_LAST.PORT (R126) -/
def catMissLast_PORT : Fld := ⟨55, 2⟩
/-- CAT_MISS_LAST.DISABLED (R126) -/
def catMissLast_DISABLED : Fld := ⟨57, 1⟩
/-- CAT_MISS_LAST.VALID (R126) -/
def catMissLast_VALID : Fld := ⟨63, 1⟩
/-- CAT_REGION.RECORD (R127) -/
def catRegion_RECORD : Fld := ⟨0, 64⟩
/-- CAT_ENTRY.WORD (R123) -/
def catEntry_WORD : Fld := ⟨0, 64⟩
/-- ORD_BARRIER.SCOPE (R150) -/
def ordBarrier_SCOPE : Fld := ⟨0, 2⟩
/-- ORD_APT_CFG.FWD_EN (R151) -/
def ordAptCfg_FWD_EN : Fld := ⟨0, 1⟩
/-- ORD_APT_CFG.BAR_LIMIT (R151) -/
def ordAptCfg_BAR_LIMIT : Fld := ⟨8, 32⟩
/-- ORD_PB_USE.WAITING (R151) -/
def ordPbUse_WAITING : Fld := ⟨0, 11⟩
/-- ORD_PB_USE.ISSUED (R151) -/
def ordPbUse_ISSUED : Fld := ⟨16, 11⟩
/-- ORD_PB_USE.PEAK (R151) -/
def ordPbUse_PEAK : Fld := ⟨32, 11⟩
/-- ORD_ATOMIC_STAT.NATIVE (R152) -/
def ordAtomicStat_NATIVE : Fld := ⟨0, 20⟩
/-- ORD_ATOMIC_STAT.LOOPED (R152) -/
def ordAtomicStat_LOOPED : Fld := ⟨20, 20⟩
/-- ORD_ATOMIC_STAT.ABORTED (R152) -/
def ordAtomicStat_ABORTED : Fld := ⟨40, 20⟩
/-- ORD_DISCARD.ENTRIES (R152) -/
def ordDiscard_ENTRIES : Fld := ⟨0, 32⟩
/-- FND_CH_CTRL.HOME_DOME (R183) -/
def fndChCtrl_HOME_DOME : Fld := ⟨0, 5⟩
/-- FND_CH_CTRL.HOP_LIMIT (R183) -/
def fndChCtrl_HOP_LIMIT : Fld := ⟨8, 16⟩
/-- FND_CH_CMD.CMD (R183) -/
def fndChCmd_CMD : Fld := ⟨0, 3⟩
/-- FND_CH_STATUS.STATE (R184) -/
def fndChStatus_STATE : Fld := ⟨0, 2⟩
/-- FND_CH_STATUS.SHADOW (R184) -/
def fndChStatus_SHADOW : Fld := ⟨2, 2⟩
/-- FND_CH_STATUS.QUIET (R184) -/
def fndChStatus_QUIET : Fld := ⟨4, 1⟩
/-- FND_CH_STATUS.ARM_ERR (R184) -/
def fndChStatus_ARM_ERR : Fld := ⟨8, 4⟩
/-- FND_CH_STATUS.SEQ (R184) -/
def fndChStatus_SEQ : Fld := ⟨16, 16⟩
/-- FND_CH_STATUS.HOPS (R184) -/
def fndChStatus_HOPS : Fld := ⟨32, 16⟩
/-- FND_CH_STATUS.SEGS_LEFT (R184) -/
def fndChStatus_SEGS_LEFT : Fld := ⟨48, 16⟩
/-- FND_CH_PROGRESS.BYTES (R184) -/
def fndChProgress_BYTES : Fld := ⟨0, 36⟩
/-- FND_CH_FAULT_ADDR.SIDE (R185) -/
def fndChFaultAddr_SIDE : Fld := ⟨0, 64⟩
/-- FND_CH_FAULT_INFO.DIRECTION (R185) -/
def fndChFaultInfo_DIRECTION : Fld := ⟨0, 3⟩
/-- FND_CH_FAULT_INFO.TABLE (R185) -/
def fndChFaultInfo_TABLE : Fld := ⟨3, 1⟩
/-- FND_CH_FAULT_INFO.CAUSE (R185) -/
def fndChFaultInfo_CAUSE : Fld := ⟨4, 5⟩
/-- FND_CH_FAULT_INFO.SEGMENT (R185) -/
def fndChFaultInfo_SEGMENT : Fld := ⟨16, 32⟩
/-- FND_CH_FAULT_INFO.GEN (R185) -/
def fndChFaultInfo_GEN : Fld := ⟨48, 8⟩
/-- FND_CH_FAULT_INFO.MORE (R185) -/
def fndChFaultInfo_MORE : Fld := ⟨62, 1⟩
/-- FND_CH_FAULT_INFO.VALID (R185) -/
def fndChFaultInfo_VALID : Fld := ⟨63, 1⟩
/-- FND_FINDER_STAT.STATE (R186) -/
def fndFinderStat_STATE : Fld := ⟨0, 2⟩
/-- FND_FINDER_STAT.TAGS (R186) -/
def fndFinderStat_TAGS : Fld := ⟨2, 7⟩
/-- FND_FINDER_STAT.ACTIVE (R186) -/
def fndFinderStat_ACTIVE : Fld := ⟨10, 4⟩
/-- FND_FINDER_STAT.CHANNEL (R186) -/
def fndFinderStat_CHANNEL : Fld := ⟨16, 13⟩
/-- FND_FINDER_STAT.SEGMENTS (R186) -/
def fndFinderStat_SEGMENTS : Fld := ⟨32, 32⟩
/-- DSP_SEG_CFG.SEG_LOG2 (R206) -/
def dspSegCfg_SEG_LOG2 : Fld := ⟨0, 5⟩
/-- DSP_APT_CFG.DIR_WEIGHT (R206) -/
def dspAptCfg_DIR_WEIGHT : Fld := ⟨0, 8⟩
/-- DSP_DOME_CFG.APT_AFF (R207) -/
def dspDomeCfg_APT_AFF : Fld := ⟨0, 2⟩
/-- DSP_DOME_CFG.APT_AFF_EN (R207) -/
def dspDomeCfg_APT_AFF_EN : Fld := ⟨2, 1⟩
/-- DSP_DOME_CFG.MER_AFF (R207) -/
def dspDomeCfg_MER_AFF : Fld := ⟨3, 2⟩
/-- DSP_DOME_CFG.MER_AFF_EN (R207) -/
def dspDomeCfg_MER_AFF_EN : Fld := ⟨5, 1⟩
/-- DSP_DOME_CFG.DEPTH (R207) -/
def dspDomeCfg_DEPTH : Fld := ⟨8, 4⟩
/-- DSP_DOME_CFG.CH_WINDOW (R207) -/
def dspDomeCfg_CH_WINDOW : Fld := ⟨16, 10⟩
/-- DSP_DOME_STAT.WAITING (R207) -/
def dspDomeStat_WAITING : Fld := ⟨0, 10⟩
/-- DSP_DOME_STAT.PINNED (R207) -/
def dspDomeStat_PINNED : Fld := ⟨16, 10⟩
/-- DSP_DOME_STAT.STOLEN_FROM (R207) -/
def dspDomeStat_STOLEN_FROM : Fld := ⟨32, 16⟩
/-- DSP_DOME_STAT.STOLEN_BY (R207) -/
def dspDomeStat_STOLEN_BY : Fld := ⟨48, 16⟩
/-- DSP_SCHED_CMD.SWAP_TO (R208) -/
def dspSchedCmd_SWAP_TO : Fld := ⟨0, 1⟩
/-- DSP_SCHED_CMD.SWAP_FROM (R208) -/
def dspSchedCmd_SWAP_FROM : Fld := ⟨1, 1⟩
/-- DSP_SCHED_CMD.PEND_TO (R208) -/
def dspSchedCmd_PEND_TO : Fld := ⟨8, 1⟩
/-- DSP_SCHED_CMD.PEND_FROM (R208) -/
def dspSchedCmd_PEND_FROM : Fld := ⟨9, 1⟩
/-- DSP_SCHED_CMD.REV_TO (R208) -/
def dspSchedCmd_REV_TO : Fld := ⟨16, 16⟩
/-- DSP_SCHED_CMD.REV_FROM (R208) -/
def dspSchedCmd_REV_FROM : Fld := ⟨32, 16⟩
/-- DSP_SCHED_SHADOW.SLOTS (R208) -/
def dspSchedShadow_SLOTS : Fld := ⟨0, 64⟩
/-- DSP_SCHED_ACTIVE.SLOTS (R208) -/
def dspSchedActive_SLOTS : Fld := ⟨0, 64⟩
/-- DSP_VI_SHARE.WEIGHT (R209) -/
def dspViShare_WEIGHT : Fld := ⟨0, 8⟩
/-- DSP_VI_SHARE.PRIO_CEIL (R209) -/
def dspViShare_PRIO_CEIL : Fld := ⟨8, 3⟩
/-- DSP_VI_BUCKET.RATE (R209) -/
def dspViBucket_RATE : Fld := ⟨0, 19⟩
/-- DSP_VI_BUCKET.DEPTH_KIB (R209) -/
def dspViBucket_DEPTH_KIB : Fld := ⟨32, 15⟩
/-- DSP_VI_FILL.FILL (R209) -/
def dspViFill_FILL : Fld := ⟨0, 25⟩
/-- DSP_VI_FILL.CHANGE_PEND (R209) -/
def dspViFill_CHANGE_PEND : Fld := ⟨32, 1⟩
/-- DSP_GUIDE_CFG.WINDOW_LOG2 (R210) -/
def dspGuideCfg_WINDOW_LOG2 : Fld := ⟨0, 3⟩
/-- DSP_GUIDE_CFG.THRESHOLD (R210) -/
def dspGuideCfg_THRESHOLD : Fld := ⟨8, 8⟩
/-- DSP_GUIDE_CFG.LEAD (R210) -/
def dspGuideCfg_LEAD : Fld := ⟨16, 16⟩
/-- DSP_GUIDE_STAT.HITS (R210) -/
def dspGuideStat_HITS : Fld := ⟨0, 16⟩
/-- DSP_GUIDE_STAT.EARLY (R210) -/
def dspGuideStat_EARLY : Fld := ⟨16, 16⟩
/-- DSP_GUIDE_STAT.LATE (R210) -/
def dspGuideStat_LATE : Fld := ⟨32, 16⟩
/-- DSP_GUIDE_STAT.PREDICTING (R210) -/
def dspGuideStat_PREDICTING : Fld := ⟨63, 1⟩
/-- VI_CMD.OP (R233) -/
def viCmd_OP : Fld := ⟨0, 3⟩
/-- VI_CMD.APERTURE (R233) -/
def viCmd_APERTURE : Fld := ⟨3, 2⟩
/-- VI_CMD.VI (R233) -/
def viCmd_VI : Fld := ⟨16, 11⟩
/-- VI_CMD.VF (R233) -/
def viCmd_VF : Fld := ⟨32, 11⟩
/-- VI_CREATE_A.CHANNELS (R233) -/
def viCreateA_CHANNELS : Fld := ⟨0, 8⟩
/-- VI_CREATE_A.QUEUES (R233) -/
def viCreateA_QUEUES : Fld := ⟨8, 8⟩
/-- VI_CREATE_A.FIRST_LQ (R233) -/
def viCreateA_FIRST_LQ : Fld := ⟨16, 12⟩
/-- VI_CREATE_A.HOME_DOME (R233) -/
def viCreateA_HOME_DOME : Fld := ⟨32, 5⟩
/-- VI_CREATE_A.LEDGER_QUOTA (R233) -/
def viCreateA_LEDGER_QUOTA : Fld := ⟨40, 15⟩
/-- VI_CREATE_B.VECTORS (R233) -/
def viCreateB_VECTORS : Fld := ⟨0, 12⟩
/-- VI_CREATE_B.SPILL_MIB (R233) -/
def viCreateB_SPILL_MIB : Fld := ⟨16, 16⟩
/-- VI_CMD_STATUS.CODE (R233) -/
def viCmdStatus_CODE : Fld := ⟨0, 8⟩
/-- VI_CMD_STATUS.VI (R233) -/
def viCmdStatus_VI : Fld := ⟨8, 11⟩
/-- VI_CMD_STATUS.DONE (R233) -/
def viCmdStatus_DONE : Fld := ⟨24, 1⟩
/-- VI_LAST_RESET.VI (R234) -/
def viLastReset_VI : Fld := ⟨0, 11⟩
/-- VI_LAST_RESET.TRIGGER (R234) -/
def viLastReset_TRIGGER : Fld := ⟨11, 3⟩
/-- VI_LAST_RESET.ABANDONED (R234) -/
def viLastReset_ABANDONED : Fld := ⟨16, 16⟩
/-- VI_LAST_RESET.TICKS (R234) -/
def viLastReset_TICKS : Fld := ⟨32, 32⟩
/-- VI_POOL.SIZE (R234) -/
def viPool_SIZE : Fld := ⟨0, 32⟩
/-- VI_POOL.USED (R234) -/
def viPool_USED : Fld := ⟨32, 32⟩
/-- VI_ENTRY.VALID (R235) -/
def viEntry_VALID : Fld := ⟨0, 1⟩
/-- VI_ENTRY.STATE (R235) -/
def viEntry_STATE : Fld := ⟨1, 2⟩
/-- VI_ENTRY.APERTURE (R235) -/
def viEntry_APERTURE : Fld := ⟨3, 2⟩
/-- VI_ENTRY.VF (R235) -/
def viEntry_VF : Fld := ⟨5, 11⟩
/-- VI_ENTRY.FIRST_CH (R235) -/
def viEntry_FIRST_CH : Fld := ⟨16, 13⟩
/-- VI_ENTRY.CHANNELS (R235) -/
def viEntry_CHANNELS : Fld := ⟨32, 8⟩
/-- VI_ENTRY.GRANT_FIRST (R235) -/
def viEntry_GRANT_FIRST : Fld := ⟨48, 16⟩
/-- VI_RES.FIRST_LQ (R235) -/
def viRes_FIRST_LQ : Fld := ⟨0, 12⟩
/-- VI_RES.QUEUES (R235) -/
def viRes_QUEUES : Fld := ⟨12, 5⟩
/-- VI_RES.LEDGER_QUOTA (R235) -/
def viRes_LEDGER_QUOTA : Fld := ⟨17, 15⟩
/-- VI_RES.VECTORS (R235) -/
def viRes_VECTORS : Fld := ⟨32, 12⟩
/-- VI_RES.SPILL_MIB (R235) -/
def viRes_SPILL_MIB : Fld := ⟨48, 16⟩
/-- VI_CTRL.SELF_POLICY (R235) -/
def viCtrl_SELF_POLICY : Fld := ⟨0, 2⟩
/-- VI_CTRL.WEDGE_MS (R235) -/
def viCtrl_WEDGE_MS : Fld := ⟨8, 8⟩
/-- LOG_SPILL_CFG.DIRECTOR_MIB (R263) -/
def logSpillCfg_DIRECTOR_MIB : Fld := ⟨0, 14⟩
/-- LOG_SPILL_CFG.PAGES_USED (R263) -/
def logSpillCfg_PAGES_USED : Fld := ⟨32, 18⟩
/-- LOG_FAULT_LQ.QUEUE (R263) -/
def logFaultLq_QUEUE : Fld := ⟨0, 12⟩
/-- LOG_FAULT_LQ.EN (R263) -/
def logFaultLq_EN : Fld := ⟨15, 1⟩
/-- LOG_Q_GEOM.CAP_LOG2 (R264) -/
def logQGeom_CAP_LOG2 : Fld := ⟨0, 5⟩
/-- LOG_Q_GEOM.STALL (R264) -/
def logQGeom_STALL : Fld := ⟨8, 8⟩
/-- LOG_Q_GEOM.UNREAD (R264) -/
def logQGeom_UNREAD : Fld := ⟨16, 26⟩
/-- LOG_Q_GEOM.MIRROR (R264) -/
def logQGeom_MIRROR : Fld := ⟨42, 2⟩
/-- LOG_Q_IRQ.VECTOR (R264) -/
def logQIrq_VECTOR : Fld := ⟨0, 11⟩
/-- LOG_Q_IRQ.APERTURE (R264) -/
def logQIrq_APERTURE : Fld := ⟨11, 2⟩
/-- LOG_Q_IRQ.ON_CLOSE (R264) -/
def logQIrq_ON_CLOSE : Fld := ⟨13, 1⟩
/-- LOG_Q_IRQ.ON_UNREAD (R264) -/
def logQIrq_ON_UNREAD : Fld := ⟨14, 1⟩
/-- LOG_Q_IRQ.ON_LOST (R264) -/
def logQIrq_ON_LOST : Fld := ⟨15, 1⟩
/-- LOG_Q_STAT.UNREAD_PKTS (R265) -/
def logQStat_UNREAD_PKTS : Fld := ⟨0, 27⟩
/-- LOG_Q_STAT.SPILL_PAGES (R265) -/
def logQStat_SPILL_PAGES : Fld := ⟨32, 16⟩
/-- LOG_Q_STAT.TRUNCATED (R265) -/
def logQStat_TRUNCATED : Fld := ⟨48, 8⟩
/-- LOG_Q_STAT.REFUSED (R265) -/
def logQStat_REFUSED : Fld := ⟨56, 8⟩
/-- LOG_Q_LOST.PACKETS (R265) -/
def logQLost_PACKETS : Fld := ⟨0, 32⟩
/-- LOG_Q_LOST.WORDS (R265) -/
def logQLost_WORDS : Fld := ⟨32, 32⟩
/-- MER_PORT_GEOM.ENABLE (R291) -/
def merPortGeom_ENABLE : Fld := ⟨0, 1⟩
/-- MER_PORT_GEOM.WIDTH (R291) -/
def merPortGeom_WIDTH : Fld := ⟨8, 5⟩
/-- MER_PORT_GEOM.RANK (R291) -/
def merPortGeom_RANK : Fld := ⟨16, 2⟩
/-- MER_PORT_GEOM.GRANULE_LOG2 (R291) -/
def merPortGeom_GRANULE_LOG2 : Fld := ⟨24, 4⟩
/-- MER_PORT_GEOM.CREDIT_SPLIT (R291) -/
def merPortGeom_CREDIT_SPLIT : Fld := ⟨28, 4⟩
/-- MER_PORT_CTRL.RETRY_LIMIT (R291) -/
def merPortCtrl_RETRY_LIMIT : Fld := ⟨0, 4⟩
/-- MER_PORT_CTRL.RETRY_GAP (R291) -/
def merPortCtrl_RETRY_GAP : Fld := ⟨8, 12⟩
/-- MER_PORT_CTRL.ATOMIC_OFF (R291) -/
def merPortCtrl_ATOMIC_OFF : Fld := ⟨24, 1⟩
/-- MER_PORT_STAT.READY (R292) -/
def merPortStat_READY : Fld := ⟨0, 1⟩
/-- MER_PORT_STAT.CAPS_SEEN (R292) -/
def merPortStat_CAPS_SEEN : Fld := ⟨1, 1⟩
/-- MER_PORT_STAT.NATIVE_ATOMIC (R292) -/
def merPortStat_NATIVE_ATOMIC : Fld := ⟨2, 1⟩
/-- MER_PORT_STAT.RESERVATIONS (R292) -/
def merPortStat_RESERVATIONS : Fld := ⟨3, 1⟩
/-- MER_PORT_STAT.AGENT_VER (R292) -/
def merPortStat_AGENT_VER : Fld := ⟨8, 8⟩
/-- MER_PORT_STAT.TAGS (R292) -/
def merPortStat_TAGS : Fld := ⟨16, 13⟩
/-- MER_PORT_STAT.QUARANTINED (R292) -/
def merPortStat_QUARANTINED : Fld := ⟨32, 13⟩
/-- MER_CREDIT.P_HDR (R292) -/
def merCredit_P_HDR : Fld := ⟨0, 16⟩
/-- MER_CREDIT.P_DATA (R292) -/
def merCredit_P_DATA : Fld := ⟨16, 16⟩
/-- MER_CREDIT.NP_HDR (R292) -/
def merCredit_NP_HDR : Fld := ⟨32, 16⟩
/-- MER_CREDIT.NP_DATA (R292) -/
def merCredit_NP_DATA : Fld := ⟨48, 16⟩
/-- MER_ERR_CNT.LATE (R293) -/
def merErrCnt_LATE : Fld := ⟨0, 16⟩
/-- MER_ERR_CNT.PROTO (R293) -/
def merErrCnt_PROTO : Fld := ⟨16, 16⟩
/-- MER_ERR_CNT.RETRIES (R293) -/
def merErrCnt_RETRIES : Fld := ⟨32, 16⟩
/-- MER_ERR_CNT.TIMEOUTS (R293) -/
def merErrCnt_TIMEOUTS : Fld := ⟨48, 16⟩
/-- MER_ERR_LAST.TAG (R293) -/
def merErrLast_TAG : Fld := ⟨0, 12⟩
/-- MER_ERR_LAST.TYPE (R293) -/
def merErrLast_TYPE : Fld := ⟨12, 4⟩
/-- MER_ERR_LAST.KIND (R293) -/
def merErrLast_KIND : Fld := ⟨16, 4⟩
/-- MER_ERR_LAST.TICK (R293) -/
def merErrLast_TICK : Fld := ⟨32, 31⟩
/-- MER_ERR_LAST.VALID (R293) -/
def merErrLast_VALID : Fld := ⟨63, 1⟩
/-- MER_EVENT_DROP.EVENT_DROP (R293) -/
def merEventDrop_EVENT_DROP : Fld := ⟨0, 32⟩
/-- TRN_BUS_CFG.ENABLE (R319) -/
def trnBusCfg_ENABLE : Fld := ⟨0, 1⟩
/-- TRN_BUS_CFG.CLK_MHZ (R319) -/
def trnBusCfg_CLK_MHZ : Fld := ⟨8, 8⟩
/-- TRN_BUS_CFG.ARBITER (R319) -/
def trnBusCfg_ARBITER : Fld := ⟨16, 1⟩
/-- TRN_BUS_CFG.SLOT1 (R319) -/
def trnBusCfg_SLOT1 : Fld := ⟨17, 1⟩
/-- TRN_TGT_CFG.TGT_WAIT (R319) -/
def trnTgtCfg_TGT_WAIT : Fld := ⟨0, 8⟩
/-- TRN_TGT_CFG.DELAYED_HOLD (R319) -/
def trnTgtCfg_DELAYED_HOLD : Fld := ⟨16, 24⟩
/-- TRN_TGT_CFG.WQ_USED (R319) -/
def trnTgtCfg_WQ_USED : Fld := ⟨48, 7⟩
/-- TRN_RANKS.RANK_S0 to RANK_S7 (R319) -/
def trnRanks_ranks : Fld := ⟨0, 24⟩
/-- TRN_MASTER_CFG.RETRY_LIMIT (R319) -/
def trnMasterCfg_RETRY_LIMIT : Fld := ⟨0, 4⟩
/-- TRN_MASTER_CFG.RETRY_GAP (R319) -/
def trnMasterCfg_RETRY_GAP : Fld := ⟨8, 8⟩
/-- TRN_ARB_STAT.REQ (R320) -/
def trnArbStat_REQ : Fld := ⟨0, 8⟩
/-- TRN_ARB_STAT.HOLDER (R320) -/
def trnArbStat_HOLDER : Fld := ⟨8, 3⟩
/-- TRN_ARB_STAT.HELD (R320) -/
def trnArbStat_HELD : Fld := ⟨11, 1⟩
/-- TRN_ARB_STAT.LOCKED (R320) -/
def trnArbStat_LOCKED : Fld := ⟨12, 1⟩
/-- TRN_ARB_STAT.EMERGENCY (R320) -/
def trnArbStat_EMERGENCY : Fld := ⟨13, 1⟩
/-- TRN_ARB_STAT.DECISIONS (R320) -/
def trnArbStat_DECISIONS : Fld := ⟨16, 16⟩
/-- TRN_CUTOFF.SLOTS (R320) -/
def trnCutoff_SLOTS : Fld := ⟨0, 8⟩
/-- TRN_CUTOFF.LAST (R320) -/
def trnCutoff_LAST : Fld := ⟨8, 3⟩
/-- TRN_CUTOFF.COUNT (R320) -/
def trnCutoff_COUNT : Fld := ⟨16, 16⟩
/-- TRN_ERR_CNT.UNCLAIMED (R320) -/
def trnErrCnt_UNCLAIMED : Fld := ⟨0, 16⟩
/-- TRN_ERR_CNT.TERR (R320) -/
def trnErrCnt_TERR : Fld := ⟨16, 16⟩
/-- TRN_ERR_CNT.RETRIES (R320) -/
def trnErrCnt_RETRIES : Fld := ⟨32, 16⟩
/-- TRN_ERR_CNT.WAIT_EXPIRED (R320) -/
def trnErrCnt_WAIT_EXPIRED : Fld := ⟨48, 16⟩
/-- TRN_ERR_LAST.ADDR (R320) -/
def trnErrLast_ADDR : Fld := ⟨0, 40⟩
/-- TRN_ERR_LAST.SLOT (R320) -/
def trnErrLast_SLOT : Fld := ⟨40, 3⟩
/-- TRN_ERR_LAST.KIND (R320) -/
def trnErrLast_KIND : Fld := ⟨43, 4⟩
/-- TRN_ERR_LAST.VALID (R320) -/
def trnErrLast_VALID : Fld := ⟨63, 1⟩
/-- TRN_SVC_CMD.ADDR (R321) -/
def trnSvcCmd_ADDR : Fld := ⟨0, 40⟩
/-- TRN_SVC_CMD.BE (R321) -/
def trnSvcCmd_BE : Fld := ⟨40, 8⟩
/-- TRN_SVC_CMD.OP (R321) -/
def trnSvcCmd_OP : Fld := ⟨48, 2⟩
/-- TRN_SVC_CMD.ERR (R321) -/
def trnSvcCmd_ERR : Fld := ⟨61, 1⟩
/-- TRN_SVC_CMD.BUSY (R321) -/
def trnSvcCmd_BUSY : Fld := ⟨62, 1⟩
/-- TRN_SVC_CMD.DONE (R321) -/
def trnSvcCmd_DONE : Fld := ⟨63, 1⟩
/-- TRN_SVC_DATA.DATA (R321) -/
def trnSvcData_DATA : Fld := ⟨0, 64⟩
/-- TRN_TINT_SET.LINES (R323) -/
def trnTintSet_LINES : Fld := ⟨0, 4⟩
/-- TRN_TINT_CLR.LINES (R323) -/
def trnTintClr_LINES : Fld := ⟨0, 4⟩
/-- TRN_IRQ_ROUTE.DEST (R322) -/
def trnIrqRoute_DEST : Fld := ⟨0, 2⟩
/-- TRN_IRQ_ROUTE.DIRECTOR (R322) -/
def trnIrqRoute_DIRECTOR : Fld := ⟨2, 1⟩
/-- TRN_IRQ_ROUTE.APERTURE (R322) -/
def trnIrqRoute_APERTURE : Fld := ⟨3, 2⟩
/-- TRN_IRQ_ROUTE.VI (R322) -/
def trnIrqRoute_VI : Fld := ⟨5, 11⟩
/-- TRN_IRQ_ROUTE.VECTOR (R322) -/
def trnIrqRoute_VECTOR : Fld := ⟨16, 11⟩
/-- TRN_IRQ_ROUTE.PORT (R322) -/
def trnIrqRoute_PORT : Fld := ⟨27, 2⟩
/-- TRN_IRQ_ROUTE.QUEUE (R322) -/
def trnIrqRoute_QUEUE : Fld := ⟨32, 12⟩
/-- TRN_IRQ_ROUTE.LEVEL (R322) -/
def trnIrqRoute_LEVEL : Fld := ⟨48, 1⟩
/-- TRN_IRQ_ROUTE.REPEAT_US (R322) -/
def trnIrqRoute_REPEAT_US : Fld := ⟨49, 9⟩
/-- TRN_IRQ_ROUTE.ASSERTED (R322) -/
def trnIrqRoute_ASSERTED : Fld := ⟨58, 1⟩
/-- TRN_IRQ_ADDR.ADDR (R322) -/
def trnIrqAddr_ADDR : Fld := ⟨0, 52⟩
/-- TRN_TINT_CFG.SOURCE (R323) -/
def trnTintCfg_SOURCE : Fld := ⟨0, 2⟩
/-- TRN_TINT_CFG.QUEUE (R323) -/
def trnTintCfg_QUEUE : Fld := ⟨4, 12⟩
/-- LNE_REF_STAT.PRESENT (R340) -/
def lneRefStat_PRESENT : Fld := ⟨0, 1⟩
/-- LNE_REF_STAT.COUNT (R340) -/
def lneRefStat_COUNT : Fld := ⟨32, 32⟩
/-- LNE_HEALTH_CFG.LOS_TICKS (R340) -/
def lneHealthCfg_LOS_TICKS : Fld := ⟨0, 16⟩
/-- LNE_HEALTH_CFG.MR_LIMIT (R340) -/
def lneHealthCfg_MR_LIMIT : Fld := ⟨16, 8⟩
/-- LNE_LANE_STAT.LOS (R341) -/
def lneLaneStat_LOS : Fld := ⟨0, 1⟩
/-- LNE_LANE_STAT.LOL (R341) -/
def lneLaneStat_LOL : Fld := ⟨1, 1⟩
/-- LNE_LANE_STAT.FAILED (R341) -/
def lneLaneStat_FAILED : Fld := ⟨2, 1⟩
/-- LNE_LANE_STAT.ACTIVE (R341) -/
def lneLaneStat_ACTIVE : Fld := ⟨3, 1⟩
/-- LNE_LANE_STAT.RATE (R341) -/
def lneLaneStat_RATE : Fld := ⟨4, 2⟩
/-- LNE_LANE_STAT.MR_COUNT (R341) -/
def lneLaneStat_MR_COUNT : Fld := ⟨8, 16⟩
/-- LNE_LANE_STAT.EB_ERR (R341) -/
def lneLaneStat_EB_ERR : Fld := ⟨24, 16⟩
/-- LNE_LANE_STAT.LOS_COUNT (R341) -/
def lneLaneStat_LOS_COUNT : Fld := ⟨40, 16⟩
/-- LNE_SEE_CFG.EN (R342) -/
def lneSeeCfg_EN : Fld := ⟨0, 1⟩
/-- LNE_SEE_CFG.DWELL_LOG2 (R342) -/
def lneSeeCfg_DWELL_LOG2 : Fld := ⟨8, 4⟩
/-- LNE_SEE_CFG.OPEN_THRESH (R342) -/
def lneSeeCfg_OPEN_THRESH : Fld := ⟨16, 8⟩
/-- LNE_SEE_CFG.HEIGHT_FLOOR (R342) -/
def lneSeeCfg_HEIGHT_FLOOR : Fld := ⟨24, 7⟩
/-- LNE_EYE_SEL.LANE (R343) -/
def lneEyeSel_LANE : Fld := ⟨0, 7⟩
/-- LNE_EYE_SEL.EYE (R343) -/
def lneEyeSel_EYE : Fld := ⟨8, 2⟩
/-- LNE_EYE_SEL.ROW (R343) -/
def lneEyeSel_ROW : Fld := ⟨16, 7⟩
/-- LNE_EYE_SEL.HOLD (R343) -/
def lneEyeSel_HOLD : Fld := ⟨23, 1⟩
/-- LNE_EYE_HDR.HEIGHT (R343) -/
def lneEyeHdr_HEIGHT : Fld := ⟨0, 8⟩
/-- LNE_EYE_HDR.WIDTH (R343) -/
def lneEyeHdr_WIDTH : Fld := ⟨8, 8⟩
/-- LNE_EYE_HDR.YIELDS (R343) -/
def lneEyeHdr_YIELDS : Fld := ⟨16, 16⟩
/-- LNE_EYE_HDR.TICK (R343) -/
def lneEyeHdr_TICK : Fld := ⟨32, 31⟩
/-- LNE_EYE_HDR.VALID (R343) -/
def lneEyeHdr_VALID : Fld := ⟨63, 1⟩
/-- LNE_EYE_ROW.CELLS (R343) -/
def lneEyeRow_CELLS : Fld := ⟨0, 64⟩
/-- IFV_LINK_CTRL.WIDTH_CAP (R368) -/
def ifvLinkCtrl_WIDTH_CAP : Fld := ⟨0, 5⟩
/-- IFV_LINK_CTRL.AUTO_UP (R368) -/
def ifvLinkCtrl_AUTO_UP : Fld := ⟨8, 1⟩
/-- IFV_LINK_CTRL.DOWN_HOLD (R368) -/
def ifvLinkCtrl_DOWN_HOLD : Fld := ⟨16, 16⟩
/-- IFV_LINK_CMD.CMD (R368) -/
def ifvLinkCmd_CMD : Fld := ⟨0, 2⟩
/-- IFV_LINK_STAT.STATE (R369) -/
def ifvLinkStat_STATE : Fld := ⟨0, 3⟩
/-- IFV_LINK_STAT.WIDTH (R369) -/
def ifvLinkStat_WIDTH : Fld := ⟨8, 5⟩
/-- IFV_LINK_STAT.RATE (R369) -/
def ifvLinkStat_RATE : Fld := ⟨16, 2⟩
/-- IFV_LINK_STAT.IDENT_LOCAL (R369) -/
def ifvLinkStat_IDENT_LOCAL : Fld := ⟨20, 4⟩
/-- IFV_LINK_STAT.IDENT_FAR (R369) -/
def ifvLinkStat_IDENT_FAR : Fld := ⟨24, 4⟩
/-- IFV_LINK_STAT.DOWN_CAUSE (R369) -/
def ifvLinkStat_DOWN_CAUSE : Fld := ⟨28, 4⟩
/-- IFV_LINK_STAT.LANES (R369) -/
def ifvLinkStat_LANES : Fld := ⟨32, 16⟩
/-- IFV_LINK_STAT.WINDOW_REPLAYS (R369) -/
def ifvLinkStat_WINDOW_REPLAYS : Fld := ⟨48, 6⟩
/-- IFV_LINK_SEQ.TX_NEXT (R369) -/
def ifvLinkSeq_TX_NEXT : Fld := ⟨0, 12⟩
/-- IFV_LINK_SEQ.UNACKED (R369) -/
def ifvLinkSeq_UNACKED : Fld := ⟨16, 12⟩
/-- IFV_LINK_SEQ.RX_EXPECTED (R369) -/
def ifvLinkSeq_RX_EXPECTED : Fld := ⟨32, 12⟩
/-- IFV_LINK_CNT.REPLAYS (R370) -/
def ifvLinkCnt_REPLAYS : Fld := ⟨0, 16⟩
/-- IFV_LINK_CNT.BAD_FLITS (R370) -/
def ifvLinkCnt_BAD_FLITS : Fld := ⟨16, 16⟩
/-- IFV_LINK_CNT.FEC_CORRECTED (R370) -/
def ifvLinkCnt_FEC_CORRECTED : Fld := ⟨32, 16⟩
/-- IFV_LINK_CNT.RETRAINS (R370) -/
def ifvLinkCnt_RETRAINS : Fld := ⟨48, 8⟩
/-- IFV_LINK_CNT.DOWNS (R370) -/
def ifvLinkCnt_DOWNS : Fld := ⟨56, 8⟩
/-- IFV_LINK_TMO.REPLAY_TICKS (R370) -/
def ifvLinkTmo_REPLAY_TICKS : Fld := ⟨0, 32⟩
/-- IFV_LINK_TMO.CREDIT_TICKS (R370) -/
def ifvLinkTmo_CREDIT_TICKS : Fld := ⟨32, 32⟩
/-- IFV_PAIR_CFG.ENABLE (R391) -/
def ifvPairCfg_ENABLE : Fld := ⟨0, 1⟩
/-- IFV_PAIR_CFG.PAIR_ID (R391) -/
def ifvPairCfg_PAIR_ID : Fld := ⟨1, 1⟩
/-- IFV_PAIR_CFG.DEF_MIRROR (R391) -/
def ifvPairCfg_DEF_MIRROR : Fld := ⟨2, 2⟩
/-- IFV_PAIR_CFG.PARTNER_PART (R391) -/
def ifvPairCfg_PARTNER_PART : Fld := ⟨16, 16⟩
/-- IFV_PAIR_CFG.HOME_FIRST (R391) -/
def ifvPairCfg_HOME_FIRST : Fld := ⟨32, 11⟩
/-- IFV_PAIR_CFG.HOME_LAST (R391) -/
def ifvPairCfg_HOME_LAST : Fld := ⟨48, 11⟩
/-- IFV_PAIR_CTRL.HB_LOSS (R391) -/
def ifvPairCtrl_HB_LOSS : Fld := ⟨0, 16⟩
/-- IFV_PAIR_CTRL.FENCE (R391) -/
def ifvPairCtrl_FENCE : Fld := ⟨16, 32⟩
/-- IFV_PAIR_CTRL.AUTO_ADOPT (R391) -/
def ifvPairCtrl_AUTO_ADOPT : Fld := ⟨48, 1⟩
/-- IFV_PAIR_CMD.CMD (R391) -/
def ifvPairCmd_CMD : Fld := ⟨0, 2⟩
/-- IFV_PAIR_STAT.FORMED (R392) -/
def ifvPairStat_FORMED : Fld := ⟨0, 1⟩
/-- IFV_PAIR_STAT.HB_ALIVE (R392) -/
def ifvPairStat_HB_ALIVE : Fld := ⟨1, 1⟩
/-- IFV_PAIR_STAT.MUTED (R392) -/
def ifvPairStat_MUTED : Fld := ⟨2, 1⟩
/-- IFV_PAIR_STAT.TCLK_SEEN (R392) -/
def ifvPairStat_TCLK_SEEN : Fld := ⟨3, 1⟩
/-- IFV_PAIR_STAT.ISOLATED (R392) -/
def ifvPairStat_ISOLATED : Fld := ⟨4, 1⟩
/-- IFV_PAIR_STAT.YIELDED (R392) -/
def ifvPairStat_YIELDED : Fld := ⟨5, 1⟩
/-- IFV_PAIR_STAT.RESYNCING (R392) -/
def ifvPairStat_RESYNCING : Fld := ⟨6, 1⟩
/-- IFV_PAIR_STAT.ADOPTED (R392) -/
def ifvPairStat_ADOPTED : Fld := ⟨16, 11⟩
/-- IFV_PAIR_STAT.RESERVE (R392) -/
def ifvPairStat_RESERVE : Fld := ⟨32, 11⟩
/-- IFV_PAIR_STAT.LAST_CAUSE (R392) -/
def ifvPairStat_LAST_CAUSE : Fld := ⟨48, 3⟩
/-- IFV_MIRROR_STAT.PENDING (R392) -/
def ifvMirrorStat_PENDING : Fld := ⟨0, 16⟩
/-- IFV_MIRROR_STAT.MAX_ACK (R392) -/
def ifvMirrorStat_MAX_ACK : Fld := ⟨16, 16⟩
/-- IFV_MIRROR_STAT.TIMEOUTS (R392) -/
def ifvMirrorStat_TIMEOUTS : Fld := ⟨32, 16⟩
/-- IFV_MIRROR_STAT.UNCONFIRMED (R392) -/
def ifvMirrorStat_UNCONFIRMED : Fld := ⟨48, 16⟩
/-- IFV_JOURNAL.CKPT_AGE (R392) -/
def ifvJournal_CKPT_AGE : Fld := ⟨0, 16⟩
/-- IFV_JOURNAL.CKPT_SEQ (R392) -/
def ifvJournal_CKPT_SEQ : Fld := ⟨32, 32⟩
/-- PWR_MODE.MODE (R413) -/
def pwrMode_MODE : Fld := ⟨0, 4⟩
/-- PWR_MODE.RETURN (R413) -/
def pwrMode_RETURN : Fld := ⟨4, 4⟩
/-- PWR_MODE.WAKE_SRC (R413) -/
def pwrMode_WAKE_SRC : Fld := ⟨8, 4⟩
/-- PWR_MODE.DIM_BLOCK (R413) -/
def pwrMode_DIM_BLOCK : Fld := ⟨16, 11⟩
/-- PWR_MODE.PARKED (R413) -/
def pwrMode_PARKED : Fld := ⟨32, 1⟩
/-- PWR_MODE_CMD.CMD (R413) -/
def pwrModeCmd_CMD : Fld := ⟨0, 3⟩
/-- PWR_DIM_CFG.AUTO (R413) -/
def pwrDimCfg_AUTO : Fld := ⟨0, 1⟩
/-- PWR_DIM_CFG.DIM_IDLE (R413) -/
def pwrDimCfg_DIM_IDLE : Fld := ⟨8, 32⟩
/-- PWR_SID_CAL.TRIM (R414) -/
def pwrSidCal_TRIM : Fld := ⟨0, 6⟩
/-- PWR_SID_CAL.REF (R414) -/
def pwrSidCal_REF : Fld := ⟨8, 4⟩
/-- PWR_SID_CAL.AUTO (R414) -/
def pwrSidCal_AUTO : Fld := ⟨12, 1⟩
/-- PWR_SID_CAL.CALIBRATED (R414) -/
def pwrSidCal_CALIBRATED : Fld := ⟨13, 1⟩
/-- PWR_SID_CAL.PERIOD_MS (R414) -/
def pwrSidCal_PERIOD_MS : Fld := ⟨16, 16⟩
/-- PWR_SID_CAL.ERROR_PPM (R414) -/
def pwrSidCal_ERROR_PPM : Fld := ⟨32, 16⟩
/-- PWR_SID_TIME.TICK (R414) -/
def pwrSidTime_TICK : Fld := ⟨0, 64⟩
/-- PWR_SID_WAKE.ALARM (R414) -/
def pwrSidWake_ALARM : Fld := ⟨0, 63⟩
/-- PWR_SID_WAKE.EN (R414) -/
def pwrSidWake_EN : Fld := ⟨63, 1⟩
/-- PWR_DOME_CLK.DIV (R415) -/
def pwrDomeClk_DIV : Fld := ⟨0, 2⟩
/-- PWR_DOME_CLK.GATE_IDLE (R415) -/
def pwrDomeClk_GATE_IDLE : Fld := ⟨8, 16⟩
/-- PWR_DOM_POL.POLICY (R415) -/
def pwrDomPol_POLICY : Fld := ⟨0, 2⟩
/-- PWR_DOM_POL.CLOSE_DELAY (R415) -/
def pwrDomPol_CLOSE_DELAY : Fld := ⟨16, 16⟩
/-- PWR_DOM_STAT.STATE (R415) -/
def pwrDomStat_STATE : Fld := ⟨0, 3⟩
/-- PWR_DOM_STAT.OPENS (R415) -/
def pwrDomStat_OPENS : Fld := ⟨16, 16⟩
/-- PWR_DOM_STAT.DEMAND_WAITS (R415) -/
def pwrDomStat_DEMAND_WAITS : Fld := ⟨32, 16⟩
/-- FLT_LADDER.TICKS (R448) -/
def fltLadder_TICKS : Fld := ⟨0, 32⟩
/-- FLT_REC_STAT.LAST_SEQ (R448) -/
def fltRecStat_LAST_SEQ : Fld := ⟨0, 32⟩
/-- FLT_REC_STAT.NEXT_SLOT (R448) -/
def fltRecStat_NEXT_SLOT : Fld := ⟨32, 11⟩
/-- FLT_LAST.RECORD (R448) -/
def fltLast_RECORD : Fld := ⟨0, 64⟩
/-- FLT_ECC.CORRECTED (R448) -/
def fltEcc_CORRECTED : Fld := ⟨0, 24⟩
/-- FLT_ECC.ARCHIVE_UNCORR (R448) -/
def fltEcc_ARCHIVE_UNCORR : Fld := ⟨24, 16⟩
/-- FLT_ECC.LAST_STRUCT (R448) -/
def fltEcc_LAST_STRUCT : Fld := ⟨40, 8⟩
/-- FLT_QUAR_CTRL.HOLD (R449) -/
def fltQuarCtrl_HOLD : Fld := ⟨0, 1⟩
/-- FLT_QUAR_CTRL.RELEASE (R449) -/
def fltQuarCtrl_RELEASE : Fld := ⟨1, 1⟩
/-- FLT_QUAR_CTRL.ENTER (R449) -/
def fltQuarCtrl_ENTER : Fld := ⟨2, 1⟩
/-- FLT_QUAR_STAT.CAUSE (R449) -/
def fltQuarStat_CAUSE : Fld := ⟨0, 3⟩
/-- FLT_QUAR_STAT.STRUCT (R449) -/
def fltQuarStat_STRUCT : Fld := ⟨8, 8⟩
/-- FLT_QUAR_STAT.INDEX (R449) -/
def fltQuarStat_INDEX : Fld := ⟨16, 40⟩
/-- FLT_QUAR_STAT.LOOPS (R449) -/
def fltQuarStat_LOOPS : Fld := ⟨56, 2⟩
/-- FLT_QUAR_STAT.BOOT_LOOP (R449) -/
def fltQuarStat_BOOT_LOOP : Fld := ⟨58, 1⟩
/-- FLT_QUAR_STAT.LATER (R449) -/
def fltQuarStat_LATER : Fld := ⟨59, 1⟩
/-- FLT_QUAR_TICK.TICK (R449) -/
def fltQuarTick_TICK : Fld := ⟨0, 63⟩
/-- FLT_LIFE.COUNT (R449) -/
def fltLife_COUNT : Fld := ⟨0, 64⟩
/-- EYE_SEL.STRUCT (R450) -/
def eyeSel_STRUCT : Fld := ⟨0, 8⟩
/-- EYE_SEL.AUTO_INC (R450) -/
def eyeSel_AUTO_INC : Fld := ⟨8, 1⟩
/-- EYE_SEL.INDEX (R450) -/
def eyeSel_INDEX : Fld := ⟨16, 40⟩
/-- EYE_STATUS.DONE (R450) -/
def eyeStatus_DONE : Fld := ⟨0, 1⟩
/-- EYE_STATUS.BUSY (R450) -/
def eyeStatus_BUSY : Fld := ⟨1, 1⟩
/-- EYE_STATUS.TICK (R450) -/
def eyeStatus_TICK : Fld := ⟨8, 31⟩
/-- EYE_INFO.COUNT (R450) -/
def eyeInfo_COUNT : Fld := ⟨0, 40⟩
/-- EYE_INFO.VERSION (R450) -/
def eyeInfo_VERSION : Fld := ⟨40, 8⟩
/-- EYE_REC.WORD (R450) -/
def eyeRec_WORD : Fld := ⟨0, 64⟩
/-- ARC_MAP.OPEN_FIRST_MIB (R470) -/
def arcMap_OPEN_FIRST_MIB : Fld := ⟨0, 16⟩
/-- ARC_MAP.OPEN_END_MIB (R470) -/
def arcMap_OPEN_END_MIB : Fld := ⟨16, 16⟩
/-- ARC_MAP.LOG_MIB (R470) -/
def arcMap_LOG_MIB : Fld := ⟨32, 16⟩
/-- ARC_MAP.SIZE_MIB (R470) -/
def arcMap_SIZE_MIB : Fld := ⟨48, 16⟩
/-- ARC_STAT.READY (R470) -/
def arcStat_READY : Fld := ⟨0, 1⟩
/-- ARC_STAT.SELF_REFRESH (R470) -/
def arcStat_SELF_REFRESH : Fld := ⟨1, 1⟩
/-- ARC_STAT.TIMEOUTS (R470) -/
def arcStat_TIMEOUTS : Fld := ⟨8, 16⟩
/-- ARC_RANK_USE.JOURNAL_MIB (R470) -/
def arcRankUse_JOURNAL_MIB : Fld := ⟨0, 16⟩
/-- ARC_RANK_USE.SPILL_MIB (R470) -/
def arcRankUse_SPILL_MIB : Fld := ⟨16, 16⟩
/-- ARC_RANK_USE.EYEPIECE_MIB (R470) -/
def arcRankUse_EYEPIECE_MIB : Fld := ⟨32, 16⟩
/-- ARC_RANK_USE.DATA_MIB (R470) -/
def arcRankUse_DATA_MIB : Fld := ⟨48, 16⟩
/-- FND_SET_SRC.ADDR (R155) -/
def fndSetSrc_ADDR : Fld := ⟨0, 63⟩
/-- FND_SET_SRC.HOST (R155) -/
def fndSetSrc_HOST : Fld := ⟨63, 1⟩
/-- FND_SET_DST.ADDR (R155) -/
def fndSetDst_ADDR : Fld := ⟨0, 63⟩
/-- FND_SET_DST.HOST (R155) -/
def fndSetDst_HOST : Fld := ⟨63, 1⟩
/-- FND_SET_LEN.LENGTH (R155) -/
def fndSetLen_LENGTH : Fld := ⟨0, 36⟩
/-- FND_SET_LEN.ELEM_LOG2 (R155) -/
def fndSetLen_ELEM_LOG2 : Fld := ⟨36, 4⟩
/-- FND_SET_LEN.PASID (R155) -/
def fndSetLen_PASID : Fld := ⟨40, 20⟩
/-- FND_SET_CTRL.SRC_MODE (R155) -/
def fndSetCtrl_SRC_MODE : Fld := ⟨0, 2⟩
/-- FND_SET_CTRL.DST_MODE (R155) -/
def fndSetCtrl_DST_MODE : Fld := ⟨2, 2⟩
/-- FND_SET_CTRL.CHECK (R155) -/
def fndSetCtrl_CHECK : Fld := ⟨4, 3⟩
/-- FND_SET_CTRL.CHECK_STORE (R155) -/
def fndSetCtrl_CHECK_STORE : Fld := ⟨7, 1⟩
/-- FND_SET_CTRL.PRIO (R155) -/
def fndSetCtrl_PRIO : Fld := ⟨8, 3⟩
/-- FND_SET_CTRL.IN_ORDER (R155) -/
def fndSetCtrl_IN_ORDER : Fld := ⟨11, 1⟩
/-- FND_SET_CTRL.BARRIER (R155) -/
def fndSetCtrl_BARRIER : Fld := ⟨12, 2⟩
/-- FND_SET_CTRL.CREC_EN (R155) -/
def fndSetCtrl_CREC_EN : Fld := ⟨14, 1⟩
/-- FND_SET_CTRL.IRQ_EN (R155) -/
def fndSetCtrl_IRQ_EN : Fld := ⟨15, 1⟩
/-- FND_SET_CTRL.NEXT_EN (R155) -/
def fndSetCtrl_NEXT_EN : Fld := ⟨16, 1⟩
/-- FND_SET_CTRL.RO (R155) -/
def fndSetCtrl_RO : Fld := ⟨17, 1⟩
/-- FND_SET_CTRL.PASID_EN (R155) -/
def fndSetCtrl_PASID_EN : Fld := ⟨18, 1⟩
/-- FND_SET_CTRL.VECTOR (R155) -/
def fndSetCtrl_VECTOR : Fld := ⟨19, 11⟩
/-- FND_SET_CTRL.STEER (R155) -/
def fndSetCtrl_STEER : Fld := ⟨30, 8⟩
/-- FND_SET_CTRL.STEER_EN (R155) -/
def fndSetCtrl_STEER_EN : Fld := ⟨38, 1⟩
/-- FND_SET_TABLE.SIDE (R155) -/
def fndSetTable_SIDE : Fld := ⟨0, 64⟩
/-- FND_SET_CHECK_ADDR.SIDE (R155) -/
def fndSetCheckAddr_SIDE : Fld := ⟨0, 64⟩
/-- FND_SET_CREC_ADDR.SIDE (R155) -/
def fndSetCrecAddr_SIDE : Fld := ⟨0, 64⟩
/-- FND_SET_NEXT.SIDE (R155) -/
def fndSetNext_SIDE : Fld := ⟨0, 64⟩
/-- VI_SELF_STATUS.VI (R236) -/
def viSelfStatus_VI : Fld := ⟨0, 11⟩
/-- VI_SELF_STATUS.CHANNELS (R236) -/
def viSelfStatus_CHANNELS : Fld := ⟨16, 8⟩
/-- VI_SELF_STATUS.QUEUES (R236) -/
def viSelfStatus_QUEUES : Fld := ⟨24, 5⟩
/-- VI_SELF_STATUS.VECTORS (R236) -/
def viSelfStatus_VECTORS : Fld := ⟨32, 12⟩
/-- VI_SELF_STATUS.SELF_POLICY (R236) -/
def viSelfStatus_SELF_POLICY : Fld := ⟨48, 2⟩
/-- VI_SELF_CMD.KEY (R236) -/
def viSelfCmd_KEY : Fld := ⟨0, 8⟩
/-- VI_SELF_CMD.RESET (R236) -/
def viSelfCmd_RESET : Fld := ⟨8, 1⟩
/-- VI_SELF_COUNT.RESETS (R236) -/
def viSelfCount_RESETS : Fld := ⟨0, 16⟩
/-- LOG_PORT_CLOSE.IGNORED (R266) -/
def logPortClose_IGNORED : Fld := ⟨0, 64⟩
/-- LOG_PORT_CMD.CMD (R266) -/
def logPortCmd_CMD : Fld := ⟨0, 3⟩
/-- LOG_PORT_CMD_STATUS.CMD (R266) -/
def logPortCmdStatus_CMD : Fld := ⟨0, 3⟩
/-- LOG_PORT_CMD_STATUS.CODE (R266) -/
def logPortCmdStatus_CODE : Fld := ⟨8, 2⟩
/-- LOG_PORT_CMD_STATUS.SEQ (R266) -/
def logPortCmdStatus_SEQ : Fld := ⟨16, 16⟩
/-- LOG_PORT_STATE.UNREAD_WORDS (R266) -/
def logPortState_UNREAD_WORDS : Fld := ⟨0, 28⟩
/-- LOG_PORT_STATE.OPEN (R266) -/
def logPortState_OPEN : Fld := ⟨28, 1⟩
/-- LOG_PORT_STATE.MARK_VALID (R266) -/
def logPortState_MARK_VALID : Fld := ⟨29, 1⟩
/-- LOG_PORT_STATE.MARK_LOST (R266) -/
def logPortState_MARK_LOST : Fld := ⟨30, 1⟩
/-- LOG_PORT_STATE.OPEN_WORDS (R266) -/
def logPortState_OPEN_WORDS : Fld := ⟨32, 16⟩
/-- LOG_PORT_LOST.LOST (R266) -/
def logPortLost_LOST : Fld := ⟨0, 64⟩
/-- Status word.DONE (R150) -/
def ordStatus_DONE : Fld := ⟨0, 1⟩
/-- Status word.FAULT (R150) -/
def ordStatus_FAULT : Fld := ⟨1, 1⟩
/-- Status word.TIMED_OUT (R150) -/
def ordStatus_TIMED_OUT : Fld := ⟨2, 1⟩
/-- Status word.SCOPE (R150) -/
def ordStatus_SCOPE : Fld := ⟨3, 2⟩
/-- Status word.ENTRY (R150) -/
def ordStatus_ENTRY : Fld := ⟨8, 16⟩
/-- Status word.GEN (R150) -/
def ordStatus_GEN : Fld := ⟨24, 8⟩
/-- Status word.SPACE (R150) -/
def ordStatus_SPACE : Fld := ⟨32, 4⟩
/-- Status word.PORT (R150) -/
def ordStatus_PORT : Fld := ⟨36, 2⟩
/-- Status word.SEQ (R150) -/
def ordStatus_SEQ : Fld := ⟨48, 16⟩

end Fld

end Sys2Proof.Machine
end

