-- ==== Sys2Proof/Machine/Assoc.lean ====
section
/-!
DEFINITION. Sorted sparse maps as lists of pairs in one canonical form, and the bit fields of a word.
-/
namespace Sys2Proof.Machine

/-- The value a list of pairs gives `k`, or `d` where it lists none. -/
def assocGet {α β : Type} [DecidableEq α] (d : β) (k : α) : List (α × β) → β
  | [] => d
  | (a, v) :: l => if a = k then v else assocGet d k l

/-- Put a pair before the first greater key. -/
def assocInsert {α β : Type} (lt : α → α → Bool) (k : α) (v : β) : List (α × β) → List (α × β)
  | [] => [(k, v)]
  | (a, w) :: l => if lt k a then (k, v) :: (a, w) :: l else (a, w) :: assocInsert lt k v l

/-- Write `v` at `k`: any old pair for `k` goes, and a value equal to the default `d` is not listed. -/
def assocPut {α β : Type} [DecidableEq α] [DecidableEq β] (lt : α → α → Bool) (d : β) (k : α) (v : β)
    (l : List (α × β)) : List (α × β) :=
  let l' := l.filter (fun p => p.1 ≠ k)
  if v = d then l' else assocInsert lt k v l'

/-- A field of a word, as a number. -/
def wget (w : Word) (f : Fld) : Nat := (w.extractLsb' f.lo f.len).toNat

/-- The bits of a field. -/
def Fld.mask (f : Fld) : Word := ((BitVec.allOnes f.len).setWidth 64) <<< f.lo

/-- A word with one field replaced by `v`, taken modulo the field's size. -/
def wput (w : Word) (f : Fld) (v : Nat) : Word :=
  (w &&& ~~~ f.mask) ||| (((BitVec.ofNat f.len v).setWidth 64) <<< f.lo)

/-- A word built from field values. -/
def wmk (l : List (Fld × Nat)) : Word := l.foldl (fun w p => wput w p.1 p.2) 0

/-- One bit of a word. -/
def wbit (w : Word) (n : Nat) : Bool := w.getLsbD n

/-- Bytes of a word, least significant first (R6). -/
def wbytes (w : Word) : List Byte := (List.range 8).map (fun i => w.extractLsb' (8 * i) 8)

/-- A number from bytes, least significant first (R6). -/
def natOfBytes : List Byte → Nat
  | [] => 0
  | b :: l => b.toNat + 256 * natOfBytes l

/-- A word from at most 8 bytes, least significant first. -/
def wordOfBytes (l : List Byte) : Word := BitVec.ofNat 64 (natOfBytes (l.take 8))

/-- `n` bytes of a number, least significant first. -/
def bytesOfNat (n v : Nat) : List Byte := (List.range n).map (fun i => BitVec.ofNat 8 (v / 2 ^ (8 * i)))

/-- Words from bytes, the last padded with zero bytes; `n` words. -/
def wordsOfBytes (n : Nat) (l : List Byte) : List Word := (List.range n).map (fun i => wordOfBytes (l.drop (8 * i)))

/-- Bytes of several words. -/
def bytesOfWords (l : List Word) : List Byte := l.flatMap wbytes

/-- 1 for true. -/
def bit (b : Bool) : Nat := if b then 1 else 0

/-- Saturating addition in a field of `len` bits. -/
def satAdd (len v n : Nat) : Nat := min (v + n) (2 ^ len - 1)

/-- Insert into a list whose keys rise, after those of the same key. -/
def insertBy {α : Type} (key : α → Nat) (x : α) : List α → List α
  | [] => [x]
  | y :: l => if key x < key y then x :: y :: l else y :: insertBy key x l

/-- Sort by a key; elements of one key keep their order. -/
def sortBy {α : Type} (key : α → Nat) (l : List α) : List α := l.foldl (fun acc x => insertBy key x acc) []

/-- Signed order of list keys. -/
def ltList : List Nat → List Nat → Bool
  | [], _ :: _ => true
  | _, [] => false
  | a :: l, b :: m => a < b || (a = b && ltList l m)

end Sys2Proof.Machine
end

