-- ==== Sys2Proof/Machine/Checksum.lean ====
section
/-!
DEFINITION. The checksums: CRC-32C and CRC-64 with the combiner's shift and merge, and the ones' complement sum
(R169, R170).
-/
namespace Sys2Proof.Machine

open Sys2Proof

/-- One bit step of a reflected CRC with polynomial `poly` (reflected). -/
def crcBit (poly r : Nat) : Nat := if r % 2 = 1 then (r / 2) ^^^ poly else r / 2

/-- Eight bit steps. -/
def crcByte (poly r v : Nat) : Nat :=
  crcBit poly (crcBit poly (crcBit poly (crcBit poly (crcBit poly (crcBit poly (crcBit poly (crcBit poly (r ^^^ v))))))))

/-- The raw remainder of bytes from `r`: with `r` = 0 the partial of R170. -/
def crcRun (poly : Nat) (r : Nat) (l : List Byte) : Nat := l.foldl (fun r v => crcByte poly r v.toNat) r

/-- shift(r, n): multiply by x^(8n) modulo the polynomial, in the algorithm's bit order (R170). -/
def crcShift (poly : Nat) : Nat → Nat → Nat
  | 0, r => r
  | n + 1, r => crcShift poly n (crcByte poly r 0)

/-- The reflected polynomials 0x1EDC_6F41 and 0x42F0_E1EB_A9EA_3693 (R169). -/
def poly32 : Nat := 0x82F63B78
def poly64 : Nat := 0xC96C5795D7870F42

/-- CRC-32C of bytes (R169). -/
def crc32c (l : List Byte) : Nat := crcRun poly32 0xFFFFFFFF l ^^^ 0xFFFFFFFF

/-- CRC-64 of bytes (R169). -/
def crc64 (l : List Byte) : Nat := crcRun poly64 0xFFFFFFFFFFFFFFFF l ^^^ 0xFFFFFFFFFFFFFFFF

/-- Addition with end-around carry. -/
def add1c (a c : Nat) : Nat := let s := a + c; s % 65536 + s / 65536

/-- The sum of 16-bit words of bytes, first byte high, an odd last byte padded with zero (R169). -/
def sum1c : List Byte → Nat
  | [] => 0
  | [x] => x.toNat * 256
  | x :: y :: l => add1c (x.toNat * 256 + y.toNat) (sum1c l)

/-- The ones' complement checksum (R169). -/
def ones16 (l : List Byte) : Nat := 65535 - sum1c l

/-- A partial of kind `k` (1, 2 CRC; 3 sum) over bytes that begin at stream offset `off` (R170). -/
def partialSum (k off : Nat) (l : List Byte) : Nat :=
  if k = 1 then crcRun poly32 0 l
  else if k = 2 then crcRun poly64 0 l
  else let s := sum1c l; if off % 2 = 1 then s % 256 * 256 + s / 256 else s

/-- Merge partials given in stream order, each with its length, and finish (R170). -/
def combineSums (k len : Nat) (l : List (Nat × Nat)) : Nat :=
  if k = 1 then
    crcShift poly32 len 0xFFFFFFFF ^^^ l.foldl (fun r p => crcShift poly32 p.1 r ^^^ p.2) 0 ^^^ 0xFFFFFFFF
  else if k = 2 then
    crcShift poly64 len 0xFFFFFFFFFFFFFFFF ^^^ l.foldl (fun r p => crcShift poly64 p.1 r ^^^ p.2) 0 ^^^ 0xFFFFFFFFFFFFFFFF
  else 65535 - l.foldl (fun r p => add1c r p.2) 0

/-- Stored size in bytes of a checksum kind (R169). -/
def checkSize (k : Nat) : Nat := if k = 1 then 4 else if k = 2 then 8 else 2

end Sys2Proof.Machine
end

