-- ==== Sys2Proof/Config.lean ====
section
/-!
DEFINITION. What the implementation fixes and the manual does not: constants without a body. A claim about the
machine holds whatever they are.
-/
namespace Sys2Proof

/-- The free values: value number `n` that the manual leaves undefined (a strap that changes inside its window, R419).
`State.freeCtr` counts those drawn (log entry 4). -/
opaque Config.freeValue : Nat → Word

/-- The die revision shown by ID_PART.DIE_REV and the Prasol locator (R70, R467); the manual gives no number
(log entry 11). -/
opaque Config.dieRev : Byte

/-- Whether the ECDSA P-384 signature (r, s) over a SHA-384 digest verifies against the fused key (R32, R33). The
manual does not give the key (log entry 12). -/
opaque Config.signatureVerifies : BitVec 384 → BitVec 384 → BitVec 384 → Bool

/-- Where the Prasol locator stands among a function's extended capabilities (R69); the manual gives no offset (log
entry 20). -/
opaque Config.locatorOffset : Nat

/-- The event bit of the almanac engine that a delta-log overflow raises (R51); the manual gives no number (log entry
21). -/
opaque Config.deltaOverflowBit : Fin 31

/-- ALM_RESULT.RECORD beside code `n` when no record is at fault and no rule names a value (R57; log entry 22). -/
opaque Config.unnamedRecord : Nat → BitVec 32

/-- A sidereal tick in nanoseconds (R408). -/
abbrev Config.tickNs : Nat := 20

end Sys2Proof
end

