-- ==== Sys2Proof/Machine/State.lean ====
section
/-!
DEFINITION. The state of the bridge. Every architectural register is held in `Bridge.regs`; the structures beside it are
the state that the spec gives the engines and no register holds. A register field that counts one of those structures
is computed from it (`Bridge.read` in Ops.lean), so each thing has one home.
-/
namespace Sys2Proof.Machine

open Sys2Proof

/-- Reasons a step can fault. -/
inductive Fault where
  /-- Raised by no meaning: the spec gives every command an effect. Safe: it would stop where the bridge goes on. -/
  | none
  deriving DecidableEq, Repr

/-- Reasons a step can be refused. -/
inductive Refusal where
  /-- Raised by the arm of a command that has no meaning yet. Safe: the model stops where the bridge goes on. -/
  | notModelled (mnemonic : String)
  deriving DecidableEq, Repr

/-- A source of requests in the sense of the ordering model (R128). -/
inductive Src where
  | hostFn (ap fn : Nat)
  | finder (f : Nat)
  | mer (port vi : Nat) (dir : Bool)
  | transit
  | bridge
  deriving DecidableEq, Repr

/-- Why a request failed; the numbers of the channel causes are those of R177. -/
inductive Cause where
  | catalogue | completionTimeout | unsupported | completerAbort | poisoned | unmapped | tgtFault | merTimeout
  | transitError | archiveTimeout | masterDisabled | watchdog | hopLimit | descriptor | ecrc | poisonDrop
  | logbookRefused
  /-- A Transit failure that is the data-phase wait's expiry (R142, R299); on a channel it is the Transit cause. -/
  | transitTimeout
  /-- WIDTH EXACT refused the request at its face (R110). -/
  | exactRefused
  deriving DecidableEq, Repr

/-- What a request is for: whom its end is reported to. -/
inductive Origin where
  /-- A piece of a host posted write (R137). -/
  | hostWrite
  /-- A piece of the host read or AtomicOp `id` of `Bridge.hostReads`. -/
  | hostRead (id : Nat)
  /-- A piece of the upstream request `id` of `Bridge.ups`. -/
  | up (id : Nat)
  /-- Stream bytes `off` and on of segment `seg` of channel `c`: read or write. -/
  | seg (c seg off : Nat)
  /-- An index-table read of segment `seg` of channel `c`: elements from `first`. -/
  | table (c seg first : Nat)
  /-- A flushing read that proves the host writes of segment `seg` of channel `c` (R173): `side` is the side word of the last of
  them. -/
  | segFlush (c seg : Nat) (side : Word)
  /-- An autoload's descriptor read (R161). -/
  | descriptor (c : Nat)
  /-- The checksum store of a channel, and the flushing read that proves it (R171). -/
  | checkStore (c : Nat)
  /-- The completion record of a channel (R175). -/
  | crec (c : Nat)
  /-- A flushing read of barrier `bar` (R140). -/
  | barFlush (bar : Nat)
  /-- The MSI or MSI-X message of vector `v` of the job's function (R77). -/
  | message (v : Nat)
  /-- An INTERRUPT event of a Transit interrupt route (R313). -/
  | irqEvent (line : Nat)
  /-- The service-port cycle of TRN_SVC_CMD (R321). -/
  | svc
  /-- An access of ALM_SHELF_DATA by a writer (R16, R60). -/
  | shelf (w : Writer)
  /-- Nobody any more: the channel has given the attempt up that made the request (R180, R226). -/
  | dead
  deriving DecidableEq, Repr

/-- Whether a request is an interrupt message. -/
def Origin.isMessage : Origin → Bool
  | .message _ => true
  | _ => false

/-- What a request does at its target. Write data has `none` where a byte is not enabled. -/
inductive JobOp where
  | read (len : Nat)
  | write (data : List (Option Byte)) (poison : Bool)
  | atomic (op : Nat) (data : List Byte) (poison : Bool)
  | rload (len : Nat)
  | cstore (data : List Byte) (poison : Bool)
  | event (op : Nat) (payload : Word)
  | flush
  deriving DecidableEq, Repr

/-- One request on its way to one target, with the translation it carries (R117). -/
structure Job where
  id : Nat
  /-- The request of which it is a piece, for a posted write (R119); drawn when it was issued at an Aperture (R21). -/
  req : Nat := 0
  sent : Nat := 0
  origin : Origin
  src : Src
  /-- Owner instance, for quotas, buckets and resets. -/
  owner : Option Nat
  /-- Director class (R198). -/
  director : Bool
  idx : Nat
  gen : Nat
  space : Nat
  port : Nat
  addr : Nat
  op : JobOp
  /-- For a peer request, the first entry's index and generation (R117). -/
  via : Option (Nat × Nat) := none
  /-- Field offset at which this piece begins, in target order, and the byte-order rule (R109). -/
  off : Nat
  order : Nat
  /-- The request's own field offsets, first and one past the last. -/
  lo : Nat := 0
  hi : Nat := 0
  mark : Nat := 0
  cls : Bool := false
  ro : Bool := false
  /-- Requester function on a host link (R107, R157). -/
  fn : Nat := 0
  pasid : Option Nat := none
  steer : Option Nat := none
  /-- ID-based ordering set, and an ECRC carried, on a host link (R63, R66). -/
  ido : Bool := false
  ecrc : Bool := false
  /-- A packet passed on unchanged to another Meridian port (R147): its own VI, DIR and PASID. -/
  pass : Option (Nat × Bool × Option Nat) := none
  /-- Tick of arrival. -/
  t0 : Nat := 0
  deriving DecidableEq, Repr

/-- How a request ended. -/
inductive Res where
  | ok (data : List Byte) (poison : Bool)
  /-- RSV_OK (1) or RSV_LOST (2) of a Meridian agent (R270). -/
  | rsv (code : Nat) (data : List Byte) (poison : Bool)
  | err (c : Cause)
  deriving DecidableEq, Repr

/-- A posting-buffer entry (R137): a write, waiting or issued, or a barrier entry. -/
inductive PbKind where
  | waiting | issued | barrier
  deriving DecidableEq, Repr

/-- An entry of the posting buffer of Aperture `ap`, held by function `fn`. -/
structure PbEntry where
  ap : Nat
  fn : Nat
  kind : PbKind
  job : Job
  width : Nat
  deriving DecidableEq, Repr

/-- A tag-ledger entry that is not free (R81, R83). -/
structure LedgerEntry where
  idx : Nat
  ap : Nat
  quarantined : Bool
  /-- End of the quarantine window. -/
  until_ : Nat
  finder : Option Nat
  job : Job
  issued : Nat
  /-- Data received so far, and whether any of it was poisoned. -/
  got : List Byte
  bad : Bool
  /-- It counts against its instance's quota: until the instance is destroyed (R217). -/
  charged : Bool := true
  deriving DecidableEq, Repr

/-- A tag freed at a tick, not to be given out before the next (R85, R283). -/
structure FreedTag where
  port : Nat
  tag : Nat
  tick : Nat
  deriving DecidableEq, Repr

/-- A Meridian tag that is not free (R274, R282). -/
structure MerTag where
  port : Nat
  tag : Nat
  quarantined : Bool
  until_ : Nat
  issued : Nat
  retries : Nat
  /-- The tick at which a retried request is re-sent (R284). -/
  resendAt : Option Nat
  job : Job
  deriving DecidableEq, Repr

/-- Kind of a host request in progress (R138, R145). -/
inductive HostReadKind where
  | read
  /-- AtomicOp: kind, operand size, compare and value bytes, whether they are poisoned, attempts made. -/
  | atomic (k : AtomicKind) (size : Nat) (cmp val : List Byte) (poison : Bool) (attempts : Nat)
  /-- A barrier read (R141). -/
  | barrier (scope : Nat)
  deriving DecidableEq, Repr

/-- A host non-posted request in progress. -/
structure HostReadRec where
  id : Nat
  ap : Nat
  fn : Nat
  tag : Nat
  kind : HostReadKind
  idx : Nat
  gen : Nat
  off : Nat
  len : Nat
  ro : Bool
  t0 : Nat
  /-- Pieces not yet sent while the request waits (R132, R138), under the translation it was given; pieces sent and not
  yet ended. -/
  jobs : List Job
  left : Nat
  /-- Paths on which a Meridian port or Transit answered, with the identities drawn by then (R135). -/
  answered : List (Nat × Nat × Nat)
  data : List (Nat × Byte)
  poison : Bool
  err : Option Cause
  deriving DecidableEq, Repr

/-- Who sent an upstream request: a Meridian agent's tag, or a Transit master slot. -/
inductive UpFrom where
  | mer (port tag vi : Nat) (dir : Bool) (type len : Nat)
  | transit (slot : Nat)
  deriving DecidableEq, Repr

/-- An upstream request in progress (R269, R492, R309). -/
structure UpRec where
  id : Nat
  sender : UpFrom
  idx : Nat
  gen : Nat
  errmap : Nat
  addr : Nat
  write : Bool
  /-- RSV_OK or RSV_LOST that the target answered; 0 otherwise. -/
  resp : Nat
  off : Nat
  len : Nat
  left : Nat
  data : List (Nat × Byte)
  poison : Bool
  err : Option Cause
  deriving DecidableEq, Repr

/-- A barrier in progress (R139 to R142). -/
structure Barrier where
  id : Nat
  ap : Nat
  fn : Nat
  /-- The finder and channel of a finder-form barrier (R167). -/
  chan : Option Nat
  scope : Nat
  /-- 0 posted, 1 read, 2 finder, 3 a Meridian BARRIER of port `ap`; the tag of a read form or a BARRIER. -/
  form : Nat
  tag : Nat
  seq : Nat
  t0 : Nat
  answered : Bool
  covers : List Nat
  /-- Paths to the host on which its flushing read has been issued: Aperture, function, PASID (R140). -/
  flushed : List (Nat × Nat × Option Nat) := []
  /-- The earliest failed write: identity; entry, generation, space, port (R142). -/
  fault : Option (Nat × Nat × Nat × Nat × Nat)
  /-- The host read piece, or the Meridian packet, that its end answers. -/
  job : Option Job
  sender : Option UpFrom
  /-- For a read form with no job, who waits: the host of Aperture `a` (`some a`), or the service port. -/
  reader : Option Nat := none
  deriving DecidableEq, Repr

/-- Where a segment stands (R187 to R192). -/
inductive SegState where
  | unplaced | waiting | taken (f : Nat) | failed | arrived | skipped | withheld
  deriving DecidableEq, Repr

/-- A segment of a channel's active transfer. -/
structure Seg where
  idx : Nat
  off : Nat
  len : Nat
  st : SegState
  prio : Nat
  pinned : Bool
  dome : Nat
  /-- Order of placement and of taking. -/
  seqNo : Nat
  /-- The words that entries changed since it was taken had when it was taken (R117). -/
  snap : List (Nat × List Word)
  /-- Next stream offset to read; reads and writes outstanding; the flushing reads outstanding. -/
  next : Nat
  reads : Nat
  writes : Nat
  flushes : Nat
  /-- Paths to the host that its writes took (R21, R173): on each the last write, with its side word. -/
  hostPaths : List (Job × Word)
  got : List (Nat × List Byte)
  /-- The index table as far as it is whole, and its bytes by offset (R165). -/
  table : List Nat
  tableGot : List (Nat × Byte)
  lastBeat : Nat
  written : Nat
  /-- Its finder's burst opportunity at which it was served last (R195). -/
  turn : Nat
  deriving DecidableEq, Repr

/-- The steps of R22 that a channel performs after its gate has closed. -/
inductive GateStep where
  | open_ | store | storeFlush | record | done
  deriving DecidableEq, Repr

/-- The hidden state of a channel. -/
structure Chan where
  c : Nat
  segs : List Seg
  step : GateStep
  skips : Nat
  /-- STATUS that the completion record will carry, and whether step 3 of R22 promotes. -/
  status : Nat
  noPromote : Bool
  /-- Partial checksums by stream offset and length (R170). -/
  sums : List (Nat × Nat × Nat)
  barrier : Option Nat
  barrierDone : Bool
  /-- A halt due at the end of the transfer: direction, cause, generation (R162, R163, R185). -/
  haltAtEnd : Option (Nat × Cause × Nat)
  /-- Direction, cause and address of the transfer's first failure that was not recovered (R174). -/
  firstFault : Option (Nat × Nat × Word)
  /-- A recovery command held until QUIET (R180). -/
  held : Option Nat
  haltTick : Nat
  /-- Side address of NEXT while an autoload is in progress. -/
  loading : Bool
  /-- Bytes of the image that an autoload has read so far. -/
  loadGot : List (Nat × Byte)
  fixedFinder : Option Nat
  loadTick : Nat
  deriving DecidableEq, Repr

/-- A finder (R186, R192, R195). -/
structure Finder where
  f : Nat
  clocked : Bool
  idleSince : Nat
  opportunities : Nat
  /-- How many domes the present passes of stealing have visited (R193). -/
  probe : Nat := 0
  deriving DecidableEq, Repr

/-- A fabric cycle of taking and stealing (R192, R194): its tick, the last finder that acted in it, probes after takes, and by
dome the segments that waited when it began, and whether one was stolen. -/
structure TakeCycle where
  tick : Nat
  last : Nat
  counts : List (Nat × Nat)
  stolen : List Nat
  deriving DecidableEq, Repr

/-- A schedule's pointer and deficits (R196 to R198). -/
structure Sched where
  pointer : Nat
  deficits : List (Nat × Nat)
  dirDeficit : Nat
  /-- The class whose turn it is: 0 the director class, v + 1 instance v. -/
  turn : Nat
  deriving DecidableEq, Repr

/-- A token bucket's fill in units of 2^-24 byte, and a pending share change (R201, R202). -/
structure Bucket where
  fill : Nat
  pend : Option Word
  deriving DecidableEq, Repr

/-- The guide's record of a dome (R203): the mean interval, the doorbells since the dome last closed, the last doorbell, and the
doorbell predicted there with the lead in force (log entry 119). -/
structure Guide where
  mean : Nat
  count : Nat
  last : Option Nat
  next : Option (Nat × Nat)
  openedByGuide : Bool
  /-- Whether a doorbell has come since the guide opened the dome (R204). -/
  hit : Bool
  deriving DecidableEq, Repr

/-- Hidden state of an instance: the reset in progress (R225 to R227). -/
structure Inst where
  v : Nat
  trigger : Nat
  start : Nat
  abandoned : Nat
  /-- Jobs still to drain. -/
  draining : List Nat
  /-- The triggers of function-level resets absorbed into this one (R218, R428). -/
  flrs : List Nat
  /-- Writers' banks whose DONE waits for the end of the reset, and for that of a held DESTROY (R218). -/
  banks : List Nat
  destroyBanks : List Nat
  destroyHeld : Bool
  heldCommits : List (Writer × Nat × List Word)
  deriving DecidableEq, Repr

/-- A function-level reset of PF0 whose posting-buffer entries drain (R89). -/
structure PfFlr where
  ap : Nat
  start : Nat
  draining : List Nat
  deriving DecidableEq, Repr

/-- A closed packet of a logbook queue (R243 to R254). -/
structure Pkt where
  words : List Word
  read : Nat
  trunc : Bool
  deriving DecidableEq, Repr

/-- An open packet: its words; truncated and dropping; poisoned with the count of words swallowed. -/
structure OpenPkt where
  words : List Word
  dropping : Bool
  poisoned : Bool
  swallowed : Nat
  deriving DecidableEq, Repr

/-- A CONSUME read that waits for data (R250): who asked, the request it ends, the pairs asked for, its arrival. -/
structure Stalled where
  src : PortSrc
  tag : Nat
  job : Option Job
  pairs : Nat
  t0 : Nat
  deriving DecidableEq, Repr

/-- Who makes a port access, as BLK_REJECT names it (R455): WRITER, VF, and the offset recorded for page offset 0. -/
structure PortWho where
  writer : Nat
  vf : Nat
  base : Nat
  bridge : Bool
  deriving DecidableEq, Repr

/-- A producer write that waits for a spill (R257): who makes it, page offset and bytes, and the request or the face that is to
be told of its end. -/
structure PortWait where
  who : PortWho
  off : Nat
  data : List (Option Byte)
  job : Option Job
  src : PortSrc
  deriving DecidableEq, Repr

/-- A logbook queue's content. `packets` holds retained and unread packets, oldest first; `mark` is an index into it. -/
structure Queue where
  packets : List Pkt
  opn : Option OpenPkt
  mark : Option Nat
  markLost : Bool
  /-- Position of the next slot to write, modulo 2^28. -/
  writePos : Nat
  pages : Nat
  /-- Slots, from the oldest unread on, that the head window can give while pages are held (R256). -/
  head : Nat
  /-- Newest slots, which stand in the tail window while pages are held (R256). -/
  tail : Nat := 0
  /-- A spill or refill archive transfer is in progress (R256): the slots that it spills, 0 for a refill. -/
  busy : Bool
  moving : Nat := 0
  /-- Producer writes that wait for the spill, in order of arrival (R257). -/
  blocked : List PortWait := []
  cmdStatus : Word
  stalled : List Stalled
  windowStart : Nat
  windowOpen : Bool
  fired : Bool
  deriving DecidableEq, Repr

/-- A Meridian port's transaction layer (R267 to R292): granted and consumed credits are the link's. -/
structure MerPort where
  p : Nat
  caps : Option Word
  rx : List Packet
  waiting : List Job
  deriving DecidableEq, Repr

/-- A Transit job in the bridge's master queue (R306). -/
structure TrnJob where
  job : Job
  done : Nat
  data : List Byte
  retries : Nat
  retryAt : Option Nat
  locked : Bool
  /-- For a locked tenure: the old value once read. -/
  old : Option (List Byte)
  deriving DecidableEq, Repr

/-- A translation (R117): entry index, its four words, the offset within the field. -/
structure Xlat where
  idx : Nat
  w : List Word
  off : Nat
  deriving DecidableEq, Repr

/-- A burst that the bridge has claimed, with its translation (R117, R309). -/
structure Claimed where
  burst : TransitBurst
  x : Xlat
  deriving DecidableEq, Repr

/-- A delayed read of a Transit slot (R309). -/
structure Delayed where
  slot : Nat
  claim : Claimed
  up : Nat
  /-- Arrived data; `none` while waiting; the failure. -/
  result : Option (Option (List Byte))
  arrived : Nat
  /-- The tick from which the present cycle waits for the data; none once it has been answered TRTY_N. -/
  onBus : Option Nat
  deriving DecidableEq, Repr

/-- The Transit controller beyond its registers. -/
structure Transit where
  queue : List TrnJob
  /-- The bridge's write queue as a target (R308): bursts accepted, each with 0 until it is sent on and then with 1 more than
  the identity of its upstream request. -/
  wq : List (Nat × Claimed)
  pendingWait : List (Claimed × Nat)
  delayed : List Delayed
  /-- Round-robin: the slot last granted at each rank. -/
  lastAt : List (Nat × Nat)
  grantTick : Nat
  beatTick : Nat
  /-- The holder's address edge has been seen. -/
  addressed : Bool
  /-- The job whose burst is on the bus; the winner decided for the end of that burst, 8 for the emergency requester. -/
  bursting : Option Nat
  next : Option Nat
  svcPending : Bool
  /-- Filtered levels of TIRQ_N and the tick each was last raised. -/
  irq : List (Nat × Nat)
  tint : List Nat
  deriving DecidableEq, Repr

/-- Hidden state of a lane: the micro-retrain in progress, its window, LOS hold, eye maps (R332 to R338). -/
structure Lane where
  i : Nat
  losSince : Option Nat
  mrStart : Option Nat
  /-- Ticks of its micro-retrains within the last 1 ms. -/
  mrTicks : List Nat
  maps : List (List Byte)
  yields : Nat
  scanTick : Nat
  mapValid : Bool
  holdUntil : Option Nat
  heldMap : Option (List (List Byte) × Nat × Nat)
  /-- Margining commands that wait for a fresh scan (R92): Aperture and point. -/
  margins : List (Nat × MarginPoint)
  /-- Adaptation (R331): the ticks it has run, and since when it runs; none while the lane is off and the state is frozen. -/
  adaptRun : Nat := 0
  adaptSince : Option Nat := none
  deriving DecidableEq, Repr

/-- A kept payload flit (R354). -/
structure Flit where
  seq : Nat
  first : Nat
  words : List Word
  deriving DecidableEq, Repr

/-- Hidden state of a link (R344 to R366). -/
structure Link where
  k : Nat
  buf : List Flit
  expected : Nat
  txNext : Nat
  nak : Bool
  nakSeen : Option (Nat × Nat)
  granted : List Nat
  consumed : List Nat
  farGranted : List Nat
  replayFrom : Nat
  frozen : Nat
  windowStart : Nat
  phase : Nat
  phaseStart : Nat
  pauseLanes : BitVec 16
  usable : BitVec 16
  reqSent : Option Nat
  ackAt : Option Nat
  downAt : Nat
  firstSeen : Bool
  creditWait : List (Nat × Nat)
  partialWords : List Word
  upBeforeDim : Bool
  /-- The CAPS that opens the link waits for credits (R279); completions wait for the end of a pause or for room in the replay
  buffer (R354, R361). -/
  capsDue : Bool := false
  owed : List Packet := []
  /-- Where its transmitter stands in the round of 8,192 lane symbols and one filler group, and the symbols that its scramblers
  have advanced over since they were seeded (R329, R345). -/
  symbols : Nat := 0
  scrambled : Nat := 0
  /-- The credit counter that its next flit carries (R357); the width that the far end has asked for (R349); an UP command that waits
  for the end of DOWN_HOLD (R366). -/
  csel : Nat := 0
  asked : Nat := 16
  upAsked : Bool := false
  deriving DecidableEq, Repr

/-- A reserve instance (R375): its definition, the images of its grant, shares, and checkpoint records. -/
structure Reserve where
  v : Nat
  entry : Word
  res : Word
  ctrl : Word
  share : Word
  buckets : List Word
  images : List (Nat × List Word)
  ckpts : List CkptChan
  logs : List LogPtr
  packets : List (Nat × List Word)
  deriving DecidableEq, Repr

/-- An outgoing write-through change awaiting its ACK (R377): its mirror sequence, the tick sent and the command that
takes effect at the ACK. -/
structure OutChange where
  seq : Nat
  sent : Nat
  change : MirrorChange
  action : Option Instr
  deriving DecidableEq, Repr

/-- What a mirror-journal write in progress will store (R379). -/
inductive JournalItem where
  | change (seq : Nat) (c : MirrorChange)
  | ckpt (l : List CkptChan)
  | ptr (p : LogPtr)
  deriving DecidableEq, Repr

/-- The pair beyond its registers. -/
structure Pair where
  /-- PAIR_HB_IN: tick of the last edge; edges since a loss. -/
  hbEdge : Nat
  hbEdges : Nat
  hbOut : Bool
  hbHold : Bool
  tclkEdge : Nat
  fenceStart : Option Nat
  txSeq : Nat
  rxConfirm : Nat
  lastApplied : Nat
  outgoing : List OutChange
  queued : List (MirrorChange × Option Instr)
  pendingIn : List (Nat × MirrorChange)
  /-- Journal writes by archive request. -/
  journal : List (Nat × JournalItem)
  resyncSent : Bool
  resyncGot : Bool
  handing : Bool
  adopted : List Nat
  /-- Mirror packets that have not gone into flits yet (R381). -/
  tx : List (List Word) := []
  /-- What the last checkpoint batches said of each channel and POINTERS queue, and their CONFIRM (R377). -/
  ckptSent : List CkptChan := []
  ptrSent : List LogPtr := []
  confirmSent : Nat := 0
  /-- Journal records that are marked bad: a channel, or 8,192 and a queue (R435, R446). -/
  badRecords : List Nat := []
  deriving DecidableEq, Repr

/-- A shutter domain (R403 to R405). -/
structure Domain where
  n : Nat
  st : Nat
  emptySince : Nat
  deriving DecidableEq, Repr

/-- An eyepiece bank's capture (R444 to R446): the record; an archive capture in progress. -/
structure EyeBank where
  n : Nat
  busy : Bool
  start : Nat
  deriving DecidableEq, Repr

/-- A delta-log record (R50). -/
structure DeltaEntry where
  seq : Nat
  committed : Bool
  body : DeltaRec
  deriving DecidableEq, Repr

/-- The kept page (R48). -/
structure Kept where
  headerOk : Bool
  active : Bool
  source : Nat
  slot : Nat
  digest : BitVec 384
  log : List DeltaEntry
  nextSeq : Nat
  boots : Nat
  latch : Bool
  /-- The log has overflowed since its load: it is discarded at the next one (R51). -/
  overflow : Bool
  /-- Fault ring by slot (R439). -/
  ring : List (Nat × List Word)
  nextSlot : Nat
  nextRec : Nat
  life : List (Nat × Nat)
  loops : Nat
  deriving DecidableEq, Repr

/-- A section of an almanac image: type, class, body (R29, R30). -/
structure Section where
  type : Nat
  cls : Nat
  optional : Bool
  body : List Byte
  deriving DecidableEq, Repr

/-- An image that has passed its checks (R27 to R36). -/
structure Image where
  kind : Nat
  signed : Bool
  sealOnApply : Bool
  digest : BitVec 384
  sections : List Section
  deriving DecidableEq, Repr

/-- A load attempt (R38): its source (1 flash, 2 host, 3 service port), slot, flash speed code, what the source
delivers. -/
structure Attempt where
  source : Nat
  slot : Nat
  speed : Nat
  bytes : Option (List Byte)
  deriving DecidableEq, Repr

/-- A command held behind a commit of the almanac (R44), with the words that its writer had staged. -/
structure Held where
  cmd : Instr
  words : List Word
  deriving DecidableEq, Repr

/-- The almanac engine beyond its registers. -/
structure Almanac where
  inForce : Option Image
  staged : Option Image
  /-- Load in progress: the attempt with its checked image; attempts after it. -/
  loading : Option (Attempt × Image)
  next : List Attempt
  committing : Bool
  mirroring : Bool
  /-- The mirror sequence of the first change of the commit in progress (R40). -/
  patchSeq : Option Nat
  start : Nat
  recording : Bool
  held : List Held
  bareRelinkAt : Option Nat
  waitService : Bool
  tickS : Nat
  chartStart : Nat
  calibrated : Bool
  deriving DecidableEq, Repr

/-- The supply and side pins (R410 to R418, R489). -/
structure Pins where
  vaux : Bool
  pwrgood : Bool
  perstReleased : Bool
  transitFloat : Bool
  wakeN : Bool
  thermtrip : Bool
  hostTerm : Bool
  deriving DecidableEq, Repr

/-- A field of a function's configuration space (R65 to R80): Aperture, function (0 is PF0), field. -/
structure FnKey where
  ap : Nat
  fn : Nat
  field : CfgField
  deriving DecidableEq, Repr

/-- An MSI-X table entry of a function (R71). -/
structure MsixEntry where
  ap : Nat
  fn : Nat
  v : Nat
  addr : Nat
  data : Nat
  masked : Bool
  deriving DecidableEq, Repr

/-- A vector that is pending: function and vector of the MSI-X numbering. -/
structure PendVec where
  ap : Nat
  fn : Nat
  v : Nat
  deriving DecidableEq, Repr

/-- An archive request waiting for the arbiter (R16). -/
structure ArchReq where
  id : Nat
  rank : Nat
  t0 : Nat
  job : Option Job
  /-- 0 a job; 1 spill or refill of queue `arg`; 2 journal; 3 a LOAD's shelf image; 4 eyepiece bank `arg`; 5 a STAGE's. -/
  user : Nat
  arg : Nat
  deriving DecidableEq, Repr

/-- What the bridge has put out at one of its faces; the model's own record (log entry 5). -/
inductive Emission where
  | hostCpl (ap tag : Nat) (st : CplStatus) (data : List Byte) (poison : Bool)
  | hostReq (ap fn tag : Nat) (job : Job)
  | message (ap fn v : Nat) (addr data : Nat)
  | cfg (ap tag : Nat) (value : Option Nat)
  | requestRetry (ap tag : Nat)
  /-- An error message (R90): its severity is 0 correctable, 1 non-fatal, 2 fatal. -/
  | aer (ap fn err severity : Nat)
  | ltr (ap ns : Nat)
  | margin (ap lane count : Nat)
  | mer (port : Nat) (pkt : Packet)
  /-- A flit of kind 0 PAYLOAD, 1 IDLE or 2 CONTROL with its header and payload words (R345, R346, R349). -/
  | flit (k kind : Nat) (hdr : FlitHdr) (words : List Word)
  /-- The training symbols that the lanes of a link send (R359). -/
  | training (k : Nat) (symbols : List Word)
  /-- A filler group: 8 symbols of this value on every lane of the link (R329). -/
  | filler (k : Nat) (symbol : Word) (n : Nat)
  | trnCycle (slot addr beats : Nat) (write locked poisoned : Bool) (data : List Byte) (be : List (BitVec 8))
  | trnData (slot : Nat) (data : List Byte)
  | trnRdy (slot : Nat)
  | trnErr (slot : Nat)
  | trnRetry (slot : Nat)
  | trnGrant (slot : Nat)
  | svcData (data : List Byte)
  | regData (value : Word)
  | portData (src : PortSrc) (tag : Nat) (data : List Byte)
  | portErr (src : PortSrc)
  | mirror (words : List Word)
  deriving DecidableEq, Repr

/-- The engines behind the faces. -/
structure Engines where
  chans : List Chan
  finders : List Finder
  scheds : List (Nat × Sched)
  buckets : List (Nat × Bucket)
  sharePend : List (Nat × Word)
  guides : List (Nat × Guide)
  insts : List Inst
  pfFlrs : List PfFlr := []
  reserve : List Reserve
  queues : List (Nat × Queue)
  merTags : List MerTag
  merPorts : List MerPort
  trn : Transit
  lanes : List Lane
  links : List Link
  pair : Pair
  doms : List Domain
  eyes : List EyeBank
  /-- Completed resets of an instance since its creation (R236); the LTR value last sent on an Aperture (R68). -/
  resets : List (Nat × Nat)
  ltr : List (Nat × Nat)
  /-- Apertures on whose ledger quota a request waits (R94). -/
  quotaWait : List Nat
  /-- Banks whose CAT_DRAIN entry has requests of an older generation in flight (R119). -/
  drainWait : List Nat
  /-- Requests that wait at their source faces (R396, R399, R402). -/
  held : List Instr
  /-- Commands that wait for shutter domains to open (R26), and accesses of logbook ports that wait for theirs. -/
  domHeld : List (List Nat × Held)
  logWait : List Job
  /-- Host requests that flow control holds for want of room in the posting buffer of an Aperture, in order of arrival (R137). -/
  fcWait : List (Nat × Instr)
  /-- By dome, the channel that placed a segment last (R188); the fabric cycle in which finders take and steal (R194). -/
  placeAt : List (Nat × Nat)
  cycle : TakeCycle
  dimSince : Option Nat
  wakeStart : Option Nat
  calStart : Option Nat
  /-- Tick of the last calibration period's start. -/
  calPeriod : Nat
  /-- Archive bytes served since ARC_RANK_USE was last read: journal, spill, eyepiece, data; whether the last request served
  at rank 3 was a data access (R16, R470). -/
  archUsed : List Nat
  archTurn : Bool
  /-- Reference inputs found absent by their last window (R328). -/
  absentRefs : List Nat
  /-- The service port's last write was rejected or incomplete (R466). -/
  svcErr : Bool
  /-- Requests that have ended and whose end has not yet been reported. -/
  done : List (Job × Res)
  deriving DecidableEq, Repr

/-- Everything the bridge holds but its waiting commands and its archive memory. -/
structure Bridge where
  part : Part
  authFuse : Bool
  tick : Nat
  freeCtr : Nat
  nextId : Nat
  out : List Emission
  regs : List (Reg × Word)
  /-- Expert fields overridden: register and lowest bit (R54). -/
  overridden : List (Reg × Nat)
  cfg : List (FnKey × Nat)
  msix : List MsixEntry
  pendVec : List PendVec
  pins : Pins
  kept : Kept
  alm : Almanac
  archReqs : List ArchReq
  ledger : List LedgerEntry
  freed : List FreedTag
  pbs : List PbEntry
  proving : List Job
  reqs : List Job
  hostReads : List HostReadRec
  ups : List UpRec
  barriers : List Barrier
  barSeq : List (Nat × Nat)
  barStat : List (Nat × Word)
  eng : Engines
  deriving DecidableEq, Repr

/-- The state of the block: the commands that wait, first in first out; the archive memory (R469), a list of cells with
rising addresses and no byte equal to what an unlisted address reads as; everything else. -/
structure State where
  pending : List Instr
  mem : List Host.Cell
  b : Bridge
  deriving DecidableEq, Repr

/-- What an archive byte that nothing has written reads as (log entry 7). -/
def memDefault : Byte := 0x00#8

/-- An idle Transit controller. -/
def Transit.idle : Transit :=
  { queue := [], wq := [], pendingWait := [], delayed := [], lastAt := [], grantTick := 0, beatTick := 0,
    addressed := false, bursting := none, next := none, svcPending := false, irq := [], tint := [] }

/-- A bridge that is not paired. -/
def Pair.standalone : Pair :=
  { hbEdge := 0, hbEdges := 0, hbOut := false, hbHold := false, tclkEdge := 0, fenceStart := none, txSeq := 0,
    rxConfirm := 0, lastApplied := 0, outgoing := [], queued := [], pendingIn := [], journal := [], resyncSent := false,
    resyncGot := false, handing := false, adopted := [] }

/-- No cycle. -/
def TakeCycle.idle : TakeCycle := { tick := 0, last := 0, counts := [], stolen := [] }

/-- Every engine at rest. -/
def Engines.reset : Engines :=
  { chans := [], finders := [], scheds := [], buckets := [], sharePend := [], guides := [], insts := [], reserve := [],
    queues := [], merTags := [], merPorts := [], trn := Transit.idle, lanes := [], links := [],
    pair := Pair.standalone, doms := [], eyes := [], resets := [], ltr := [],
    quotaWait := [], drainWait := [], held := [], domHeld := [], logWait := [], fcWait := [], placeAt := [], cycle := TakeCycle.idle, dimSince := none, wakeStart := none, calStart := none,
    calPeriod := 0, archUsed := [0, 0, 0, 0], archTurn := false, absentRefs := [], svcErr := false,
    done := [] }

/-- The kept page as the island initialises it (R52): FLT_LIFE[0] is 1, the fault region is empty. -/
def Kept.fresh : Kept :=
  { headerOk := true, active := false, source := 0, slot := 0, digest := 0, log := [], nextSeq := 0, boots := 0,
    latch := true, overflow := false, ring := [], nextSlot := 1, nextRec := 0, life := [(0, 1)], loops := 0 }

/-- The almanac engine with nothing loaded. -/
def Almanac.none_ : Almanac :=
  { inForce := none, staged := none, loading := none, next := [], committing := false, mirroring := false, patchSeq := none, start := 0,
    recording := true, held := [], bareRelinkAt := none, waitService := false, tickS := 0, chartStart := 0,
    calibrated := false }

/-- The pins in M2 with PERST_N asserted (R418). -/
def Pins.dawn : Pins :=
  { vaux := true, pwrgood := true, perstReleased := false, transitFloat := true, wakeN := false, thermtrip := false,
    hostTerm := false }

/-- The bridge in Dawn (M2) with PERST_N asserted: every register at its reset value (R413, R418; log entries 3, 6). -/
def Bridge.reset : Bridge :=
  { part := .qb7432, authFuse := false, tick := 0, freeCtr := 0, nextId := 0, out := [], regs := [], overridden := [],
    cfg := [], msix := [], pendVec := [], pins := Pins.dawn, kept := Kept.fresh, alm := Almanac.none_, archReqs := [],
    ledger := [], freed := [], pbs := [], proving := [], reqs := [], hostReads := [], ups := [], barriers := [],
    barSeq := [], barStat := [], eng := Engines.reset }

/-- The machine right after reset. -/
def State.reset : State := { pending := [], mem := [], b := Bridge.reset }

end Sys2Proof.Machine
end

