-- ==== Sys2Proof/Machine/Ops.lean ====
section
/-!
DEFINITION. The named operations over the state: the register file, archive memory, the parts of the family, events,
interrupt vectors, fault records and the bookkeeping that every family of commands shares.
-/
namespace Sys2Proof

/-! The parts of the family (R1). -/

def Part.code : Part → Nat | .qb7432 => 0x7432 | .qb7416 => 0x7416 | .qb7408 => 0x7408
def Part.domes : Part → Nat | .qb7432 => 32 | .qb7416 => 16 | .qb7408 => 8
def Part.apertures : Part → Nat | .qb7408 => 2 | _ => 4
def Part.vis : Part → Nat | .qb7432 => 2048 | .qb7416 => 1024 | .qb7408 => 512
def Part.hostLanes : Part → Nat | .qb7432 => 32 | .qb7416 => 16 | .qb7408 => 8
def Part.merLanes : Part → Nat | .qb7432 => 32 | .qb7416 => 16 | .qb7408 => 8
def Part.ifvLanes : Part → Nat | .qb7432 => 8 | .qb7416 => 4 | .qb7408 => 0
def Part.merPorts : Part → Nat | .qb7432 => 4 | .qb7416 => 2 | .qb7408 => 1
def Part.sizeMib : Part → Nat | .qb7432 => 8192 | _ => 4096
def Part.seeing : Part → Bool | .qb7432 => true | _ => false

/-- Whether a lane of LNE_ numbering is fused off (R1, R324). -/
def Part.laneFused (p : Part) (i : Nat) : Bool :=
  if i < 32 then p.hostLanes ≤ i else if i < 64 then p.merLanes ≤ i - 32 else p.ifvLanes ≤ i - 64

/-- Whether a shutter domain is fused closed (R1, R403). -/
def Part.domFused (p : Part) (n : Nat) : Bool :=
  if n < 32 then p.domes ≤ n
  else if n < 40 then p.hostLanes ≤ 4 * (n - 32)
  else if n < 48 then p.merLanes ≤ 4 * (n - 40)
  else if n < 50 then p.ifvLanes ≤ 4 * (n - 48)
  else if n < 54 then p.apertures ≤ n - 50
  else if n < 58 then p.merPorts ≤ n - 54
  else if n < 60 then p.ifvLanes = 0
  else n = 91 && !p.seeing

/-- Reset values of a function's configuration fields (log entry 8). -/
def CfgField.default : CfgField → Nat
  | .maxPayload => 128
  | .maxReadReq => 512
  | .roEnable => 1
  | .firstVfOffset => 1
  | .vfStride => 1
  | .pageSizes => 0x13
  | .extTagEnable => 1
  | .aerUncSeverity => 0x462030
  | _ => 0

end Sys2Proof

namespace Sys2Proof.Machine

open Sys2Proof

/-! Lists of structures by key. -/

/-- Replace the first match in place, or append. -/
def listPut {α : Type} (p : α → Bool) (x : α) (l : List α) : List α :=
  if l.any p then l.map (fun y => if p y then x else y) else l ++ [x]

/-- Look a key up in a list of pairs. -/
def alGet {β : Type} (d : β) (k : Nat) (l : List (Nat × β)) : β := assocGet d k l

/-- Write a key of a list of pairs. -/
def alPut {β : Type} (k : Nat) (v : β) (l : List (Nat × β)) : List (Nat × β) :=
  assocInsert (fun a b => a < b) k v (l.filter (fun p => p.1 ≠ k))

/-! The register file. -/

/-- Order of registers: by offset, then by the bank of a banked register. -/
def Reg.lt (a b : Reg) : Bool := a.offset < b.offset

/-- The reset value of a register on a part (R10; the rows marked A: log entry 6). -/
def Reg.resetValue (p : Part) : Reg → Word
  | .blkId b => wmk [(Fld.blkId_BLOCK, b.code), (Fld.blkId_INSTANCE, match b with | .apt a => a | _ => 0)]
  | .aptMarginCfg _ => if p.seeing then 0 else 1
  | .aptLedgerCfg _ => 16384
  | .almApplyLimit => 3000000
  | .dspDomeCfg d => wput (wput (Reg.tableReset (.dspDomeCfg d)) Fld.dspDomeCfg_APT_AFF (d / 8)) Fld.dspDomeCfg_MER_AFF (d / 8)
  | .dspViShare _ => wmk [(Fld.dspViShare_WEIGHT, 1), (Fld.dspViShare_PRIO_CEIL, 7)]
  | .dspViBucket _ _ => wmk [(Fld.dspViBucket_DEPTH_KIB, 16384)]
  | .logQGeom _ => 7
  | .catRegion _ => 0xF
  | .ifvLinkTmo _ => wmk [(Fld.ifvLinkTmo_REPLAY_TICKS, 100), (Fld.ifvLinkTmo_CREDIT_TICKS, 2500)]
  | .fltLadder k => ([0, 50, 200, 500, 5000, 100, 2500, 10000, 500000, 1000000, 550000, 2000000, 5000000, 3000000,
      100000000] : List Word).getD k 0
  | .fltRecStat => 0
  | .lneSeeCfg i => if p.seeing then Reg.tableReset (.lneSeeCfg i) else 0
  | r => r.tableReset

/-- The word the register file holds. -/
def Bridge.raw (b : Bridge) (r : Reg) : Word := assocGet (r.resetValue b.part) r b.regs

/-- A field the register file holds. -/
def Bridge.get (b : Bridge) (r : Reg) (f : Fld) : Nat := wget (b.raw r) f

/-- Write a word of the register file. -/
def Bridge.put (b : Bridge) (r : Reg) (w : Word) : Bridge :=
  { b with regs := assocPut Reg.lt (r.resetValue b.part) r w b.regs }

/-- Write one field. -/
def Bridge.set (b : Bridge) (r : Reg) (f : Fld) (v : Nat) : Bridge := b.put r (wput (b.raw r) f v)

/-- Write several fields of one register. -/
def Bridge.sets (b : Bridge) (r : Reg) (l : List (Fld × Nat)) : Bridge :=
  b.put r (l.foldl (fun w p => wput w p.1 p.2) (b.raw r))

/-- Add to a saturating counter field. -/
def Bridge.bump (b : Bridge) (r : Reg) (f : Fld) (n : Nat := 1) : Bridge :=
  b.set r f (satAdd f.len (b.get r f) n)

/-- Add to a counter field that wraps. -/
def Bridge.inc (b : Bridge) (r : Reg) (f : Fld) (n : Nat := 1) : Bridge := b.set r f (b.get r f + n)

/-- Put an emission out. -/
def Bridge.emit (b : Bridge) (e : Emission) : Bridge := { b with out := b.out ++ [e] }

/-- Draw a free value (log entry 4). -/
def Bridge.draw (b : Bridge) : Word × Bridge := (Config.freeValue b.freeCtr, { b with freeCtr := b.freeCtr + 1 })

/-- Draw an identity. -/
def Bridge.fresh (b : Bridge) : Nat × Bridge := (b.nextId, { b with nextId := b.nextId + 1 })

/-- Low 31 bits of the tick, as the registers stamp it. -/
def Bridge.tick31 (b : Bridge) : Nat := b.tick % 2 ^ 31

/-- The mode, 0 to 11 (R393). -/
def Bridge.mode (b : Bridge) : Nat := b.get .pwrMode Fld.pwrMode_MODE

/-- A value of the timeout ladder in force (R430). -/
def Bridge.ladder (b : Bridge) (k : Nat) : Nat := b.get (.fltLadder k) Fld.fltLadder_TICKS

/-! Archive memory (R469). -/

/-- The byte at an archive address. -/
def memGet (m : List Host.Cell) (a : Nat) : Byte := assocGet memDefault a m

/-- Write one byte; the form stays canonical. -/
def memPut (m : List Host.Cell) (a : Nat) (v : Byte) : List Host.Cell :=
  assocPut (fun x y => x < y) memDefault a v m

/-- Read `n` bytes. -/
def memRead (m : List Host.Cell) (a n : Nat) : List Byte := (List.range n).map (fun i => memGet m (a + i))

/-- Write bytes at `a` and up; `none` leaves a byte as it is. -/
def memWrite (m : List Host.Cell) (a : Nat) : List (Option Byte) → List Host.Cell
  | [] => m
  | none :: l => memWrite m (a + 1) l
  | some v :: l => memWrite (memPut m a v) (a + 1) l

/-- The canonical form: addresses strictly rising, no byte equal to what an unlisted address reads as. -/
def memWf : List Host.Cell → Bool
  | [] => true
  | (a, v) :: l => v != memDefault && (l.all fun p => decide (a < p.1)) && memWf l

/-! Configuration fields of functions. -/

/-- A configuration field of a function. -/
def Bridge.cfgGet (b : Bridge) (ap fn : Nat) (f : CfgField) : Nat := assocGet f.default ⟨ap, fn, f⟩ b.cfg

/-- Write a configuration field of a function. -/
def Bridge.cfgPut (b : Bridge) (ap fn : Nat) (f : CfgField) (v : Nat) : Bridge :=
  { b with cfg := assocPut (fun x y => x.ap < y.ap || (x.ap = y.ap && x.fn < y.fn)) f.default ⟨ap, fn, f⟩ v b.cfg }

/-- VFs that the function tree gives an Aperture (R73). -/
def Bridge.totalVfs (b : Bridge) (ap : Nat) : Nat := b.cfgGet ap 0 .totalVfs

/-- Whether a function may issue requests now (R107): its Bus Master Enable, and for a VF its number and VF Enable. -/
def Bridge.canIssue (b : Bridge) (ap fn : Nat) : Bool :=
  b.cfgGet ap fn .busMaster = 1 &&
    (fn = 0 || (b.cfgGet ap 0 .vfEnable = 1 && fn ≤ b.cfgGet ap 0 .numVfs))

/-- The completion timeout in force on an Aperture (R67). -/
def Bridge.cplTimeout (b : Bridge) (ap : Nat) : Nat :=
  match b.cfgGet ap 0 .cplTimeout with
  | 1 => 5000
  | 2 => 500000
  | _ => b.ladder 8

/-! Instances (R211, R235). -/

/-- Whether VI `v` exists. -/
def Bridge.viLive (b : Bridge) (v : Nat) : Bool := b.get (.viEntry v) Fld.viEntry_VALID = 1

/-- VI_ENTRY.STATE: 0 none, 1 READY, 2 RESETTING, 3 DESTROYING. -/
def Bridge.viState (b : Bridge) (v : Nat) : Nat := b.get (.viEntry v) Fld.viEntry_STATE

/-- The live instances, in VI order. -/
def Bridge.liveVis (b : Bridge) : List Nat :=
  b.regs.filterMap (fun p => match p.1 with
    | .viEntry v => if wget p.2 Fld.viEntry_VALID = 1 then some v else none
    | _ => none)

def Bridge.viAp (b : Bridge) (v : Nat) : Nat := b.get (.viEntry v) Fld.viEntry_APERTURE
def Bridge.viVf (b : Bridge) (v : Nat) : Nat := b.get (.viEntry v) Fld.viEntry_VF
def Bridge.viFirstCh (b : Bridge) (v : Nat) : Nat := b.get (.viEntry v) Fld.viEntry_FIRST_CH
def Bridge.viChannels (b : Bridge) (v : Nat) : Nat := b.get (.viEntry v) Fld.viEntry_CHANNELS
def Bridge.viGrant (b : Bridge) (v : Nat) : Nat := b.get (.viEntry v) Fld.viEntry_GRANT_FIRST
def Bridge.viFirstLq (b : Bridge) (v : Nat) : Nat := b.get (.viRes v) Fld.viRes_FIRST_LQ
def Bridge.viQueues (b : Bridge) (v : Nat) : Nat := b.get (.viRes v) Fld.viRes_QUEUES
def Bridge.viVectors (b : Bridge) (v : Nat) : Nat := b.get (.viRes v) Fld.viRes_VECTORS

/-- The instance that a VF serves. -/
def Bridge.viOf (b : Bridge) (ap vf : Nat) : Option Nat :=
  b.liveVis.find? (fun v => b.viAp v = ap && b.viVf v = vf)

/-- The instance that owns channel `c`. -/
def Bridge.chanOwner (b : Bridge) (c : Nat) : Option Nat :=
  b.liveVis.find? (fun v => b.viFirstCh v ≤ c && c < b.viFirstCh v + b.viChannels v)

/-- The instance that owns queue `q`. -/
def Bridge.queueOwner (b : Bridge) (q : Nat) : Option Nat :=
  b.liveVis.find? (fun v => b.viFirstLq v ≤ q && q < b.viFirstLq v + b.viQueues v)

/-! Interrupt vectors (R75 to R80). -/

/-- A function's interrupt method (R75): 3 MSI-X, 2 MSI, 1 INTx, 0 none. -/
def Bridge.irqMethod (b : Bridge) (ap fn : Nat) : Nat :=
  if b.cfgGet ap fn .msixEnable = 1 then 3
  else if b.cfgGet ap fn .msiEnable = 1 then 2
  else if fn = 0 then 1 else 0

/-- INTA of an Aperture, asserted while any bit of the director's interrupt status is 1 and Interrupt Disable is 0
(R77, R468). -/
def Bridge.inta (b : Bridge) (ap : Nat) : Bool :=
  b.cfgGet ap 0 .intxDisable = 0 && (List.range 32).any (fun w => b.raw (.idIntPend ap w) ≠ 0)

/-- A function's vectors: PF0's table size (R76), or the instance's count. -/
def Bridge.vectors (b : Bridge) (ap fn : Nat) : Nat :=
  if fn = 0 then b.cfgGet ap 0 .msixTableSize
  else match b.viOf ap fn with | some v => b.viVectors v | none => 0

/-- The MSI-X table entry of a vector; reset masked, with address and data 0. -/
def Bridge.msixEntry (b : Bridge) (ap fn v : Nat) : MsixEntry :=
  (b.msix.find? (fun e => e.ap = ap && e.fn = fn && e.v = v)).getD ⟨ap, fn, v, 0, 0, true⟩

/-- Whether a mask, the Function Mask or Bus Master Enable holds a vector back (R77, R78, R80). -/
def Bridge.vectorHeld (b : Bridge) (ap fn v : Nat) : Bool :=
  b.cfgGet ap fn .busMaster = 0 ||
    (if b.irqMethod ap fn = 3 then b.cfgGet ap fn .functionMask = 1 || (b.msixEntry ap fn v).masked
     else (b.cfgGet ap fn .msiMask).testBit (v % max 1 (b.cfgGet ap fn .msiVectors)))

/-- The message write of a vector (R77, R136): relaxed ordering clear, charged nothing. -/
def Bridge.sendMessage (b : Bridge) (ap fn v : Nat) : Bridge :=
  let (addr, data) :=
    if b.irqMethod ap fn = 3 then ((b.msixEntry ap fn v).addr, (b.msixEntry ap fn v).data)
    else (b.cfgGet ap fn .msiAddr, b.cfgGet ap fn .msiData + v % max 1 (b.cfgGet ap fn .msiVectors))
  let (id, b) := b.fresh
  let j : Job :=
    { id := id, origin := .message v, src := .bridge, owner := b.viOf ap fn, director := decide (fn = 0), idx := 0,
      gen := 0, space := 4, port := ap, addr := addr, op := .write ((bytesOfNat 4 data).map some) false, off := 0,
      order := 0, fn := fn, t0 := b.tick }
  { b with reqs := b.reqs ++ [j] }

/-- Raise vector `v` of a function (R77, R78). -/
def Bridge.raiseVector (b : Bridge) (ap fn v : Nat) : Bridge :=
  let m := b.irqMethod ap fn
  if m = 1 then b.put (.idIntPend ap (v / 64)) (b.raw (.idIntPend ap (v / 64)) ||| BitVec.ofNat 64 (2 ^ (v % 64)))
  else if m = 0 || b.vectorHeld ap fn v then
    if b.pendVec.any (fun p => p = ⟨ap, fn, v⟩) then b else { b with pendVec := b.pendVec ++ [⟨ap, fn, v⟩] }
  else b.sendMessage ap fn v

/-- The vectors of a function that share one message with `v` under its method. -/
def Bridge.sameMessage (b : Bridge) (ap fn v w : Nat) : Bool :=
  if b.irqMethod ap fn = 2 then v % max 1 (b.cfgGet ap fn .msiVectors) = w % max 1 (b.cfgGet ap fn .msiVectors)
  else v = w

/-- Count in a lifetime counter, saturating at 64 bits. -/
def Bridge.life (b : Bridge) (w : Nat) (n : Nat := 1) : Bridge :=
  { b with kept := { b.kept with life := alPut w (satAdd 64 (alGet 0 w b.kept.life) n) b.kept.life } }

/-- Issue once each pending vector of a function that nothing holds back any more; the number of messages goes to the
given counter (R78 to R80). -/
def Bridge.issuePending (b : Bridge) (ap fn : Nat) (count : Bool) : Nat → Bridge
  | 0 => b
  | n + 1 =>
    match b.pendVec.find? (fun p => p.ap = ap && p.fn = fn && (b.irqMethod ap fn = 1 || !b.vectorHeld ap fn p.v)) with
    | none => b
    | some p =>
      if b.irqMethod ap fn = 0 then b else
      let b1 := { b with pendVec := b.pendVec.filter (fun q =>
        !(q.ap = ap && q.fn = fn && b.sameMessage ap fn p.v q.v)) }
      let b2 := b1.raiseVector ap fn p.v
      let b3 := if count then (b2.bump (.aptIntReissue ap) Fld.aptIntReissue_COUNT).life (16 + ap) else b2
      Bridge.issuePending b3 ap fn count n

/-! Events (R459, R460). -/

/-- Bits of a block that are pending for the host. -/
def Bridge.hostPending (b : Bridge) (k : Blk) : Bool :=
  b.get (.blkEvent k) ⟨0, 32⟩ &&& b.get (.blkEventEn k) Fld.blkEventEn_HOST_EN ≠ 0

/-- Bits of a block that are pending for the board controller. -/
def Bridge.svcPending (b : Bridge) (k : Blk) : Bool :=
  b.get (.blkEvent k) ⟨0, 32⟩ &&& b.get (.blkEventEn k) Fld.blkEventEn_SVC_EN ≠ 0

/-- ID_EVENT_SUM.PENDING as a number. -/
def Bridge.eventSum (b : Bridge) : Nat :=
  Blk.all.foldl (fun n k => if b.hostPending k then n ||| 2 ^ k.sumBit else n) 0

/-- ID_EVENT_SUM.SVC_PENDING. -/
def Bridge.svcSum (b : Bridge) : Nat :=
  Blk.all.foldl (fun n k => if b.svcPending k then n ||| 2 ^ k.sumBit else n) 0

/-- The OR of an enabled route's masked pending bits. -/
def Bridge.routePending (b : Bridge) (a : Nat) : Bool :=
  b.get (.idEventRoute a) Fld.idEventRoute_EN = 1 && b.eventSum &&& b.get (.idEventRoute a) Fld.idEventRoute_MASK ≠ 0

/-- Raise the vector of every route that `rose` selects. -/
def Bridge.raiseRoutes (b : Bridge) (rose : Nat → Bool) : Bridge :=
  (List.range 4).foldl (fun b a =>
    if rose a then b.raiseVector a 0 (b.get (.idEventRoute a) Fld.idEventRoute_VECTOR) else b) b

/-- Raise an event bit of a block: a route whose OR rises raises its vector (R459). -/
def Bridge.raise (b : Bridge) (k : Blk) (n : Nat) : Bridge :=
  let b' := b.put (.blkEvent k) (b.raw (.blkEvent k) ||| BitVec.ofNat 64 (2 ^ n))
  b'.raiseRoutes (fun a => !b.routePending a && b'.routePending a)

/-- SVC_ALERT_N asserted (R460). -/
def Bridge.svcAlert (b : Bridge) : Bool :=
  b.svcSum ≠ 0 || b.get .pwrMode Fld.pwrMode_PARKED = 1 || b.mode = 11

/-- Record a rejected write in a block's BLK_REJECT and raise REJECT (R455, R457). Writer: 0 the service port, 1 to 4 the
directors, 5 a VF, 6 the logbook target space; `vf` is the VF number, or the source for writer 6. -/
def Bridge.reject (b : Bridge) (k : Blk) (off : Nat) (half : Bool) (reason writer vf : Nat) : Bridge :=
  let n := if b.get (.blkReject k) Fld.blkReject_VALID = 1 then satAdd 8 (b.get (.blkReject k) Fld.blkReject_COUNT) 1 else 1
  (b.put (.blkReject k) (wmk [(Fld.blkReject_OFFSET, off), (Fld.blkReject_HALF, bit half), (Fld.blkReject_REASON, reason),
    (Fld.blkReject_WRITER, writer), (Fld.blkReject_VF, vf), (Fld.blkReject_COUNT, n), (Fld.blkReject_VALID, 1)])).raise k 31

/-! Lifetime counters and fault records (R436 to R440). -/

/-- The fixed severity of a fault code (R437). -/
def faultSeverity (code : Nat) : Nat :=
  if code = 0x13 then 3 else if code ∈ [0x02, 0x09, 0x11] then 0 else if code ∈ [0x03, 0x0E, 0x10] then 1 else 2

/-- The four words of a fault record (R436). -/
def Bridge.faultWords (b : Bridge) (code : Nat) (k : Blk) (vi ap : Option Nat) (a d : Word) : List Word :=
  [wmk [(⟨0, 8⟩, code), (⟨8, 5⟩, k.code), (⟨13, 2⟩, faultSeverity code), (⟨15, 1⟩, bit vi.isSome),
      (⟨16, 11⟩, vi.getD 0), (⟨27, 2⟩, ap.getD 0), (⟨29, 1⟩, bit ap.isSome), (⟨32, 32⟩, b.kept.nextRec)],
   wmk [(⟨0, 63⟩, b.tick)], a, d]

/-- DETAIL_B's packing of index, GEN, SPACE and PORT (R437). -/
def packIdx (idx gen space port : Nat) : Word :=
  wmk [(⟨0, 16⟩, idx), (⟨16, 8⟩, gen), (⟨24, 4⟩, space), (⟨28, 2⟩, port)]

/-- Whether an Aperture's link is trained: its state is neither Detect, Polling, Configuration nor Disabled. -/
def Bridge.apTrained (b : Bridge) (a : Nat) : Bool :=
  let s := b.get (.aptLinkEff a) Fld.aptLinkEff_STATE
  3 ≤ s && s ≤ 8

/-- The bits of the halves that a write covers (R461). -/
def halfMask (lo hi : Bool) : Word := (if lo then 0x00000000FFFFFFFF#64 else 0) ||| (if hi then 0xFFFFFFFF00000000#64 else 0)

/-! Shutter domains (R403 to R405). -/

/-- A domain's state: 0 closed, 1 opening, 2 open, 3 closing, 4 fused. -/
def Bridge.domState (b : Bridge) (n : Nat) : Nat :=
  if b.part.domFused n then 4 else match b.eng.doms.find? (fun d => d.n = n) with | some d => d.st | none => 0

/-- Set a domain's state. -/
def Bridge.setDom (b : Bridge) (n st : Nat) : Bridge :=
  { b with eng := { b.eng with doms := listPut (fun d => d.n = n) ⟨n, st, b.tick⟩ b.eng.doms } }

/-- Work needs a domain: a closed one that is not fused and not never-open starts opening (R403, R404); none opens in Dimmed before a
wake (R397, R399). -/
def Bridge.openDom (b : Bridge) (n : Nat) : Bridge :=
  if b.domState n = 0 && b.get (.pwrDomPol n) Fld.pwrDomPol_POLICY ≠ 3 && !(b.mode = 9 && b.eng.wakeStart.isNone) then
    (b.setDom n 1).bump (.pwrDomStat n) Fld.pwrDomStat_OPENS
  else b

/-- A request crosses a domain: it waits for one that is closed or opening, and is counted (R26, R403, R415). -/
def Bridge.needDom (b : Bridge) (n : Nat) : Bridge :=
  if (b.domState n = 0 || b.domState n = 1) && b.get (.pwrDomPol n) Fld.pwrDomPol_POLICY ≠ 3 then
    (b.openDom n).bump (.pwrDomStat n) Fld.pwrDomStat_DEMAND_WAITS
  else b

/-- Whether every domain of a path lets requests through: open, or fused with what it holds (R26). -/
def Bridge.domsOpen (b : Bridge) (ns : List Nat) : Bool := ns.all (fun n => b.domState n = 2 || b.domState n = 4)

/-- A request crosses the domains of its path. -/
def Bridge.needDoms (b : Bridge) (ns : List Nat) : Bridge := ns.foldl (fun (b : Bridge) n => b.needDom n) b

/-- Ask the archive arbiter, at a rank of R16; the archive's domains open for it (R403). The identity of the request. -/
def Bridge.askArchive (b : Bridge) (rank user arg : Nat) : Nat × Bridge :=
  let (id, b) := b.fresh
  let r : ArchReq := { id := id, rank := rank, t0 := b.tick, job := none, user := user, arg := arg }
  (id, { b.needDoms [81, 82] with archReqs := b.archReqs ++ [r] })

/-- A command that works in domains `ns` (R26): served when they are open; else it waits for them, in order of arrival, with the
words that it took. -/
def Bridge.whenOpen (b : Bridge) (ns : List Nat) (i : Instr) (serve : Bridge → Bridge) (words : List Word := []) : Bridge :=
  if b.domsOpen ns then serve b
  else { b.needDoms ns with eng := { (b.needDoms ns).eng with domHeld := b.eng.domHeld ++ [(ns, ⟨i, words⟩)] } }

/-- Domains that a sequence opens on its way, whose time covers the opening (R399, R403, log entry 40): a wake, an adoption, a
load or a patch. -/
def Bridge.openNow (b : Bridge) (ns : List Nat) : Bridge :=
  ns.foldl (fun (b : Bridge) n => let b := b.openDom n; if b.domState n = 1 then b.setDom n 2 else b) b

end Sys2Proof.Machine
end

