-- ==== Sys2Proof/Machine/Image.lean ====
section
/-!
DEFINITION. Almanac images (R27 to R36, R491): reading an image, SHA-384 (R32), and the checks of the header, directory,
section CRC, digest and signature stages, and of every record by itself.
-/
namespace Sys2Proof.Machine

open Sys2Proof

/-! SHA-384 (R32). -/

/-- The `n` words of a number, the highest first. -/
def unpackWords (n v : Nat) : List Word := (List.range n).map (fun i => BitVec.ofNat 64 (v / 2 ^ (64 * (n - 1 - i))))

/-- The 80 round constants, eight to a number. -/
def shaRoundKeys : List Word :=
  [0x428a2f98d728ae227137449123ef65cdb5c0fbcfec4d3b2fe9b5dba58189dbbc3956c25bf348b53859f111f1b605d019923f82a4af194f9bab1c5ed5da6d8118,
   0xd807aa98a303024212835b0145706fbe243185be4ee4b28c550c7dc3d5ffb4e272be5d74f27b896f80deb1fe3b1696b19bdc06a725c71235c19bf174cf692694,
   0xe49b69c19ef14ad2efbe4786384f25e30fc19dc68b8cd5b5240ca1cc77ac9c652de92c6f592b02754a7484aa6ea6e4835cb0a9dcbd41fbd476f988da831153b5,
   0x983e5152ee66dfaba831c66d2db43210b00327c898fb213fbf597fc7beef0ee4c6e00bf33da88fc2d5a79147930aa72506ca6351e003826f142929670a0e6e70,
   0x27b70a8546d22ffc2e1b21385c26c9264d2c6dfc5ac42aed53380d139d95b3df650a73548baf63de766a0abb3c77b2a881c2c92e47edaee692722c851482353b,
   0xa2bfe8a14cf10364a81a664bbc423001c24b8b70d0f89791c76c51a30654be30d192e819d6ef5218d69906245565a910f40e35855771202a106aa07032bbd1b8,
   0x19a4c116b8d2d0c81e376c085141ab532748774cdf8eeb9934b0bcb5e19b48a8391c0cb3c5c95a634ed8aa4ae3418acb5b9cca4f7763e373682e6ff3d6b2b8a3,
   0x748f82ee5defb2fc78a5636f43172f6084c87814a1f0ab728cc702081a6439ec90befffa23631e28a4506cebde82bde9bef9a3f7b2c67915c67178f2e372532b,
   0xca273eceea26619cd186b8c721c0c207eada7dd6cde0eb1ef57d4f7fee6ed17806f067aa72176fba0a637dc5a2c898a6113f9804bef90dae1b710b35131c471b,
   0x28db77f523047d8432caab7b40c724933c9ebe0a15c9bebc431d67c49c100d4c4cc5d4becb3e42b6597f299cfc657e2a5fcb6fab3ad6faec6c44198c4a475817].flatMap (unpackWords 8)

/-- The words that the digest starts from. -/
def shaStart : List Word := unpackWords 8
  0xcbbb9d5dc1059ed8629a292a367cd5079159015a3070dd17152fecd8f70e593967332667ffc00b318eb44a8768581511db0c2e0d64f98fa747b5481dbefa4fa4

/-- The exclusive or of the rotations of a word to the right by each amount. -/
def spin (turns : List Nat) (x : Word) : Word := turns.foldl (fun acc n => acc ^^^ x.rotateRight n) 0

/-- The working words as two histories, the newest first: the words that enter at the top of the register and those that enter at
its middle. A round puts one word in front of each; only the newest four of each count. -/
def shaRound (st : List Word × List Word) (kw : Word) : List Word × List Word :=
  let p := fun i => st.1.getD i 0
  let q := fun i => st.2.getD i 0
  let pick := q 2 ^^^ (q 0 &&& (q 1 ^^^ q 2))
  let most := (p 0 &&& (p 1 ||| p 2)) ||| (p 1 &&& p 2)
  let x := kw + q 3 + pick + spin [14, 18, 41] (q 0)
  ((x + most + spin [28, 34, 39] (p 0)) :: st.1.take 3, (p 3 + x) :: st.2.take 3)

/-- `n` more words of the message schedule in front of those had, newest first. -/
def shaSchedule : Nat → List Word → List Word
  | 0, l => l
  | n + 1, l =>
    let back := fun k => l.getD (k - 1) 0
    let near := spin [19, 61] (back 2) ^^^ (back 2 >>> 6)
    let far := spin [1, 8] (back 15) ^^^ (back 15 >>> 7)
    shaSchedule n ((near + far + back 7 + back 16) :: l)

/-- A big-endian word of 8 bytes. -/
def beWord (l : List Byte) : Word := wordOfBytes (l.take 8).reverse

/-- One block of 128 bytes. -/
def shaBlock (h : List Word) (blk : List Byte) : List Word :=
  let first := (List.range 16).foldl (fun (l : List Word) i => beWord (blk.drop (8 * i)) :: l) []
  let keyed := List.zipWith (· + ·) shaRoundKeys (shaSchedule 64 first).reverse
  let (tops, mids) := keyed.foldl shaRound (h.take 4, h.drop 4)
  List.zipWith (· + ·) h (tops ++ mids)

/-- The blocks of a padded message. -/
def shaBlocks : Nat → List Byte → List Word → List Word
  | 0, _, h => h
  | n + 1, l, h => shaBlocks n (l.drop 128) (shaBlock h (l.take 128))

/-- SHA-384 of bytes, its first byte in the highest bits. -/
def sha384 (l : List Byte) : BitVec 384 :=
  let z := (239 - l.length % 128) % 128
  let m := l ++ [0x80] ++ List.replicate z 0 ++ (bytesOfNat 16 (8 * l.length)).reverse
  let h := shaBlocks (m.length / 128) m shaStart
  BitVec.ofNat 384 ((h.take 6).foldl (fun n w => n * 2 ^ 64 + w.toNat) 0)

/-- Bytes 8k to 8k + 7 of a digest as a word, the first lowest (R59). -/
def digestWord (d : BitVec 384) (k : Nat) : Word :=
  wordOfBytes ((List.range 8).map (fun i => d.extractLsb' (8 * (47 - (8 * k + i))) 8))

/-! Reading bytes. -/

/-- The number in `n` little-endian bytes at `o`. -/
def un (l : List Byte) (o n : Nat) : Nat := natOfBytes ((l.drop o).take n)

/-- Whether `n` bytes at `o` are all 0. -/
def zeros (l : List Byte) (o n : Nat) : Bool := ((l.drop o).take n).all (· = 0)

/-- A refusal: code, section at fault, record at fault (R57). -/
structure ImgRefusal where
  code : Nat
  sect : Nat
  rec_ : Nat
  deriving DecidableEq, Repr

/-- RECORD when no record is at fault (R30). -/
def noRecord : Nat := 0xFFFFFFFF

/-- RECORD beside a code when no record is at fault and no rule gives a value. -/
def recordOf (code : Nat) : Nat := (Config.unnamedRecord code).toNat

/-- The first refusal of a list of checks, each a condition that refuses. -/
def firstOf : List (Bool × Nat × Nat × Nat) → Option ImgRefusal
  | [] => none
  | (c, code, s, r) :: l => if c then some ⟨code, s, r⟩ else firstOf l

/-- The header stage (R28, R34). For a header field RECORD is its byte offset. -/
def headerCheck (p : Part) (l : List Byte) : Option ImgRefusal :=
  let len := un l 0x0C 4
  let kind := un l 0x0A 2
  let n := un l 0x10 2
  let fl := un l 0x12 2
  let dir := un l 0x14 4
  let sgn := un l 0x18 4
  firstOf [
    (un l 0 4 ≠ 0x4D4C4151, 0x01, 0, 0),
    (crc32c (l.take 0xFC) ≠ un l 0xFC 4, 0x05, 0, 0xFC),
    (!zeros l 0x28 8, 0x05, 0, 0x28),
    (!zeros l 0x60 156, 0x05, 0, 0x60),
    (un l 4 2 ≠ 1, 0x02, 0, 4),
    (un l 8 2 ≠ p.code, 0x03, 0, 8),
    (len < 512 || 8388608 < len || len % 8 ≠ 0 || l.length < len, 0x04, 0, 0x0C),
    (1 < kind, 0x0B, 0, 0x0A),
    (n = 0 || 32 < n, 0x0B, 0, 0x10),
    (3 < fl, 0x0B, 0, 0x12),
    (dir < 256 || dir % 64 ≠ 0 || len < dir + 16 * n, 0x0B, 0, 0x14),
    (if fl % 2 = 1 then sgn + 104 ≠ len else sgn ≠ 0, 0x0B, 0, 0x18),
    (kind = 0 && !zeros l 0x30 48, 0x0B, 0, 0x30)]

/-- A directory entry (R29). -/
structure DirEntry where
  type : Nat
  cls : Nat
  flags : Nat
  off : Nat
  len : Nat
  crc : Nat
  deriving DecidableEq, Repr

/-- The directory of an image. -/
def directory (l : List Byte) : List DirEntry :=
  (List.range (un l 0x10 2)).map (fun i =>
    let o := un l 0x14 4 + 16 * i
    ⟨un l o 2, un l (o + 2) 1, un l (o + 3) 1, un l (o + 4) 4, un l (o + 8) 4, un l (o + 12) 4⟩)

/-- The bodies of a section (R30). -/
def DirEntry.body (l : List Byte) (e : DirEntry) : List Byte := (l.drop e.off).take e.len

/-- Class of a known section type; 2 for an unknown type. -/
def typeClass (t : Nat) : Nat := if 1 ≤ t && t ≤ 0x0B then 0 else if 0x0101 ≤ t && t ≤ 0x0106 then 1 else 2

/-- Record size of a known section type; 0 is variable (R30). -/
def typeSize : Nat → Nat
  | 0x0001 => 8 | 0x0004 => 32 | 0x0005 => 4 | 0x0006 => 16 | 0x0008 => 32 | 0x0009 => 4 | 0x000A => 8 | 0x000B => 8
  | 0x0101 => 36 | 0x0102 => 32 | 0x0103 => 2056 | 0x0104 => 16 | 0x0105 => 16 | 0x0106 => 8
  | _ => 0

/-- Check each directory entry after the bytes before `lo`, with the types already seen. R29 and R57 leave open what SECTION and
RECORD show beside 0x06 and what the flag bits 7:1 do: here the entry's type and its index in the directory, and the bits are
ignored, while a class above 1 is refused for an unknown type too (log entry 100). -/
def dirEntries (lim : Nat) : Nat → Nat → List Nat → List DirEntry → Option ImgRefusal
  | _, _, _, [] => none
  | i, lo, seen, e :: l =>
    if e.off % 64 ≠ 0 || e.off < lo || lim < e.off + e.len || seen.contains e.type ||
        (typeClass e.type ≠ 2 && e.cls ≠ typeClass e.type) || 1 < e.cls then some ⟨0x06, e.type, i⟩
    else dirEntries lim (i + 1) (e.off + e.len) (e.type :: seen) l

/-- The directory stage (R29). -/
def directoryCheck (l : List Byte) : Option ImgRefusal :=
  let o := un l 0x14 4
  let n := un l 0x10 2
  let lim := if un l 0x18 4 = 0 then un l 0x0C 4 else un l 0x18 4
  if crc32c ((l.drop o).take (16 * n)) ≠ un l 0x1C 4 then some ⟨0x06, 0, recordOf 0x06⟩
  else dirEntries lim 0 (o + 16 * n) [] (directory l)

/-- The section CRC stage. -/
def crcCheck (l : List Byte) : Option ImgRefusal :=
  ((directory l).find? (fun e => crc32c (e.body l) ≠ e.crc)).map (fun e => ⟨0x07, e.type, recordOf 0x07⟩)

/-- The bytes that the digest covers (R32). -/
def digestBytes (l : List Byte) : List Byte := l.take (if un l 0x18 4 = 0 then un l 0x0C 4 else un l 0x18 4)

/-- A big-endian 48-byte integer. -/
def beInt (l : List Byte) (o : Nat) : BitVec 384 := BitVec.ofNat 384 (natOfBytes ((l.drop o).take 48).reverse)

/-- The signature stage (R32, R33). -/
def signatureCheck (fuse : Bool) (l : List Byte) : Option ImgRefusal :=
  let o := un l 0x18 4
  if un l 0x12 2 % 2 = 0 then (if fuse then some ⟨0x08, 0, recordOf 0x08⟩ else none)
  else if un l o 2 ≠ 1 || un l (o + 2) 2 ≠ 104 || !zeros l (o + 4) 4 ||
      !Config.signatureVerifies (sha384 (digestBytes l)) (beInt l (o + 8)) (beInt l (o + 56)) then some ⟨0x09, 0, recordOf 0x09⟩
  else none

/-! Records. -/

/-- Cut a fixed section's records. -/
def fixedRecords (n : Nat) : Nat → List Byte → List (List Byte)
  | 0, _ => []
  | k + 1, l => l.take n :: fixedRecords n k (l.drop n)

/-- Cut a variable section's records by their own lengths; `none` when they do not end exactly at the end. -/
def varRecords : Nat → List Byte → Option (List (List Byte))
  | 0, l => if l = [] then some [] else none
  | k + 1, l =>
    let n := un l 0 2
    if n < 2 || l.length < n then none else (varRecords k (l.drop n)).map (fun r => l.take n :: r)

/-- The records of a body of a known type, when its prologue describes it exactly (R30). -/
def bodyRecords (t : Nat) (body : List Byte) : Option (List (List Byte)) :=
  let w := wordOfBytes body
  let size := wget w ⟨0, 16⟩
  let count := wget w ⟨16, 32⟩
  let data := body.drop 8
  if body.length < 8 || wget w ⟨48, 16⟩ ≠ 0 || size ≠ typeSize t then none
  else if size = 0 then varRecords count data
  else if data.length ≠ size * count then none else some (fixedRecords size count data)

/-- The records of a section; none of an unknown type. -/
def Section.records (s : Section) : List (List Byte) := (bodyRecords s.type s.body).getD []

/-- The records of a section type in an image. -/
def Image.records (g : Image) (t : Nat) : List (List Byte) :=
  match g.sections.find? (fun s => s.type = t) with | some s => s.records | none => []

/-- Whether an image has a section. -/
def Image.has (g : Image) (t : Nat) : Bool := g.sections.any (fun s => s.type = t)

/-- The image that bytes hold, once its checks have passed. -/
def imageOf (l : List Byte) : Image :=
  { kind := un l 0x0A 2, signed := un l 0x12 2 % 2 = 1, sealOnApply := un l 0x12 2 / 2 % 2 = 1,
    digest := sha384 (digestBytes l),
    sections := (directory l).map (fun e => ⟨e.type, e.cls, e.flags % 2 = 1, e.body l⟩) }

/-- BASE_DIGEST (R28). -/
def baseDigest (l : List Byte) : BitVec 384 := beInt l 0x30

/-- 0x0A when `fused`, 0x0B when a condition fails, 0 otherwise. -/
def rng (fused : Bool) (ok : Bool) : Nat := if !ok then 0x0B else if fused then 0x0A else 0

/-- A lane map record (R325, R267). -/
def laneRec (p : Part) (r : List Byte) : Nat :=
  let face := un r 0 1
  let first := un r 1 1
  let w := un r 2 1
  let port := un r 3 1
  let rate := un r 4 1
  let fl := un r 5 1
  let base := first % max 1 w = 0 && 1 ≤ rate && fl < 4
  match face with
  | 0 => rng (p.apertures ≤ port || p.hostLanes < first + w)
      ([1, 2, 4, 8, 16].contains w && base && port ≤ 3 && rate ≤ 7 && first + w ≤ 32)
  | 1 => rng (p.merPorts ≤ port || p.merLanes < first + w)
      ([8, 16].contains w && base && port ≤ 3 && rate ≤ 3 && fl < 2 && first = 8 * port && (w = 8 || port % 2 = 0))
  | 2 => rng (p.ifvLanes = 0) ((w = p.ifvLanes || p.ifvLanes = 0) && base && port = 0 && rate ≤ 3 && fl < 2 && first = 0)
  | _ => 0x0B

/-- Sizes and types of the BAR model (R71) for a BAR record at byte `o`. -/
def barRec (r : List Byte) (o : Nat) : Bool :=
  let cls := un r o 1
  let bar := un r (o + 1) 1
  let size := un r (o + 2) 1
  let ty := un r (o + 3) 1
  let mask := un r (o + 4) 8
  zeros r (o + 12) 4 && mask < 2 ^ 35 &&
  (match cls, bar with
   | 0, 0 => size = 26 && ty = 1 && mask = 0
   | 0, 4 => size = 16 && ty = 1 && mask = 0
   | 1, 0 => size = 16 && ty = 1 && mask = 0
   | 0, 2 => 12 ≤ size && size ≤ 46 && ty = 3
   | 1, 2 => 12 ≤ size && size ≤ 46 && ty = 3
   | _, _ => false)

/-- (class, BAR) of each BAR record of an Aperture part. -/
def barKeys (r : List Byte) : List (Nat × Nat) :=
  (List.range (un r 5 1)).map (fun j => (un r (8 + 16 * j) 1, un r (8 + 16 * j + 1) 1))

/-- A function tree record (R491, R71): PF0 has BAR0 and BAR4, every VF BAR0. -/
def treeRec (p : Part) (r : List Byte) : Nat :=
  let n := un r 5 1
  let keys := barKeys r
  rng (p.apertures ≤ un r 2 1)
    (un r 2 1 ≤ 3 && un r 3 1 ≤ 1 && [1, 2, 4, 8, 16].contains (un r 4 1) && n ≤ 5 && r.length = 8 + 16 * n &&
      un r 6 2 ≤ 2047 && (List.range n).all (fun j => barRec r (8 + 16 * j)) && keys.Nodup &&
      (un r 3 1 = 0 || (keys.contains (0, 0) && keys.contains (0, 4) && (un r 6 2 = 0 || keys.contains (1, 0)))))

/-- A capability record (R491, R36): its place and alignment, and not over the Prasol locator (R69). -/
def capRec (r : List Byte) : Nat :=
  let ext := un r 4 1 = 1
  let o := un r 6 2
  let n := r.length - 8
  let loc := Config.locatorOffset
  rng false (8 ≤ r.length && un r 4 1 ≤ 1 && un r 5 1 ≤ 3 && o % 4 = 0 && n % 4 = 0 && 0 < n &&
    (if ext then 256 ≤ o && o + n ≤ 4096 else 64 ≤ o && o + n ≤ 256) && (o + n ≤ loc || loc + 32 ≤ o))

/-- Whether a domain may be never open (R404): a dome, a lane quad or the seeing monitor. -/
def mayNeverOpen (n : Nat) : Bool := n ≤ 49 || n = 91

/-- Whether a TIRQ_N route names a fused resource (R3, R313): the Aperture or the instance of DEST 1, the port of DEST 2. -/
def routeFused (p : Part) (w : Word) : Bool :=
  match wget w Fld.trnIrqRoute_DEST with
  | 1 => if wbit w 2 then p.apertures ≤ wget w Fld.trnIrqRoute_APERTURE else p.vis ≤ wget w Fld.trnIrqRoute_VI
  | 2 => p.merPorts ≤ wget w Fld.trnIrqRoute_PORT
  | _ => false

/-- A Transit record (R491). -/
def trnRec (p : Part) (r : List Byte) : Nat :=
  rng (un r 2 1 = 2 && routeFused p (wordOfBytes (r.drop 8))) (match un r 2 1 with
    | 0 => r.length = 8 && 66 ≤ un r 3 1 && un r 3 1 ≤ 200 && un r 4 1 ≤ 7 && zeros r 5 3
    | 1 => r.length = 8 && 1 ≤ un r 3 1 && un r 3 1 ≤ 7 && un r 4 1 ≤ 7 && un r 5 1 ≤ 1 && zeros r 6 2
    | 2 =>
      let w := wordOfBytes (r.drop 8)
      r.length = 24 && un r 3 1 ≤ 15 && zeros r 4 4 && wget w ⟨29, 3⟩ = 0 && wget w ⟨44, 4⟩ = 0 && wget w ⟨58, 6⟩ = 0 &&
        !(wbit w 48 && wget w ⟨49, 9⟩ = 0) && wget (wordOfBytes (r.drop 16)) ⟨52, 12⟩ = 0
    | 3 =>
      let w := wordOfBytes (r.drop 8)
      r.length = 16 && un r 3 1 ≤ 3 && zeros r 4 4 && wget w ⟨0, 2⟩ ≤ 1 && wget w ⟨2, 2⟩ = 0 && wget w ⟨16, 48⟩ = 0
    | _ => false)

/-- The Transit signal number of a ball that can be multiplexed (R473, R476): TREQ_N[7:4] at 89 to 92, TGNT_N[7:4] at 96
to 99, TIRQ_N[15:8] at 108 to 115, TINT_N at 116 to 119. -/
def ballSignal (i : Nat) : Option Nat :=
  let row := i / 52 + 1
  let col := i % 52 + 1
  if 9 ≤ row && row ≤ 38 && 49 ≤ col then
    let k := 4 * (row - 9) + (col - 49)
    if (89 ≤ k && k ≤ 92) || (96 ≤ k && k ≤ 99) || (108 ≤ k && k ≤ 119) then some k else none
  else none

/-- Ranges of the ladder levels that a record may set (R430, R431). -/
def ladderRange : Nat → Option (Nat × Nat)
  | 1 => some (5, 3200) | 2 => some (25, 12800) | 4 => some (50, 500000) | 5 => some (10, 1000)
  | 6 => some (250, 250000) | 7 => some (1000, 500000) | 8 => some (2500, 500000) | 9 => some (50000, 50000000)
  | 11 => some (50000, 2000000) | 13 => some (50000, 50000000) | 14 => some (5000000, 3000000000)
  | _ => none

/-- A region directory record by itself (R100, R101). -/
def regionRec (p : Part) (r : List Byte) : Nat :=
  let w := wordOfBytes r
  let kind := wget w ⟨0, 4⟩
  let idx := wget w ⟨4, 4⟩
  let port := wget w ⟨8, 2⟩
  let c := wget w ⟨10, 4⟩
  let fs := wget w ⟨14, 6⟩
  let first := wget w ⟨20, 16⟩
  let base := wget w ⟨36, 28⟩
  rng ((kind ≤ 4 || kind = 7) && p.apertures ≤ port || kind = 5 && p.merPorts ≤ port)
    (kind ≤ 7 && c ≤ 12 && 12 ≤ fs && fs ≤ 40 && (5 ≤ kind || idx = 0) && (kind ≠ 6 || port = 0) && (kind = 6 || base = 0) &&
      (!(kind = 3 || kind = 4) || first = 0) && (!(kind = 0) || (c = 0 && fs = 26)) &&
      (!(kind = 2 || kind = 3) || (c = 0 && fs = 16)) && (!(kind = 5 || kind = 7) || c + fs ≤ 48) &&
      (kind ≠ 6 || (c + fs ≤ 40 && base * 4096 % 2 ^ (c + fs) = 0)) &&
      (kind = 3 || kind = 4 || first + 2 ^ c ≤ 65536))

/-- Whether a schedule slot word names an instance that the part does not have (R3). -/
def slotFused (p : Part) (n : Nat) : Bool := n / 2 ^ 14 = 1 && p.vis ≤ n % 2 ^ 11

/-- Whether a catalogue entry image names a fused resource (R3): its owner, its Meridian port or its Aperture. -/
def entryFused (p : Part) (w : Word) : Bool :=
  let port := wget w ⟨5, 2⟩
  (!wbit w 19 && p.vis ≤ wget w ⟨20, 11⟩) || (wget w ⟨1, 4⟩ = 0 && p.merPorts ≤ port) ||
    ((wget w ⟨1, 4⟩ = 4 || wget w ⟨1, 4⟩ = 8) && p.apertures ≤ port)

/-- A schedule slot word (R196, R491). -/
def slotOk (n : Nat) : Bool :=
  let kind := n / 2 ^ 14
  kind ≤ 2 && n / 2 ^ 11 % 8 = 0 && (kind = 1 || n % 2 ^ 11 = 0)

/-- Whether a LOG_Q_GEOM image is within its ranges (R264). -/
def geomOk (w : Word) : Bool :=
  let cap := wget w ⟨0, 5⟩
  let u := wget w ⟨16, 26⟩
  7 ≤ cap && cap ≤ 27 && wget w ⟨5, 3⟩ = 0 && wget w ⟨8, 8⟩ ≤ 200 && (u = 0 || (50 ≤ u && u ≤ 50000000)) &&
    wget w ⟨42, 2⟩ ≤ 2 && wget w ⟨44, 20⟩ = 0

/-- The code of a record by itself: 0 when it may stand (R491). -/
def recordCheck (p : Part) (t : Nat) (r : List Byte) : Nat :=
  match t with
  | 0x0001 => laneRec p r
  | 0x0002 => treeRec p r
  | 0x0003 => capRec r
  | 0x0004 => rng false (zeros r 14 18)
  | 0x0005 =>
    let n := un r 0 1
    let pol := un r 1 1
    rng (p.domFused n) (n ≤ 95 && pol ≤ 3 && (pol ≠ 1 || n ≤ 31) && (pol ≠ 3 || mayNeverOpen n))
  | 0x0006 =>
    rng (p.merPorts ≤ un r 0 1) (un r 0 1 ≤ 3 && un r 1 1 ≤ 1 && [8, 16].contains (un r 2 1) && un r 3 1 ≤ 3 &&
      7 ≤ un r 4 1 && un r 4 1 ≤ 12 && 1 ≤ un r 5 1 && un r 5 1 ≤ 7 && zeros r 6 10)
  | 0x0007 => trnRec p r
  | 0x0008 =>
    rng (p.ifvLanes = 0 && un r 0 1 = 1) (un r 0 1 ≤ 1 && un r 1 1 ≤ 2 && un r 2 2 = p.code && un r 4 2 ≤ un r 6 2 && un r 6 2 < p.vis && zeros r 8 24)
  | 0x0009 => rng false ((ballSignal (un r 0 2)).isSome && un r 2 1 ≤ 3 && un r 3 1 = 0)
  | 0x000A =>
    rng false (un r 2 2 = 0 && (match ladderRange (un r 0 2) with | some (lo, hi) => lo ≤ un r 4 4 && un r 4 4 ≤ hi | none => false))
  | 0x000B => regionRec p r
  | 0x0101 => rng (entryFused p (wordOfBytes (r.drop 4))) (un r 0 4 ≤ 65535)
  | 0x0102 =>
    rng (p.apertures ≤ un r 0 1) (un r 0 1 ≤ 3 && zeros r 1 3 && un r 4 2 ≤ 2048 && un r 6 2 ≤ 8192 && un r 8 4 ≤ 65536 &&
      un r 12 2 ≤ 4096 && un r 14 2 ≤ 16384 && un r 16 2 ≤ 32768 && un r 18 2 ≤ 8192 && zeros r 20 12)
  | 0x0103 =>
    rng (p.apertures ≤ un r 0 1 || (List.range 1024).any (fun i => slotFused p (un r (8 + 2 * i) 2)))
      (un r 0 1 ≤ 3 && un r 1 1 ≤ 1 && zeros r 2 6 &&
      (List.range 1024).all (fun i => slotOk (un r (8 + 2 * i) 2)))
  | 0x0104 =>
    rng (p.vis ≤ un r 0 2) (un r 0 2 ≤ 2047 && 1 ≤ un r 2 1 && un r 3 1 ≤ 7 && un r 4 4 ≤ 512000 && 4096 ≤ un r 8 4 &&
      un r 8 4 ≤ 16777216 && un r 8 4 % 1024 = 0 && zeros r 12 4)
  | 0x0105 => rng false (un r 0 2 ≤ 4095 && zeros r 2 6 && geomOk (wordOfBytes (r.drop 8)))
  | 0x0106 => rng (p.domes ≤ un r 0 1) (un r 0 1 ≤ 31 && un r 1 1 ≤ 7 && 1 ≤ un r 2 1 && zeros r 3 5)
  | _ => 0

/-- The item that a record describes, where a section holds at most one record for each (R491, R431). -/
def recordKey (t : Nat) (r : List Byte) : Option Nat :=
  match t with
  | 0x0002 => some (un r 2 1)
  | 0x0005 | 0x0006 | 0x0102 | 0x0106 => some (un r 0 1)
  | 0x0103 | 0x000A | 0x0104 => some (un r 0 2)
  | 0x000B => some (un r 0 2 % 1024)
  | 0x0007 => if un r 2 1 = 0 then some 0 else if un r 2 1 = 2 then none else some (256 * un r 2 1 + un r 3 1)
  | _ => none

/-- The item that a live record describes (R491): records of the same item replace each other. -/
def liveKey (t : Nat) (r : List Byte) : Option Nat :=
  match t with
  | 0x0101 => some (un r 0 4)
  | 0x0105 => some (un r 0 2)
  | _ => recordKey t r

/-- Check the records of a section, after the keys already seen. -/
def recordsCheck (p : Part) (t : Nat) : Nat → List Nat → List (List Byte) → Option ImgRefusal
  | _, _, [] => none
  | i, seen, r :: l =>
    let c := recordCheck p t r
    if c ≠ 0 then some ⟨c, t, i⟩
    else match recordKey t r with
      | some k => if seen.contains k then some ⟨0x0B, t, i⟩ else recordsCheck p t (i + 1) (k :: seen) l
      | none => recordsCheck p t (i + 1) seen l

/-- The content check of one section: its type, its class, its prologue, its records (R30, R41). -/
def sectionCheck (p : Part) (patch : Bool) (s : Section) : Option ImgRefusal :=
  if typeClass s.type = 2 then (if s.optional then none else some ⟨0x17, s.type, recordOf 0x17⟩)
  else if patch && s.cls = 0 then some ⟨0x0E, s.type, recordOf 0x0E⟩
  else match bodyRecords s.type s.body with
    | none => some ⟨0x0B, s.type, noRecord⟩
    | some rs => recordsCheck p s.type 0 [] rs

/-! Checks across records. -/

/-- The first record of a section that `p` selects, with its index. -/
def Image.find (g : Image) (t : Nat) (p : List Byte → Bool) : Option (Nat × List Byte) :=
  ((g.records t).zipIdx.find? (fun x => p x.1)).map (fun x => (x.2, x.1))

/-- The index of the first record that shares something with an earlier one. -/
def clashAt (f : List Byte → List Byte → Bool) : Nat → List (List Byte) → List (List Byte) → Option Nat
  | _, _, [] => none
  | i, seen, r :: l => if seen.any (fun s => f s r) then some i else clashAt f (i + 1) (r :: seen) l

/-- A check over the records of a section, by its first bad record. -/
def badRecord (g : Image) (t code : Nat) (p : List Byte → Bool) : Option ImgRefusal :=
  (g.find t p).map (fun x => ⟨code, t, x.1⟩)

/-- The first check that refuses. -/
def orElse : List (Option ImgRefusal) → Option ImgRefusal
  | [] => none
  | some r :: _ => some r
  | none :: l => orElse l

/-- A value of the ladder that an image gives, or its default (R430). -/
def Image.ladder (g : Image) (k : Nat) : Nat :=
  match g.find 0x000A (fun r => un r 0 2 = k) with
  | some (_, r) => un r 4 4
  | none => ([0, 50, 200, 500, 5000, 100, 2500, 10000, 500000, 1000000, 550000, 2000000, 5000000, 3000000,
      100000000] : List Nat).getD k 0

/-- The nesting rules in table order: outer level, what it must exceed (R432). -/
def Image.nesting (g : Image) : List (Nat × Nat) :=
  let v := g.ladder
  [(2, v 1), (4, 2 * v 5), (6, 2 * v 5), (7, v 3 + 2 * v 5), (8, v 4), (8, 16 * v 2), (8, v 3), (9, v 8), (9, v 4),
   (9, 16 * v 2), (11, v 4 + 5000), (11, 16 * v 2 + 5000), (13, v 7)]

/-- The first broken nesting rule (R432). -/
def Image.nestCheck (g : Image) : Option ImgRefusal :=
  (g.nesting.find? (fun r => g.ladder r.1 ≤ r.2)).map (fun r =>
    ⟨0x0D, 0x000A, match g.find 0x000A (fun x => un x 0 2 = r.1) with | some (i, _) => i | none => noRecord⟩)

/-- The lane map record of a face and port. -/
def Image.lane (g : Image) (face port : Nat) : Option (List Byte) :=
  (g.find 0x0001 (fun r => un r 0 1 = face && un r 3 1 = port)).map (·.2)

/-- Width that the lane map gives a port; 0 without a record. -/
def Image.laneWidth (g : Image) (face port : Nat) : Nat := match g.lane face port with | some r => un r 2 1 | none => 0

/-- The function tree part of an Aperture. -/
def Image.fnPart (g : Image) (a : Nat) : Option (List Byte) := (g.find 0x0002 (fun r => un r 2 1 = a)).map (·.2)

/-- Whether the function tree enables an Aperture. -/
def Image.apEnabled (g : Image) (a : Nat) : Bool := match g.fnPart a with | some r => un r 3 1 = 1 | none => false

/-- The offset of the BAR record of class `cls` and index `bar` in a part. -/
def barAt (r : List Byte) (cls bar : Nat) : Option Nat :=
  ((List.range (un r 5 1)).find? (fun j => un r (8 + 16 * j) 1 = cls && un r (8 + 16 * j + 1) 1 = bar)).map (fun j => 8 + 16 * j)

/-- Initial size, as log2, of a BAR of an Aperture; 0 without one. -/
def Image.barLog2 (g : Image) (a cls bar : Nat) : Nat :=
  match g.fnPart a with
  | some r => (match barAt r cls bar with | some o => un r (o + 2) 1 | none => 0)
  | none => 0

/-- Resizable-size mask of a BAR, shifted so that bit k stands for size 2^k. -/
def Image.barMask (g : Image) (a cls bar : Nat) : Nat :=
  match g.fnPart a with
  | some r => (match barAt r cls bar with | some o => un r (o + 4) 8 * 4096 | none => 0)
  | none => 0

/-- The region slot of a directory record (R127). -/
def regionSlot (w : Word) : Nat :=
  let port := wget w ⟨8, 2⟩
  let idx := wget w ⟨4, 4⟩
  match wget w ⟨0, 4⟩ with
  | 0 => 3 * port | 1 => 3 * port + 1 | 2 => 3 * port + 2 | 3 => 12 + 2 * port | 4 => 13 + 2 * port
  | 5 => 32 + 16 * port + idx | 6 => 96 + idx | _ => 112 + idx

/-- The catalogue range of a directory record; empty for kinds 3 and 4. -/
def regionRange (r : List Byte) : Nat × Nat :=
  let w := wordOfBytes r
  if wget w ⟨0, 4⟩ = 3 || wget w ⟨0, 4⟩ = 4 then (0, 0) else (wget w ⟨20, 16⟩, wget w ⟨20, 16⟩ + 2 ^ wget w ⟨10, 4⟩)

/-- The addresses of a Transit region; empty for other kinds. -/
def transitRange (r : List Byte) : Nat × Nat :=
  let w := wordOfBytes r
  if wget w ⟨0, 4⟩ ≠ 6 then (0, 0)
  else (4096 * wget w ⟨36, 28⟩, 4096 * wget w ⟨36, 28⟩ + 2 ^ (wget w ⟨10, 4⟩ + wget w ⟨14, 6⟩))

/-- Whether two ranges overlap. -/
def rangesMeet (x y : Nat × Nat) : Bool := x.1 < y.2 && y.1 < x.2

/-- log2 of the span that a directory record covers. -/
def regionSpan (r : List Byte) : Nat := wget (wordOfBytes r) ⟨10, 4⟩ + wget (wordOfBytes r) ⟨14, 6⟩

/-- The BAR size rule of R101 for kinds 0 to 4. -/
def Image.regionFits (g : Image) (r : List Byte) : Bool :=
  let w := wordOfBytes r
  let a := wget w ⟨8, 2⟩
  match wget w ⟨0, 4⟩ with
  | 0 => regionSpan r = g.barLog2 a 0 0 | 1 => regionSpan r = g.barLog2 a 0 2 | 2 => regionSpan r = g.barLog2 a 0 4
  | 3 => regionSpan r = g.barLog2 a 1 0 | 4 => regionSpan r = g.barLog2 a 1 2
  | _ => true

/-- PF0's MSI-X table size from the capability chain (R76). -/
def Image.pfVectors (g : Image) : Nat :=
  match g.find 0x0003 (fun r => un r 2 2 = 0x11 && un r 4 1 = 0 && un r 5 1 % 2 = 1) with
  | some (_, r) => un r 10 2 % 2048 + 1
  | none => 0

/-- Whether a capability's Next field leads to another record of its kind, to the locator, or ends the chain (R36). -/
def Image.capLinked (g : Image) (r : List Byte) : Bool :=
  let ext := un r 4 1 = 1
  let next := if ext then un r 8 4 / 2 ^ 20 else un r 9 1
  next = 0 || (ext && next = Config.locatorOffset) ||
    (g.records 0x0003).any (fun s => un s 4 1 = un r 4 1 && un s 6 2 = next)

/-- Domain of the lane quad of lane `n` of a face (R403). -/
def quadDomain (face n : Nat) : Nat := 32 + 8 * face + n / 4

/-- Whether the shutter policy never opens a domain. -/
def Image.neverOpen (g : Image) (n : Nat) : Bool := (g.find 0x0005 (fun r => un r 0 1 = n && un r 1 1 = 3)).isSome

/-- Pair enable (R372). -/
def Image.pairOn (g : Image) : Bool := (g.records 0x0008).any (fun r => un r 0 1 = 1)

/-- The ball rules of R477. -/
def Image.pinCheck (g : Image) : Option ImgRefusal :=
  let t := 0x0009
  let sig := fun r => (ballSignal (un r 0 2)).getD 0
  let fn := fun r => un r 2 1
  let routed := fun line => (g.records 0x0007).any (fun r => un r 2 1 = 2 && un r 3 1 = line && un r 8 1 % 4 ≠ 0)
  let assigned := fun slot => (g.records 0x0007).any (fun r => un r 2 1 = 1 && un r 3 1 = slot && un r 5 1 = 1)
  orElse [
    (clashAt (fun x y => un x 0 2 = un y 0 2) 0 [] (g.records t)).map (fun i => ⟨0x0C, t, i⟩),
    (clashAt (fun x y => fn x = fn y && 2 ≤ fn x) 0 [] (g.records t)).map (fun i => ⟨0x0C, t, i⟩),
    badRecord g t 0x0C (fun r => 108 ≤ sig r && sig r ≤ 115 && fn r ≠ 0 && routed (sig r - 100)),
    badRecord g t 0x0C (fun r => fn r ≠ 0 && ((sig r ≤ 92 && assigned (sig r - 85)) ||
      (96 ≤ sig r && sig r ≤ 99 && assigned (sig r - 92)))),
    badRecord g t 0x0C (fun r => g.pairOn && 2 ≤ fn r)]

/-- Sum over the records of a section. -/
def Image.total (g : Image) (t : Nat) (f : List Byte → Nat) : Nat := (g.records t).foldl (fun n r => n + f r) 0

/-- A pool size that a partition gives (R491), by the kind of R234; 0 without a record. -/
def Image.pool (g : Image) (a k : Nat) : Nat :=
  match g.find 0x0102 (fun r => un r 0 1 = a) with
  | none => 0
  | some (_, r) => match k with
    | 0 => un r 4 2 | 1 => un r 6 2 | 2 => un r 8 4 | 3 => un r 12 2 | 4 => un r 14 2 | 5 => un r 16 2 | _ => un r 18 2

/-- The limits on pools (R212). `fx` is the image whose fixed sections are in force. -/
def Image.poolCheck (g fx : Image) (p : Part) : Option ImgRefusal :=
  if !g.has 0x0102 then none else
  let sum := fun k => (List.range 4).foldl (fun n a => n + g.pool a k) 0
  let ranged := fx.total 0x000B (fun r => (regionRange r).2 - (regionRange r).1)
  let pfs := ((List.range 4).filter fx.apEnabled).length * fx.pfVectors
  let first := if fx.pairOn then 72 else 8
  if p.vis < sum 0 || 8192 < sum 1 || 4096 < sum 3 || p.sizeMib - first < sum 6 || 65536 - ranged < sum 2 ||
      32768 < sum 5 + pfs then some ⟨0x11, 0x0102, recordOf 0x11⟩
  else none

/-- The checks of a full image across its sections. -/
def Image.fullCheck (g : Image) (p : Part) : Option ImgRefusal :=
  let need := [0x0001, 0x0002, 0x0003, 0x0004, 0x0009, 0x000A, 0x000B]
  orElse [
    (need.find? (fun t => !g.has t)).map (fun t => ⟨0x19, t, recordOf 0x19⟩),
    if g.pairOn && !g.has 0x0007 then some ⟨0x19, 0x0007, recordOf 0x19⟩ else none,
    if (g.records 0x0004).length ≠ 1 then some ⟨0x0B, 0x0004, recordOf 0x0B⟩ else none,
    if g.has 0x0008 && (g.records 0x0008).length ≠ 1 then some ⟨0x0B, 0x0008, recordOf 0x0B⟩ else none,
    if g.has 0x0007 && (g.find 0x0007 (fun r => un r 2 1 = 0)).isNone then some ⟨0x0B, 0x0007, recordOf 0x0B⟩ else none,
    (clashAt (fun x y => un x 0 1 = un y 0 1 && rangesMeet (un x 1 1, un x 1 1 + un x 2 1) (un y 1 1, un y 1 1 + un y 2 1)) 0 []
      (g.records 0x0001)).map (fun i => ⟨0x0B, 0x0001, i⟩),
    badRecord g 0x0001 0x0B (fun r => (List.range (un r 2 1)).any (fun k => g.neverOpen (quadDomain (un r 0 1) (un r 1 1 + k)))),
    badRecord g 0x0002 0x0B (fun r => un r 4 1 ≠ g.laneWidth 0 (un r 2 1)),
    badRecord g 0x0003 0x0B (fun r => !g.capLinked r),
    if p.seeing && g.neverOpen 91 then badRecord g 0x0005 0x0B (fun r => un r 0 1 = 91) else none,
    badRecord g 0x0006 0x0B (fun r => un r 2 1 ≠ g.laneWidth 1 (un r 0 1)),
    badRecord g 0x0007 0x0B (fun r => g.pairOn && un r 2 1 = 1 && un r 3 1 = 1 && un r 5 1 = 1),
    (clashAt (fun x y => un x 2 1 = 2 && un y 2 1 = 2 && un x 3 1 = un y 3 1) 0 [] (g.records 0x0007)).map
      (fun i => ⟨0x18, 0x0007, i⟩),
    g.pinCheck,
    g.nestCheck,
    badRecord g 0x000B 0x0B (fun r => !g.regionFits r),
    (clashAt (fun x y => rangesMeet (regionRange x) (regionRange y) || rangesMeet (transitRange x) (transitRange y)) 0 []
      (g.records 0x000B)).map (fun i => ⟨0x0B, 0x000B, i⟩),
    g.poolCheck g p]

/-- The stages up to the signature (R34). -/
def earlyCheck (p : Part) (fuse : Bool) (l : List Byte) : Option ImgRefusal :=
  match headerCheck p l with
  | some r => some r
  | none => match directoryCheck l with
    | some r => some r
    | none => match crcCheck l with
      | some r => some r
      | none => signatureCheck fuse l

/-- The content stage section by section, in directory order. -/
def sectionsCheck (p : Part) (patch : Bool) (g : Image) : Option ImgRefusal := orElse (g.sections.map (sectionCheck p patch))

/-! The balls of R476. -/

/-- The function of a ball that can be multiplexed, by its Transit signal number: 0 primary, 1 parked, 2 TICK_OUT, 3 DIM_OUT; 0
without a record (R476). -/
def Bridge.ballFn (b : Bridge) (sig : Nat) : Nat :=
  match b.alm.inForce with
  | some g => match g.find 0x0009 (fun r => decide (ballSignal (un r 0 2) = some sig)) with | some (_, r) => un r 2 1 | none => 0
  | none => 0

/-- The level that TICK_OUT or DIM_OUT drives on a ball; none on a ball with another function (R476). TICK_OUT toggles every
25 ticks. -/
def Bridge.ballOut (b : Bridge) (sig : Nat) : Option Bool :=
  match b.ballFn sig with
  | 2 => if 2 ≤ b.mode then some (decide (b.tick / 25 % 2 = 1)) else none
  | 3 => some (decide (b.mode = 9))
  | _ => none

end Sys2Proof.Machine
end

