-- ==== Sys2Proof/Machine/LogbookCore.lean ====
section
/-!
DEFINITION. Logbook queues (R237 to R266): framing, overwriting, reading, consumer commands, spill and refill, the fault
logbooks, and with them the one operation that writes a fault record (R436 to R439).
-/
namespace Sys2Proof.Machine

open Sys2Proof

/-- A queue that holds nothing. -/
def Queue.empty : Queue :=
  { packets := [], opn := none, mark := none, markLost := false, writePos := 0, pages := 0, head := 0,
    busy := false, cmdStatus := 0, stalled := [], windowStart := 0, windowOpen := false, fired := false }

/-- Queue `q`. -/
def Bridge.queue (b : Bridge) (q : Nat) : Queue := alGet Queue.empty q b.eng.queues

/-- Write queue `q`. -/
def Bridge.putQueue (b : Bridge) (q : Nat) (x : Queue) : Bridge :=
  { b with eng := { b.eng with queues := alPut q x b.eng.queues } }

/-- Words of a packet not yet read. -/
def Pkt.unread (p : Pkt) : Nat := p.words.length - p.read

/-- Closed packets with unread words (R265). -/
def Queue.unreadPkts (x : Queue) : Nat := (x.packets.filter (fun p => 0 < p.unread)).length

/-- Data words in unread closed packets (R266). -/
def Queue.unreadWords (x : Queue) : Nat := (x.packets.map Pkt.unread).foldl (· + ·) 0

/-- Slots of the open packet: its length slot and its words. -/
def Queue.openSlots (x : Queue) : Nat :=
  match x.opn with | some o => if o.dropping then 0 else o.words.length + 1 | none => 0

/-- Slots that are not free (R247). -/
def Queue.used (x : Queue) : Nat := (x.packets.map (fun p => p.words.length + 1)).foldl (· + ·) 0 + x.openSlots

/-- The shutter domains of a queue (R403). -/
def queueDoms (q : Nat) : List Nat := [76, 77 + q / 1024]

/-- Spill pages that `n` slots need: none up to the two windows of 64 words (R24, R256). -/
def pagesFor (n : Nat) : Nat := if n ≤ 128 then 0 else (n - 128 + 8191) / 8192

/-- LOG_MIB: the Apertures' spill pools and the director's pool (R469). -/
def Bridge.logMib (b : Bridge) : Nat :=
  (List.range 4).foldl (fun n a => n + b.get (.viPool a 6) Fld.viPool_SIZE) (b.get .logSpillCfg Fld.logSpillCfg_DIRECTOR_MIB)

/-- Spill pages held by the queues that `p` selects. -/
def Bridge.pagesHeld (b : Bridge) (p : Nat → Bool) : Nat :=
  (b.eng.queues.filter (fun x => p x.1)).foldl (fun n x => n + x.2.pages) 0

/-- Pages that queue `q` may still be given (R257). -/
def Bridge.pagesLeft (b : Bridge) (q : Nat) : Nat :=
  let area := 16 * b.logMib - b.pagesHeld (fun _ => true)
  let quota := match b.queueOwner q with
    | some v => 16 * b.get (.viRes v) Fld.viRes_SPILL_MIB - b.pagesHeld (fun k => b.queueOwner k = some v)
    | none => 16 * b.get .logSpillCfg Fld.logSpillCfg_DIRECTOR_MIB - b.pagesHeld (fun k => b.queueOwner k = none)
  min area quota

/-- Capacity in slots (R237). -/
def Bridge.capacity (b : Bridge) (q : Nat) : Nat := 2 ^ b.get (.logQGeom q) Fld.logQGeom_CAP_LOG2

/-- Slots in force: the capacity, or what the pages to be had allow (R257). -/
def Bridge.slotLimit (b : Bridge) (q : Nat) : Nat :=
  min (b.capacity q) (128 + 8192 * ((b.queue q).pages + b.pagesLeft q))

/-- The vector of a queue (R260). -/
def Bridge.queueVector (b : Bridge) (q : Nat) : Bridge :=
  let v := b.get (.logQIrq q) Fld.logQIrq_VECTOR
  match b.queueOwner q with
  | some i => b.raiseVector (b.viAp i) (b.viVf i) v
  | none => b.raiseVector (b.get (.logQIrq q) Fld.logQIrq_APERTURE) 0 v

/-- Count lost packets and words; both wrap (R247, R249, R260, R262). -/
def Bridge.countLost (b : Bridge) (q pkts words : Nat) : Bridge :=
  let b := (b.inc (.logQLost q) Fld.logQLost_PACKETS pkts).inc (.logQLost q) Fld.logQLost_WORDS words
  if pkts = 0 then b else
  let b := b.raise .log 1
  if b.get (.logQIrq q) Fld.logQIrq_ON_LOST = 1 then b.queueVector q else b

/-- Drop read packets that no valid mark retains (R252); recompute the pages held. The unread window is closed, and may fire
again, while nothing closed is unread (R259). -/
def Queue.prune (x : Queue) : Queue :=
  let dead := match x.mark with
    | some m => (x.packets.take m).takeWhile (fun (p : Pkt) => decide (p.unread = 0))
    | none => x.packets.takeWhile (fun (p : Pkt) => decide (p.unread = 0))
  let y := { x with packets := x.packets.drop dead.length, mark := x.mark.map (· - dead.length) }
  let pages := min x.pages (pagesFor y.used)
  let unread := decide (0 < y.unreadPkts)
  { y with
    pages := pages, tail := if pages = 0 then 0 else min x.tail y.used
    windowOpen := unread && x.windowOpen, fired := unread && x.fired }

/-- Slots that a queue holds before its packet `i`. -/
def Queue.before (x : Queue) (i : Nat) : Nat :=
  ((x.packets.take i).map (fun p => p.words.length + 1)).foldl (· + ·) 0

/-- Slots that the ranges [a, z) and [c, d) share. -/
def meetLen (a z c d : Nat) : Nat := min z d - max a c

/-- Take packet `i` out whole (R247, R253, R257): a mark at it is lost, and the windows give up its slots. -/
def Queue.without (x : Queue) (i : Nat) : Queue :=
  match x.packets[i]? with
  | none => x
  | some p =>
    let s := x.before i
    ({ x with
      packets := x.packets.eraseIdx i
      mark := if x.mark = some i then none else x.mark.map (fun m => if i < m then m - 1 else m)
      markLost := x.markLost || x.mark = some i
      head := x.head - p.unread
      tail := x.tail - meetLen s (s + p.words.length + 1) (x.used - x.tail) x.used } : Queue).prune

/-- Remove packet `i` and count what it held unread (R247, R257). -/
def Bridge.losePacket (b : Bridge) (q i : Nat) : Bridge :=
  let x := b.queue q
  match x.packets[i]? with
  | none => b
  | some p =>
    let b := b.putQueue q (x.without i)
    if 0 < p.unread then b.countLost q 1 p.unread else b

/-- Overwrite until `n` more slots fit, at most `fuel` packets; whether they fit. QUOTA_HIT is raised where the pages to be had
hold the queue below its capacity (R247, R257). -/
def Bridge.makeRoom (b : Bridge) (q n : Nat) : Nat → Bridge × Bool
  | 0 => (b, (b.queue q).used + n ≤ b.slotLimit q)
  | fuel + 1 =>
    if (b.queue q).used + n ≤ b.slotLimit q then (b, true)
    else
      let b1 := if b.slotLimit q < b.capacity q then b.raise .log 3 else b
      if (b.queue q).packets = [] then (b1, false) else Bridge.makeRoom (b1.losePacket q 0) q n fuel

/-- Slots that one spill request moves (log entry 34). -/
def spillSlots : Nat := 32

/-- A slot stream of status pairs (R250): data word and status word. -/
def Bridge.statusWord (b : Bridge) (q : Nat) (p : Pkt) : Word :=
  wmk [(⟨0, 1⟩, 1), (⟨1, 1⟩, bit (p.read = 0)), (⟨2, 1⟩, bit (p.read + 1 = p.words.length)), (⟨3, 1⟩, bit p.trunc),
    (⟨8, 16⟩, p.words.length), (⟨32, 32⟩, b.get (.logQLost q) Fld.logQLost_PACKETS)]

/-- The first closed packet with unread words, by index. -/
def Queue.front (x : Queue) : Option (Nat × Pkt) :=
  (x.packets.zipIdx.find? (fun p => 0 < p.1.unread)).map (fun p => (p.2, p.1))

/-- Position of the slot at which packet `i` begins (R247). -/
def Queue.slotPos (x : Queue) (i : Nat) : Nat :=
  (x.writePos + 2 ^ 28 - ((x.packets.drop i).map (fun p => p.words.length + 1)).foldl (· + ·) 0 % 2 ^ 28) % 2 ^ 28

/-- The read position: the slot of the next word to read. -/
def Queue.readPos (x : Queue) : Nat :=
  match x.front with | some (i, p) => (x.slotPos i + 1 + p.read) % 2 ^ 28 | none => x.writePos

/-- Slots from the read position on. -/
def Queue.ahead (x : Queue) : Nat := (x.writePos + 2 ^ 28 - x.readPos) % 2 ^ 28 + x.openSlots

/-- Whether a word can be given now: closed data, on die: everything while no pages are held, else what the head window holds
or what has never left the tail window (R256). -/
def Queue.ready (x : Queue) : Bool := x.front.isSome && (x.pages = 0 || 0 < x.head || x.ahead ≤ x.tail)

/-- Start the archive transfer that a queue's windows need, one at a time (R256): a refill while closed words wait in the
archive for a reader, else a spill of the oldest tail slots while the tail window is full. -/
def Bridge.moveQueue (b : Bridge) (q : Nat) : Bridge :=
  let x := b.queue q
  let refill := x.front.isSome && !x.ready
  if x.busy || x.pages = 0 || !(refill || 64 ≤ x.tail) then b
  else ((b.askArchive 3 1 q).2).putQueue q { x with busy := true, moving := if refill then 0 else spillSlots }

/-- `n` slots have been written: past the two windows they take pages, the oldest 64 from the read position on being the head
window, and fill the tail window (R256, R257). -/
def Bridge.grown (b : Bridge) (q n : Nat) : Bridge :=
  let x := b.queue q
  let need := pagesFor x.used
  let first := x.pages = 0 && 0 < need
  (b.putQueue q { x with
    pages := max x.pages need
    tail := if first then x.used - 64 else if x.pages = 0 then 0 else x.tail + n
    head := if first then 64 else x.head }).moveQueue q

/-- Whether the tail window is full and its spill waits for the archive (R257). -/
def Queue.tailFull (x : Queue) : Bool := x.busy && 0 < x.moving && 64 ≤ x.tail

/-- Whether a producer write to a queue waits: for a spill, or behind an earlier write that does (R257). -/
def Queue.tailHeld (x : Queue) : Bool := x.blocked ≠ [] || x.tailFull

/-- Whether the unread window of a queue has ended with closed data unread (R259). -/
def Bridge.unreadDue (b : Bridge) (q : Nat) : Bool :=
  let x := b.queue q
  let u := b.get (.logQGeom q) Fld.logQGeom_UNREAD
  0 < u && x.windowOpen && !x.fired && x.windowStart + u ≤ b.tick

/-- The unread timeout fires, once (R259). -/
def Bridge.unreadFire (b : Bridge) (q : Nat) : Bridge :=
  if !b.unreadDue q then b else
  let b := (b.putQueue q { b.queue q with fired := true }).raise .log 0
  if b.get (.logQIrq q) Fld.logQIrq_ON_UNREAD = 1 then b.queueVector q else b

/-- Words of a mirror packet: header and payload (R381). -/
def mirrorPacket (kind seq : Nat) (ws : List Word) : List Word :=
  wmk [(⟨0, 4⟩, kind), (⟨4, 12⟩, ws.length + 1), (⟨16, 32⟩, seq)] :: ws

/-- Send a mirror packet: it goes out on the Ifevin link's posted or completion channel (R381). -/
def Bridge.sendMirror (b : Bridge) (ws : List Word) : Bridge :=
  { b.emit (.mirror ws) with eng := { b.eng with pair := { b.eng.pair with tx := b.eng.pair.tx ++ [ws] } } }

/-- LOGPTR words of a queue (R381). -/
def logPtrWords (p : LogPtr) : List Word :=
  [wmk [(⟨0, 12⟩, p.queue)], wmk [(⟨0, 28⟩, p.readPos)], wmk [(⟨0, 32⟩, p.lostPackets), (⟨32, 32⟩, p.lostWords)]]

/-- The LOGPTR of a queue (R261, R381): its read position, and its lost counters advanced by what an adoption would lose: an
open packet, and for a POINTERS queue every unread word (log entry 104). -/
def Bridge.logPtr (b : Bridge) (q : Nat) : LogPtr :=
  let x := b.queue q
  let ptrs := b.get (.logQGeom q) Fld.logQGeom_MIRROR = 1
  let (n, held) := match x.opn with
    | some o => if o.dropping then (0, 0) else (1, o.words.length + o.swallowed)
    | none => (0, 0)
  { queue := q, readPos := x.readPos
    lostPackets := (b.get (.logQLost q) Fld.logQLost_PACKETS + n + (if ptrs then x.unreadPkts else 0)) % 2 ^ 32
    lostWords := (b.get (.logQLost q) Fld.logQLost_WORDS + held + (if ptrs then x.unreadWords else 0)) % 2 ^ 32 }

/-- Whether write-through changes wait for the partner and the mirror engine sends (R25, R377): in Paired mode, and in Service entered
from it, where R384 still applies (R402, log entry 131). -/
def Bridge.mirrors (b : Bridge) : Bool := b.mode = 6 || (b.mode = 10 && b.get .pwrMode Fld.pwrMode_RETURN = 6)

/-- In Paired mode, the position of a FULL queue goes to the partner at each consumer advance (R261, R377, R381). -/
def Bridge.mirrorPtr (b : Bridge) (q : Nat) : Bridge :=
  if b.mirrors && b.get (.logQGeom q) Fld.logQGeom_MIRROR = 2 then
    b.sendMirror (mirrorPacket 6 0 (logPtrWords (b.logPtr q)))
  else b

/-- Take at most `n` pairs, in queue order (R250). -/
def Bridge.takePairs (b : Bridge) (q : Nat) : Nat → Bridge × List Word
  | 0 => (b, [])
  | n + 1 =>
    let x := b.queue q
    match x.front with
    | none => (b, [])
    | some (i, p) =>
      if !x.ready then (b, []) else
      let y := { x with
        packets := x.packets.set i { p with read := p.read + 1 }
        head := x.head - 1 }
      let (b1, l) := Bridge.takePairs (b.putQueue q y) q n
      (b1, p.words.getD p.read 0 :: b.statusWord q p :: l)

/-- After a read: free what is read, refill an empty head window, and open a new unread window where closed data is left
(R256, R259). -/
def Bridge.afterRead (b : Bridge) (q : Nat) : Bridge :=
  let x := (b.queue q).prune
  (b.putQueue q { x with windowOpen := decide (0 < x.unreadPkts), windowStart := b.tick }).moveQueue q

/-- `n` pairs padded with invalid ones; PENDING when closed words wait in the archive (R250). -/
def Bridge.padPairs (b : Bridge) (q n : Nat) (l : List Word) : List Word :=
  let x := b.queue q
  let st := wmk [(⟨4, 1⟩, bit (x.front.isSome && !x.ready)), (⟨32, 32⟩, b.get (.logQLost q) Fld.logQLost_PACKETS)]
  l ++ (List.replicate (n - l.length / 2) [(0 : Word), st]).flatten

/-- Report the end of a request. -/
def Bridge.finish (b : Bridge) (j : Job) (r : Res) : Bridge := { b with eng := { b.eng with done := b.eng.done ++ [(j, r)] } }

/-- Give data to whoever made a port read. -/
def Bridge.answerPort (b : Bridge) (x : Stalled) (ws : List Word) : Bridge :=
  match x.job with
  | some j => b.finish j (.ok (bytesOfWords ws) false)
  | none =>
    match x.src with
    | .vf ap _ | .hostFn ap _ => b.emit (.hostCpl ap x.tag .sc (bytesOfWords ws) false)
    | .meridian p _ => b.emit (.mer p { type := 9, tag := x.tag, len := 8 * ws.length - 1, data := bytesOfWords ws })
    | s => b.emit (.portData s x.tag (bytesOfWords ws))

/-- Serve one CONSUME read with what is there (R250). One stamped at the end of the unread window or later comes too late for
it (R259). -/
def Bridge.serveConsume (b : Bridge) (q : Nat) (x : Stalled) : Bridge :=
  let (b, l) := (b.unreadFire q).takePairs q x.pairs
  let ws := b.padPairs q x.pairs l
  ((b.afterRead q).mirrorPtr q).answerPort x ws

/-- Serve stalled CONSUME reads in arrival order while data is there (R250). -/
def Bridge.serveStalled (b : Bridge) (q : Nat) : Nat → Bridge
  | 0 => b
  | fuel + 1 =>
    match (b.queue q).stalled with
    | [] => b
    | x :: rest =>
      if !(b.queue q).ready then b else
      Bridge.serveStalled ((b.putQueue q { b.queue q with stalled := rest }).serveConsume q x) q fuel

/-- A CONSUME read: served at once when data is there or the stall limit is 0; otherwise it waits (R250). -/
def Bridge.consumeRead (b : Bridge) (q : Nat) (x : Stalled) : Bridge :=
  let y := b.queue q
  if (y.ready && y.stalled = []) || b.get (.logQGeom q) Fld.logQGeom_STALL = 0 then b.serveConsume q x
  else b.putQueue q { y with stalled := y.stalled ++ [x] }

/-- Push a closed packet, of whose slots `n` are new: it becomes visible, opens the unread window, raises ON_CLOSE, serves
stalled reads (R245, R250, R259, R260). -/
def Bridge.pushPacket (b : Bridge) (q : Nat) (p : Pkt) (n : Nat) : Bridge :=
  let x := b.queue q
  let first := decide (x.unreadPkts = 0)
  let y := { x with
    packets := x.packets ++ [p]
    writePos := (x.writePos + p.words.length + 1) % 2 ^ 28
    windowOpen := true
    windowStart := if x.windowOpen then x.windowStart else b.tick }
  let b := (b.putQueue q y).grown q n
  let b := if b.mirrors && b.get (.logQGeom q) Fld.logQGeom_MIRROR = 2 then
    (b.sendMirror (mirrorPacket 5 0 (BitVec.ofNat 64 q :: p.words))).mirrorPtr q else b
  let b := if first && b.get (.logQIrq q) Fld.logQIrq_ON_CLOSE = 1 then b.queueVector q else b
  b.serveStalled q (y.stalled.length + 1)

/-- Close the open packet truncated and start dropping (R246, R248). -/
def Bridge.truncate (b : Bridge) (q : Nat) (o : OpenPkt) : Bridge :=
  let b := b.putQueue q { b.queue q with opn := some { o with words := [], dropping := true } }
  let b := (b.bump (.logQStat q) Fld.logQStat_TRUNCATED).raise .log 2
  (b.inc (.logQLost q) Fld.logQLost_WORDS).pushPacket q ⟨o.words, 0, true⟩ 0

/-- Append one word (R243, R246, R248, R254). -/
def Bridge.appendWord (b : Bridge) (q : Nat) (w : Word) : Bridge :=
  let o := (b.queue q).opn.getD ⟨[], false, false, 0⟩
  if o.dropping then b.inc (.logQLost q) Fld.logQLost_WORDS
  else if o.poisoned then b.putQueue q { b.queue q with opn := some { o with swallowed := o.swallowed + 1 } }
  else if o.words.length = 65535 then b.truncate q o
  else
    let n := if (b.queue q).opn.isSome then 1 else 2
    let (b, ok) := b.makeRoom q n ((b.queue q).packets.length + 1)
    if ok then (b.putQueue q { b.queue q with opn := some { o with words := o.words ++ [w] } }).grown q n
    else b.truncate q o

/-- Append words in address order (R243). -/
def Bridge.appendWords (b : Bridge) (q : Nat) (ws : List Word) : Bridge := ws.foldl (fun b w => b.appendWord q w) b

/-- Close the open packet; `none` when no packet is open (R242, R245, R246, R254). -/
def Bridge.closePacket (b : Bridge) (q : Nat) : Option Bridge :=
  match (b.queue q).opn with
  | none => none
  | some o =>
    let b := b.putQueue q { b.queue q with opn := none }
    some (if o.dropping then b
      else if o.poisoned then b.countLost q 1 o.swallowed
      else b.pushPacket q ⟨o.words, 0, false⟩ 0)

/-- Store one closed packet; `none` while a packet is open or words are being dropped (R242, R244, R246). -/
def Bridge.packetWrite (b : Bridge) (q : Nat) (ws : List Word) : Option Bridge :=
  if (b.queue q).opn.isSome then none else
  let (b, ok) := b.makeRoom q (ws.length + 1) ((b.queue q).packets.length + 1)
  some (if ok then b.pushPacket q ⟨ws, 0, false⟩ (ws.length + 1) else b.countLost q 1 ws.length)

/-- Whether the queue serves an Aperture as its fault logbook (R258). -/
def Bridge.isFaultLq (b : Bridge) (q : Nat) : Bool :=
  (List.range 4).any (fun a => b.get (.logFaultLq a) Fld.logFaultLq_EN = 1 && b.get (.logFaultLq a) Fld.logFaultLq_QUEUE = q)

/-- Count a refused port access (R242). -/
def Bridge.portRefused (b : Bridge) (q : Nat) : Bridge := (b.bump (.logQStat q) Fld.logQStat_REFUSED).raise .log 5

/-- Discard every closed packet and the mark; poison an open packet (R254). -/
def Bridge.flushQueue (b : Bridge) (q : Nat) : Bridge :=
  let x := b.queue q
  b.putQueue q { x with
    packets := []
    opn := x.opn.map (fun o => if o.dropping then o else
      { words := [], dropping := false, poisoned := true, swallowed := o.swallowed + o.words.length })
    mark := none
    pages := 0
    head := 0
    tail := 0
    windowOpen := false
    fired := false }

/-- A PACKET that the bridge itself writes to a queue, for `src`; `refuse` says what a refusal means to it. It waits where a producer's
would, for the queue's domains and for a spill (R26, R257, R258). -/
def Bridge.bridgePacket (b : Bridge) (q : Nat) (ws : List Word) (src : PortSrc := .bridge) (refuse : Bridge → Bridge := id) : Bridge :=
  if b.domsOpen (queueDoms q) && !(b.queue q).tailHeld then (b.packetWrite q ws).getD (refuse (b.portRefused q))
  else
    let w : PortWait :=
      { who := ⟨6, 0, 4096 * q, true⟩, off := 0x100, data := (bytesOfWords ws).map some, job := none, src := src }
    (b.needDoms (queueDoms q)).putQueue q { b.queue q with blocked := (b.queue q).blocked ++ [w] }

/-- Write a fault record to the kept ring, FLT_LAST and the fault logbooks it goes to (R436 to R439, R258). -/
def Bridge.record (b : Bridge) (code : Nat) (k : Blk) (vi ap : Option Nat) (a d : Word) : Bridge :=
  let ws := b.faultWords code k vi ap a d
  let kp := b.kept
  let kp := { kp with
    ring := alPut kp.nextSlot ws kp.ring
    nextSlot := if kp.nextSlot = 2047 then 1 else kp.nextSlot + 1
    nextRec := (kp.nextRec + 1) % 2 ^ 32 }
  let b := ({ b with kept := kp }).life 6
  let b : Bridge := (List.range 4).foldl (fun (b : Bridge) w => b.put (.fltLast w) (ws.getD w 0)) b
  let b := b.raise .flt 0
  if b.mode = 11 then b else
  let aps := match ap with
    | some x => [x, 0]
    | none => (List.range 4).filter (fun x => b.apTrained x)
  let qs := ((aps.filter (fun x => b.get (.logFaultLq x) Fld.logFaultLq_EN = 1)).map
    (fun x => b.get (.logFaultLq x) Fld.logFaultLq_QUEUE)).eraseDups
  qs.foldl (fun b q => b.bridgePacket q ws) b

/-- The read position has moved back: `ps` are the packets as they are now. The head window starts again from it, and the unread
window opens when it was closed (R253, R256, R259). -/
def Bridge.rewound (b : Bridge) (q : Nat) (ps : List Pkt) : Bridge :=
  let x := b.queue q
  let y := { x with packets := ps, head := 0 }
  b.putQueue q { y with
    windowOpen := decide (0 < y.unreadPkts), windowStart := if x.windowOpen then x.windowStart else b.tick }

/-- Apply a consumer command (R251 to R254): 1 DROP_REST, 2 SET_MARK, 3 CLEAR_MARK, 4 REWIND, 5 FLUSH. -/
def Bridge.consumerCmd (b : Bridge) (q cmd : Nat) : Bridge :=
  let x := b.queue q
  let pos := match x.front with | some (i, _) => i | none => x.packets.length
  let (b, code) : Bridge × Nat :=
    match cmd with
    | 1 => match x.front with
      | some (i, p) =>
        if p.read = 0 then (b, 1)
        else ((b.unreadFire q).putQueue q ({ (b.unreadFire q).queue q with
            packets := x.packets.set i { p with read := p.words.length }
            head := x.head - p.unread } : Queue).prune, 0)
      | none => (b, 1)
    | 2 => (b.putQueue q ({ x with mark := some pos, markLost := false }).prune, 0)
    | 3 =>
      (b.putQueue q ({ x with mark := none, markLost := false }).prune, if x.mark.isSome then 0 else 2)
    | 4 => match x.mark with
      | some m =>
        let ps := x.packets.zipIdx.map (fun p => if m ≤ p.2 then { p.1 with read := 0 } else p.1)
        (b.rewound q ps, 0)
      | none =>
        if x.markLost then
          ((b.putQueue q { x with markLost := false }).rewound q (x.packets.map (fun p => { p with read := 0 })), 3)
        else (b, 2)
    | _ => (b.flushQueue q, 0)
  let y := b.queue q
  let seq := wget y.cmdStatus Fld.logPortCmdStatus_SEQ + 1
  let b := b.putQueue q { y with cmdStatus := wmk [(Fld.logPortCmdStatus_CMD, cmd), (Fld.logPortCmdStatus_CODE, code),
    (Fld.logPortCmdStatus_SEQ, seq)] }
  ((b.mirrorPtr q).moveQueue q).serveStalled q (y.stalled.length + 1)

/-- The slots that a queue's archive request holds: the oldest of the tail window, or the next 64 for the head window. -/
def Queue.heldSlots (x : Queue) : Nat × Nat :=
  let t := x.used - x.tail
  if 0 < x.moving then (t, min x.used (t + x.moving)) else (x.used - x.ahead, min t (x.used - x.ahead + 64))

/-- Remove, youngest first, each packet of which a failed request held a word; packets and words lost. -/
def Bridge.loseHeld (b : Bridge) (q a z : Nat) : Nat → Bridge × Nat × Nat
  | 0 => (b, 0, 0)
  | i + 1 =>
    let x := b.queue q
    match x.packets[i]? with
    | none => Bridge.loseHeld b q a z i
    | some p =>
      if meetLen (x.before i) (x.before i + p.words.length + 1) a z = 0 then Bridge.loseHeld b q a z i else
      let r := Bridge.loseHeld (b.losePacket q i) q a z i
      (r.1, r.2.1 + bit (0 < p.unread), r.2.2 + p.unread)

/-- A spill or refill fails (R257): the packets whose words its request held are removed and counted, an open packet among them
is poisoned as a flush poisons it (log entry 105), and the failure is reported. -/
def Bridge.spillFail (b : Bridge) (q : Nat) : Bridge :=
  let x := b.queue q
  let (a, z) := x.heldSlots
  let opn := x.opn.map (fun o =>
    if 0 < meetLen (x.used - x.openSlots) x.used a z then
      { words := [], dropping := false, poisoned := true, swallowed := o.swallowed + o.words.length } else o)
  let (b, n, w) := b.loseHeld q a z x.packets.length
  let y := b.queue q
  let b := (b.putQueue q ({ y with opn := opn, busy := false, moving := 0, tail := min y.tail ({ y with opn := opn } : Queue).used } :
    Queue).prune).raise .log 4
  (b.record 0x0B .log (b.queueOwner q) none (BitVec.ofNat 64 q) (wmk [(⟨0, 32⟩, n), (⟨32, 32⟩, w)])).moveQueue q

/-- The status of a queue's port: LOG_PORT_STATE (R266). -/
def Queue.stateWord (x : Queue) : Word :=
  wmk [(Fld.logPortState_UNREAD_WORDS, x.unreadWords),
    (Fld.logPortState_OPEN, bit (match x.opn with | some o => !o.dropping | none => false)),
    (Fld.logPortState_MARK_VALID, bit x.mark.isSome), (Fld.logPortState_MARK_LOST, bit x.markLost),
    (Fld.logPortState_OPEN_WORDS, match x.opn with | some o => o.words.length | none => 0)]

end Sys2Proof.Machine
end

