-- ==== Sys2Proof/Machine/Path.lean ====
section
/-!
DEFINITION. The path of a request: matching an address to a catalogue field (R99 to R106), byte order and width
(R109, R110), and handing a request to its target (R12, R133).
-/
namespace Sys2Proof.Machine

open Sys2Proof

/-! Fields of a catalogue entry (R105), word 0 and word 2. -/

def entEN : Fld := ⟨0, 1⟩
def entSPACE : Fld := ⟨1, 4⟩
def entPORT : Fld := ⟨5, 2⟩
def entORDER : Fld := ⟨8, 2⟩
def entWIDTH : Fld := ⟨10, 2⟩
def entCLASS : Fld := ⟨12, 1⟩
def entROPASS : Fld := ⟨13, 1⟩
def entPOISON : Fld := ⟨14, 1⟩
def entERRMAP : Fld := ⟨16, 2⟩
def entPASIDEN : Fld := ⟨18, 1⟩
def entDIRECTOR : Fld := ⟨19, 1⟩
def entOWNER : Fld := ⟨20, 11⟩
def entGEN : Fld := ⟨32, 8⟩
def entSTEER : Fld := ⟨40, 8⟩
def entRIDFN : Fld := ⟨48, 12⟩
def entPASID : Fld := ⟨0, 20⟩

/-! Fields of a region record (R100). -/

def regKIND : Fld := ⟨0, 4⟩
def regINDEX : Fld := ⟨4, 4⟩
def regPORT : Fld := ⟨8, 2⟩
def regFC : Fld := ⟨10, 4⟩
def regFS : Fld := ⟨14, 6⟩
def regFIRST : Fld := ⟨20, 16⟩
def regBASE : Fld := ⟨36, 28⟩

def Xlat.w0 (x : Xlat) : Word := x.w.getD 0 0
def Xlat.get (x : Xlat) (f : Fld) : Nat := wget x.w0 f
def Xlat.base (x : Xlat) : Nat := (x.w.getD 1 0).toNat
def Xlat.pasid (x : Xlat) : Nat := wget (x.w.getD 2 0) entPASID

/-- The four words of entry `i`. -/
def Bridge.entry (b : Bridge) (i : Nat) : List Word := (List.range 4).map (fun w => b.raw (.catEntry i w))

/-- The entries' words with those of `i` replaced. -/
def Bridge.withEntry (b : Bridge) (i : Nat) (ws : List Word) : Bridge :=
  (List.range 4).foldl (fun (b : Bridge) w => b.put (.catEntry i w) (ws.getD w 0)) b

/-- The words of entry `i` are about to change: each segment that a finder holds keeps those it was taken under (R117). -/
def Bridge.keepTaken (b : Bridge) (i : Nat) : Bridge :=
  { b with eng := { b.eng with chans := b.eng.chans.map (fun x => { x with segs := x.segs.map (fun s =>
      match s.st with
      | .taken _ => if s.snap.any (fun p => p.1 = i) then s else { s with snap := s.snap ++ [(i, b.entry i)] }
      | _ => s) }) } }

/-- The catalogue as it was when a segment was taken (R117). -/
def Bridge.under (b : Bridge) (s : Seg) : Bridge := s.snap.foldl (fun (b : Bridge) p => b.withEntry p.1 p.2) b

/-- Write the words of entry `i`. -/
def Bridge.putEntry (b : Bridge) (i : Nat) (ws : List Word) : Bridge := (b.keepTaken i).withEntry i ws

/-- A field of the first word of entry `i`. -/
def Bridge.ent (b : Bridge) (i : Nat) (f : Fld) : Nat := b.get (.catEntry i 0) f

/-- The owner instance of entry `i`, when it has one. -/
def Bridge.entOwner (b : Bridge) (i : Nat) : Option Nat :=
  if b.ent i entDIRECTOR = 1 then none else some (b.ent i entOWNER)

/-- Whether an entry takes requests: enabled, and its owner instance is not being reset (R226 step 1). -/
def Bridge.entOpen (b : Bridge) (i : Nat) : Bool :=
  b.ent i entEN = 1 && (match b.entOwner i with | some v => b.viState v ≤ 1 | none => true)

/-- The catalogue banks that lookups of entries open: those of the enabled ones (R403). -/
def Bridge.banksOf (b : Bridge) (l : List Nat) : List Nat := (l.filter (fun i => b.ent i entEN = 1)).map (fun i => 60 + i / 4096)

/-- Disable an entry and advance its generation (R120). -/
def Bridge.disableEntry (b : Bridge) (i : Nat) : Bridge :=
  (b.keepTaken i).sets (.catEntry i 0) [(entEN, 0), (entGEN, b.ent i entGEN + 1)]

/-! Region slots (R127). -/

def slotPf (a bar : Nat) : Nat := 3 * a + bar / 2
def slotVf (a bar : Nat) : Nat := 12 + 2 * a + bar / 2
def slotMer (p r : Nat) : Nat := 32 + 16 * p + r
def slotTrn (r : Nat) : Nat := 96 + r
def slotPeer (r : Nat) : Nat := 112 + r

/-- The region record in force of a slot. -/
def Bridge.region (b : Bridge) (k : Nat) (f : Fld) : Nat := b.get (.catRegion k) f

/-- Whether a region is present. -/
def Bridge.regionOn (b : Bridge) (k : Nat) : Bool := b.region k regKIND ≠ 0xF

/-- Size of a region in bytes. -/
def Bridge.regionSize (b : Bridge) (k : Nat) : Nat := 2 ^ (b.region k regFC + b.region k regFS)

/-- Field number and offset within the field; none when the request misses (R103, R104). -/
def Bridge.field (b : Bridge) (k off len : Nat) : Option (Nat × Nat) :=
  if !b.regionOn k then none else
  let s := b.region k regFS
  let n := off / 2 ^ s
  let o := off % 2 ^ s
  if 2 ^ b.region k regFC ≤ n || 2 ^ s < o + len then none else some (n, o)

/-- The translation through entry `i` at field offset `o`. -/
def Bridge.xlat (b : Bridge) (i o : Nat) : Xlat := ⟨i, b.entry i, o⟩

/-- A region's translation for sources whose region record names FIRST. -/
def Bridge.lookup (b : Bridge) (k off len : Nat) : Option Xlat :=
  (b.field k off len).map (fun p => b.xlat (b.region k regFIRST + p.1) p.2)

/-- The translation of a VF's BAR2 offset (R102, R222). -/
def Bridge.lookupVf (b : Bridge) (v off len : Nat) : Option Xlat :=
  (b.field (slotVf (b.viAp v) 2) off len).map (fun p => b.xlat (b.viGrant v + 1 + p.1) p.2)

/-- The Transit region that holds an address (R103). -/
def Bridge.transitRegion (b : Bridge) (a : Nat) : Option Nat :=
  (List.range 16).find? (fun r =>
    let k := slotTrn r
    b.regionOn k && 4096 * b.region k regBASE ≤ a && a < 4096 * b.region k regBASE + b.regionSize k)

/-- The function, BAR and offset that a host address reaches: PF0's BARs 0, 2 and 4, then each VF's BARs 0 and 2. In Bare
there is BAR0 of PF0 of AP0 alone (R424). -/
def Bridge.hostMatch (b : Bridge) (ap addr : Nat) : Option (Nat × Nat × Nat) :=
  let pf := (if b.mode = 3 then (if ap = 0 then [0] else []) else [0, 2, 4]).findSome? (fun bar =>
    let base := b.cfgGet ap 0 (.bar bar)
    let size := if bar = 2 then (if b.regionOn (slotPf ap 2) then b.regionSize (slotPf ap 2) else 0)
                else if bar = 0 then 2 ^ 26 else 2 ^ 16
    if base ≤ addr && addr < base + size then some (0, bar, addr - base) else none)
  let vf := [0, 2].findSome? (fun bar =>
    let base := b.cfgGet ap 0 (.vfBar bar)
    let size := if bar = 2 then (if b.regionOn (slotVf ap 2) then b.regionSize (slotVf ap 2) else 0) else 2 ^ 16
    if 0 < size && base ≤ addr && (addr - base) / size < b.cfgGet ap 0 .numVfs then
      some ((addr - base) / size + 1, bar, (addr - base) % size) else none)
  if b.cfgGet ap 0 .memorySpace = 1 && pf.isSome then pf else if b.mode = 3 then none else vf

/-- Whether a function answers memory requests now: a VF only while its instance exists and is not being reset
(R74, R87). -/
def Bridge.fnAnswers (b : Bridge) (ap fn : Nat) : Bool :=
  fn = 0 || (b.cfgGet ap 0 .vfEnable = 1 && b.cfgGet ap 0 .vfMse = 1 &&
    (match b.viOf ap fn with | some v => b.viState v = 1 | none => false))

/-- The first word of the entries that the bridge writes itself (R102): device class and SPLIT (log entry 15). -/
def ownEntry (space port owner : Nat) (dir : Bool) : Word :=
  wmk [(entEN, 1), (entSPACE, space), (entPORT, port), (entWIDTH, 1), (entCLASS, 1), (entDIRECTOR, bit dir),
    (entOWNER, owner)]

/-- The translation of a host BAR access (R102, R103). -/
def Bridge.lookupHost (b : Bridge) (ap fn bar off len : Nat) : Option Xlat :=
  if b.mode = 3 then some ⟨0, [ownEntry 6 0 0 true, 0, 0, 0], off⟩
  else if fn = 0 then b.lookup (slotPf ap bar) off len
  else match b.viOf ap fn with
    | none => none
    | some v => if bar = 0 then some (b.xlat (b.viGrant v) off) else b.lookupVf v off len

/-- Count and record a miss or a disabled hit (R121, R122, R126). -/
def Bridge.catMiss (b : Bridge) (disabled : Bool) (addr src port : Nat) : Bridge :=
  let b := b.bump .catMiss (if disabled then Fld.catMiss_DISABLED_HITS else Fld.catMiss_MISSES)
  let b := b.put .catMissLast (wmk [(Fld.catMissLast_ADDR, addr), (Fld.catMissLast_SOURCE, src),
    (Fld.catMissLast_PORT, port), (Fld.catMissLast_DISABLED, bit disabled), (Fld.catMissLast_VALID, 1)])
  b.raise .cat (if disabled then 1 else 0)

/-- A poisoned write that an entry drops (R113). -/
def Bridge.poisonDrop (b : Bridge) (x : Xlat) (addr : Nat) : Bridge :=
  ((b.bump .catMiss Fld.catMiss_POISON_DROP).raise .cat 4).record 0x05 .cat
    (if x.get entDIRECTOR = 1 then none else some (x.get entOWNER)) none (BitVec.ofNat 64 addr)
    (packIdx x.idx (x.get entGEN) 0 0)

/-- Whether poisoned write data through an entry is dropped (R113). -/
def Xlat.dropsPoison (x : Xlat) : Bool := x.get entPOISON = 0 || x.get entSPACE = 2 || x.get entSPACE = 3

/-! Byte order (R109). -/

/-- What a byte's offset is XORed with; code 4 is SWAP32 and SWAP64 applied in turn, through two entries (R103, R109). -/
def orderMask (order : Nat) : Nat := if order = 1 then 3 else if order = 2 then 7 else if order = 4 then 4 else 0

/-- Bytes within which an order moves a byte. -/
def orderUnit (order : Nat) : Nat := if order = 1 then 4 else if order = 2 || order = 4 then 8 else 1

/-- The order of two entries applied in turn. -/
def orderBoth (a c : Nat) : Nat :=
  if orderMask a = 0 then c else if orderMask c = 0 then a else if a = c then 0 else 4

/-- Whether target offset `t` carries a byte of the request [lo, hi). -/
def inReq (order lo hi t : Nat) : Bool := let i := t ^^^ orderMask order; lo ≤ i && i < hi

/-- Contiguous runs of target offsets, ascending. -/
def runsGo (order lo hi : Nat) : Nat → Nat → Option (Nat × Nat) → List (Nat × Nat)
  | 0, _, cur => cur.toList
  | n + 1, t, cur =>
    if inReq order lo hi t then
      runsGo order lo hi n (t + 1) (match cur with | some (s, l) => some (s, l + 1) | none => some (t, 1))
    else match cur with
      | some r => r :: runsGo order lo hi n (t + 1) none
      | none => runsGo order lo hi n (t + 1) none

/-- The runs of target offsets of a request [lo, hi): one span unless a swap leaves gaps. -/
def runs (order lo hi : Nat) : List (Nat × Nat) :=
  let u := orderUnit order
  if lo % u = 0 && hi % u = 0 then [(lo, hi - lo)]
  else runsGo order lo hi ((hi + u - 1) / u * u - lo / u * u) (lo / u * u) none

/-! Width (R110). -/

/-- Cut a span at every multiple of `m` of its address. -/
def cutAt (m : Nat) : Nat → Nat → Nat → List (Nat × Nat)
  | 0, _, _ => []
  | fuel + 1, a, n =>
    if n = 0 then [] else
    let k := min n (m - a % m)
    (a, k) :: cutAt m fuel (a + k) (n - k)

/-- The largest naturally aligned burst at beat `p` with at most `r` beats. -/
def burstAt (p r : Nat) : Nat :=
  if p % 16 = 0 && 16 ≤ r then 16 else if p % 8 = 0 && 8 ≤ r then 8 else if p % 4 = 0 && 4 ≤ r then 4
  else if p % 2 = 0 && 2 ≤ r then 2 else 1

/-- The fewest naturally aligned bursts of beats `p` to `p + r - 1` (R306, R310), as byte spans. -/
def bursts : Nat → Nat → Nat → List (Nat × Nat)
  | 0, _, _ => []
  | fuel + 1, p, r =>
    if r = 0 then [] else let k := burstAt p r; (8 * p, 8 * k) :: bursts fuel (p + k) (r - k)

/-- First target offset of a request and one past its last. -/
def reach (order lo hi : Nat) : Nat × Nat :=
  let rs := runs order lo hi
  let l := rs.getLast?.getD (lo, hi - lo)
  ((rs.head?.getD (lo, 0)).1, l.1 + l.2)

/-- The spans of a request toward the host: one when its gaps lie in its first and last 4-byte units, which the host standard's
byte enables can express, else one per contiguous run (R109; log entry 106). -/
def hostSpans (order lo hi : Nat) : List (Nat × Nat) :=
  let (a, z) := reach order lo hi
  if (List.range (z - a)).all (fun k => inReq order lo hi (a + k) || (a + k) / 4 = a / 4 || (a + k) / 4 = (z - 1) / 4) then
    [(a, z - a)]
  else runs order lo hi

/-- Cut a span at every 4 KiB boundary and at every address multiple of the host's limit (R110; log entry 107). -/
def hostCuts (limit a n : Nat) : List (Nat × Nat) :=
  (cutAt 4096 (n + 1) a n).flatMap (fun s => cutAt (max 1 limit) (s.2 + 1) s.1 s.2)

/-- The target transactions of a request [lo, hi) of a field, as target offsets and lengths (R109, R110). `limit` is the
host's maximum payload or read request size. -/
def pieces (space order limit lo hi : Nat) : List (Nat × Nat) :=
  if space = 1 then
    let (a, z) := reach order lo hi
    bursts (hi - lo + 2) (a / 8) ((z + 7) / 8 - a / 8)
  else if space = 0 then (runs order lo hi).flatMap (fun r => cutAt 256 (r.2 + 1) r.1 r.2)
  else if space = 4 then (hostSpans order lo hi).flatMap (fun r => hostCuts limit r.1 r.2)
  else runs order lo hi

/-- The write data of a piece: request byte `i` stands at target offset `i` XOR mask; gaps are not enabled. -/
def pieceData (order lo : Nat) (data : List (Option Byte)) (t n : Nat) : List (Option Byte) :=
  (List.range n).map (fun j =>
    let i := (t + j) ^^^ orderMask order
    if lo ≤ i then (data.getD (i - lo) none) else none)

/-- The request bytes that a piece's answer carries, as (index in the request, byte). -/
def pieceBytes (j : Job) (data : List Byte) : List (Nat × Byte) :=
  data.zipIdx.filterMap (fun p =>
    let i := (j.off + p.2) ^^^ orderMask j.order
    if j.lo ≤ i && i < j.hi then some (i - j.lo, p.1) else none)

/-- The bytes of a request of `n` bytes assembled from its pieces; absent bytes read as 0. -/
def assemble (n : Nat) (l : List (Nat × Byte)) : List Byte := (List.range n).map (fun i => assocGet 0 i l)

/-! Handing requests to their targets. -/

/-- A Meridian port's transaction layer. -/
def Bridge.merPort (b : Bridge) (p : Nat) : MerPort :=
  (b.eng.merPorts.find? (fun x => x.p = p)).getD { p := p, caps := none, rx := [], waiting := [] }

/-- Write a Meridian port's transaction layer. -/
def Bridge.putMerPort (b : Bridge) (x : MerPort) : Bridge :=
  { b with eng := { b.eng with merPorts := listPut (fun y => y.p = x.p) x b.eng.merPorts } }

/-- Whether a Meridian port is enabled, and whether it is READY (R267, R272). -/
def Bridge.merEnabled (b : Bridge) (p : Nat) : Bool := b.get (.merPortGeom p) Fld.merPortGeom_ENABLE = 1
def Bridge.merReady (b : Bridge) (p : Nat) : Bool := b.get (.merPortStat p) Fld.merPortStat_READY = 1

/-- Link `k`. -/
def Bridge.link (b : Bridge) (k : Nat) : Link :=
  (b.eng.links.find? (fun l => l.k = k)).getD
    { k := k, buf := [], expected := 0, txNext := 0, nak := false, nakSeen := none, granted := [0, 0, 0, 0],
      consumed := [0, 0, 0, 0], farGranted := [0, 0, 0, 0], replayFrom := 0, frozen := 0, windowStart := 0, phase := 0,
      phaseStart := 0, pauseLanes := 0, usable := 0, reqSent := none, ackAt := none, downAt := 0, firstSeen := false,
      creditWait := [], partialWords := [], upBeforeDim := false }

/-- Write a link. -/
def Bridge.putLink (b : Bridge) (l : Link) : Bridge :=
  { b with eng := { b.eng with links := listPut (fun y => y.k = l.k) l b.eng.links } }

/-- Credits of a kind that the bridge holds from the far end (R357, R292). -/
def Link.credit (l : Link) (i : Nat) : Nat := (l.farGranted.getD i 0 + 65536 - l.consumed.getD i 0) % 65536

/-- The packet of a request toward a Meridian agent (R268, R269); one passed on keeps its VI, DIR and PASID (R147), any other
names its owner and carries no PASID (R105). -/
def Job.packet (j : Job) (tag : Nat) : Packet :=
  let (ty, data, len, op, poison) : Nat × List Byte × Nat × Nat × Bool :=
    match j.op with
    | .read n => (0, [], n - 1, 0, false)
    | .write d p => (1, d.map (·.getD 0), d.length - 1, 0, p)
    | .rload n => (2, [], n - 1, 0, false)
    | .cstore d p => (3, d, d.length - 1, 0, p)
    | .atomic o d p => (4, d, d.length - 1, o, p)
    | .event o w => (5, wbytes w, 7, o, false)
    | .flush => (0, [], 0, 0, false)
  let (vi, dir, pasid) := j.pass.getD (j.owner.getD 0, j.director, none)
  { type := ty, tag := tag, len := len, cls := j.cls, mark := if j.cls then 0 else j.mark, poison := poison,
    pasid := pasid, vi := vi, op := op, dir := dir, addr := j.addr, data := data }

/-- Credits a packet needs: kind of its header credit (0 posted, 2 non-posted) and data credits (R271, R357). -/
def pktKind (p : Packet) : Nat := if p.type = 1 || p.type = 5 then 0 else 2
def pktCredits (p : Packet) : Nat := (p.data.length + 63) / 64

/-- Whether a link holds the credits for a packet; completions need none (R271, R273). -/
def Link.canSend (l : Link) (p : Packet) : Bool :=
  8 ≤ p.type || (1 ≤ l.credit (pktKind p) && (pktCredits p) ≤ l.credit ((pktKind p) + 1))

/-- The words of a packet (R268). -/
def pktWords (p : Packet) : List Word :=
  [wmk [(⟨0, 4⟩, p.type), (⟨4, 12⟩, p.tag), (⟨16, 8⟩, p.len), (⟨24, 1⟩, bit p.cls), (⟨25, 2⟩, p.mark),
      (⟨27, 1⟩, bit p.poison), (⟨28, 1⟩, bit p.pasid.isSome), (⟨29, 11⟩, p.vi), (⟨40, 3⟩, p.resp), (⟨43, 5⟩, p.op),
      (⟨48, 1⟩, bit p.dir)],
   wmk [(⟨0, 52⟩, p.addr)]] ++ (match p.pasid with | some x => [wmk [(⟨0, 20⟩, x)]] | none => [])
   ++ wordsOfBytes ((p.data.length + 7) / 8) p.data

/-- Whether a link is UP (R369). -/
def Bridge.linkUp (b : Bridge) (k : Nat) : Bool := b.get (.ifvLinkStat k) Fld.ifvLinkStat_STATE = 2

/-- Put a packet's words into numbered payload flits of 30 words, padded with ones, and keep each for replay; the packet
begins in word 0 of the first (R348, R350, R354). -/
def sendFlits (l : Link) : Nat → Nat → List Word → Link × List Flit
  | 0, _, _ => (l, [])
  | fuel + 1, first, ws =>
    if ws = [] then (l, []) else
    let f : Flit := { seq := l.txNext, first := first, words := ws.take 30 ++ List.replicate (30 - ws.length) (BitVec.allOnes 64) }
    let l1 := { l with buf := l.buf ++ [f], txNext := (l.txNext + 1) % 4096 }
    let (l2, fs) := sendFlits l1 fuel 31 (ws.drop 30)
    (l2, f :: fs)

/-- Whether a link can send a packet now: it is UP, it holds the credits, and the replay buffer keeps at most 2,048 flits
(R354, R357). -/
def Bridge.linkTakes (b : Bridge) (k : Nat) (p : Packet) : Bool :=
  b.linkUp k && (b.link k).canSend p && decide ((b.link k).buf.length + ((pktWords p).length + 29) / 30 ≤ 2048)

/-- The header fields that a flit sent now carries beside its number and FIRST (R346, R352, R353, R357). -/
def Link.header (l : Link) (seq first : Nat) : FlitHdr :=
  { seq := seq, ack := (l.expected + 4095) % 4096, nak := l.nak, first := first, csel := l.csel, cval := l.granted.getD l.csel 0 }

/-- Send a flit of kind 0 PAYLOAD, 1 IDLE or 2 CONTROL (R346, R349); the credit counters go in rotation (R357). -/
def Bridge.putFlit (b : Bridge) (k kind seq first : Nat) (ws : List Word) : Bridge :=
  let l := b.link k
  (b.putLink { l with csel := (l.csel + 1) % 4 }).emit
    (.flit k kind (l.header seq first) (ws ++ List.replicate (30 - ws.length) (BitVec.allOnes 64)))

/-- Send packet words in numbered flits that are kept for replay; the replay timer starts when no flit was held (R350, R354, R355). -/
def Bridge.putWords (b : Bridge) (k : Nat) (ws : List Word) : Bridge :=
  let l := b.link k
  let (l, fs) := sendFlits { l with replayFrom := if l.buf = [] then b.tick else l.replayFrom } (ws.length + 1) 0 ws
  fs.foldl (fun (b : Bridge) f => b.putFlit k 0 f.seq f.first f.words) (b.putLink l)

/-- Put the mirror packets on the Ifevin link, as far as the replay buffer has room (R354, R381). -/
def flushTx : List (List Word) → Bridge → Bridge
  | [], b => { b with eng := { b.eng with pair := { b.eng.pair with tx := [] } } }
  | ws :: l, b =>
    if b.linkUp 4 && decide ((b.link 4).buf.length + (ws.length + 29) / 30 ≤ 2048) then flushTx l (b.putWords 4 ws)
    else { b with eng := { b.eng with pair := { b.eng.pair with tx := ws :: l } } }

/-- Put a packet on a link: credits are consumed, its words go out in payload flits (R357). -/
def Bridge.putPacket (b : Bridge) (k : Nat) (p : Packet) : Bridge :=
  let l := b.link k
  let c := if 8 ≤ p.type then l.consumed else
    (l.consumed.set (pktKind p) ((l.consumed.getD (pktKind p) 0 + 1) % 65536)).set ((pktKind p) + 1)
      ((l.consumed.getD ((pktKind p) + 1) 0 + (pktCredits p)) % 65536)
  ((b.putLink { l with consumed := c }).putWords k (pktWords p)).emit (.mer k p)

/-- Whether a Meridian port sends more than its CAPS: the CAPS has gone, and the agent has advertised the least credits (R272,
R279). -/
def Bridge.portSends (b : Bridge) (k : Nat) : Bool := b.merReady k && !(b.link k).capsDue

/-- Send a packet on a link. What cannot go now waits while the link stands (R354, R361); a link that is down sends nothing. -/
def Bridge.sendPacket (b : Bridge) (k : Nat) (p : Packet) : Bridge :=
  if (b.link k).owed = [] && b.portSends k && b.linkTakes k p then b.putPacket k p
  else if b.get (.ifvLinkStat k) Fld.ifvLinkStat_STATE < 2 then b
  else b.putLink { b.link k with owed := (b.link k).owed ++ [p] }

/-- Send the packets that waited, oldest first. -/
def Bridge.sendOwed (b : Bridge) (k : Nat) : Nat → Bridge
  | 0 => b
  | fuel + 1 => match (b.link k).owed with
    | p :: l => if b.linkTakes k p then Bridge.sendOwed ((b.putLink { b.link k with owed := l }).putPacket k p) k fuel else b
    | [] => b

/-- The lowest number from `n` on that `p` does not refuse. -/
def firstFree (p : Nat → Bool) : Nat → Nat → Option Nat
  | 0, _ => none
  | fuel + 1, n => if p n then firstFree p fuel (n + 1) else some n

/-- The lowest Meridian tag of a port that is free and was not freed in this tick (R274, R283). -/
def Bridge.freeMerTag (b : Bridge) (p : Nat) : Option Nat :=
  let used := (b.eng.merTags.filter (fun t => t.port = p)).map (·.tag)
  firstFree (fun n => used.contains n || b.freed.any (fun x => x.port = p && x.tag = n && x.tick = b.tick)) 4096 0

/-- Whether a later request of `src` on a path must wait for an acquire-marked read, an AtomicOp or its conditional store
(R131, R145). A CONSUME read that stalls has not been answered. -/
def Bridge.acquiring (b : Bridge) (src : Src) (space port : Nat) : Bool :=
  ((b.eng.merTags.filter (fun t => !t.quarantined)).map (·.job) ++ (b.ledger.filter (fun e => !e.quarantined)).map (·.job) ++
    b.eng.queues.flatMap (fun q => q.2.stalled.filterMap (·.job))).any
    (fun j => j.src = src && j.space = space && j.port = port &&
      (match j.op with | .read _ | .rload _ => j.mark = 1 | .atomic .. | .cstore .. => true | _ => false))

/-- The entry and generation that a request was looked up in first (R117, R118). -/
def Job.entry (j : Job) : Nat × Nat := j.via.getD (j.idx, j.gen)

/-- Whether a request writes. -/
def JobOp.isWrite : JobOp → Bool
  | .write .. | .cstore .. | .atomic .. => true
  | _ => false

/-- Whether a request goes to a Meridian port's posted channel (R271). -/
def JobOp.posted : JobOp → Bool
  | .write .. | .event .. => true
  | _ => false

/-- Whether the order of its source, the port's shutter and the CAPS that opens the link let a request go (R26, R131, R143,
R279): a device read waits until the device writes before it have been acknowledged. -/
def Bridge.merMaySend (b : Bridge) (j : Job) : Bool :=
  !b.acquiring j.src 0 j.port && b.domsOpen [54 + j.port] && b.portSends j.port &&
    !(j.cls && !j.op.isWrite && b.eng.merTags.any (fun t =>
      !t.quarantined && t.port = j.port && t.job.src = j.src && t.job.cls && t.job.op.isWrite))

/-- Whether the link and the tags let a request go (R274, R354, R357). -/
def Bridge.merRoom (b : Bridge) (j : Job) : Bool :=
  (b.link j.port).owed = [] && b.linkTakes j.port (j.packet 0) &&
    (match j.op with | .event .. => true | _ => (b.freeMerTag j.port).isSome)

/-- Whether a posted packet that is first of its source waits for credits alone: no posted packet passes it (R273). -/
def Bridge.postedStuck (b : Bridge) (x : MerPort) : Bool :=
  x.waiting.any (fun i => i.op.posted && b.merMaySend i && !(b.link i.port).canSend (i.packet 0) &&
    x.waiting.find? (fun k => k.src = i.src) = some i)

/-- Send a request on its Meridian port. An EVENT takes no tag and ends when it is sent. -/
def Bridge.merSend (b : Bridge) (j : Job) : Bridge :=
  match j.op with
  | .event .. => (b.sendPacket j.port (j.packet 0)).finish j (.ok [] false)
  | _ =>
    let t := (b.freeMerTag j.port).getD 0
    let e : MerTag := { port := j.port, tag := t, quarantined := false, until_ := 0, issued := b.tick, retries := 0,
                        resendAt := none, job := j }
    ({ b with eng := { b.eng with merTags := b.eng.merTags ++ [e] } }).sendPacket j.port (j.packet t)

/-- Offer a request to its Meridian port: it is sent when it can be and no request of its source waits before it; otherwise it
waits, and at a port that is not READY it fails at once (R129, R273, R274, R289). -/
def Bridge.offerMer (b : Bridge) (j : Job) : Bridge :=
  let x := b.merPort j.port
  if !b.merReady j.port then b.finish j (.err .merTimeout)
  else if b.merMaySend j && b.merRoom j && !x.waiting.any (fun i => i.src = j.src) && !(j.op.posted && b.postedStuck x) then
    b.merSend j
  else b.putMerPort { x with waiting := x.waiting ++ [j] }

/-- Give a request to a Meridian port, whose shutter it crosses (R26). -/
def Bridge.toMeridian (b : Bridge) (j : Job) : Bridge := (b.needDom (54 + j.port)).offerMer j

/-- The next request of a retry loop: it goes before every request of its source that waits (R129, R145). -/
def Bridge.toMeridianNext (b : Bridge) (j : Job) : Bridge :=
  let x := b.merPort j.port
  if !b.merReady j.port then b.finish j (.err .merTimeout)
  else if b.merMaySend j && b.merRoom j then b.merSend j
  else b.putMerPort { x with waiting := j :: x.waiting }

/-- Send the requests that wait at a Meridian port, in order, as far as tags, credits and acquires go. -/
def pumpMerList (p : Nat) : List Job → Bridge → Bridge
  | [], b => b
  | j :: l, b => pumpMerList p l (b.offerMer j)

/-- Offer every request that waits at a Meridian port again. -/
def Bridge.pumpMer (b : Bridge) (p : Nat) : Bridge :=
  let l := (b.merPort p).waiting
  if l = [] then b else pumpMerList p l (b.putMerPort { b.merPort p with waiting := [] })

/-- Words of a logbook write, `none` unless it is 8-byte aligned and whole (R242). -/
def portWords (off : Nat) (d : List (Option Byte)) : Option (List Word) :=
  if off % 8 ≠ 0 || d.length % 8 ≠ 0 || d = [] || d.any (·.isNone) then none
  else some (wordsOfBytes (d.length / 8) (d.map (·.getD 0)))

/-- A source that came through the logbook target space (SPACE 0x3). -/
def portWho (q : Nat) (s : Src) : PortWho :=
  ⟨6, match s with | .mer .. => 1 | .transit => 2 | .finder _ => 3 | _ => 0, 4096 * q, decide (s = .bridge)⟩

/-- A write to a queue's port page at page offset `off` (R240 to R245, R251): whether it was accepted. -/
def Bridge.portWrite (b : Bridge) (q off : Nat) (d : List (Option Byte)) (who : PortWho) : Bridge × Bool :=
  let refuse := (b.portRefused q, false)
  match portWords off d with
  | none => refuse
  | some ws =>
    let z := off + d.length
    let producer := off < 0x188
    if producer && b.isFaultLq q && !who.bridge then refuse
    else if z ≤ 0x100 then (b.appendWords q ws, true)
    else if 0x100 ≤ off && z ≤ 0x180 then match b.packetWrite q ws with | some b => (b, true) | none => refuse
    else if off = 0x180 && z = 0x188 then match b.closePacket q with | some b => (b, true) | none => refuse
    else if off = 0x188 && z = 0x190 then
      let cmd := wget (ws.getD 0 0) Fld.logPortCmd_CMD
      if 1 ≤ cmd && cmd ≤ 5 then (b.consumerCmd q cmd, true)
      else (b.reject .log (who.base + off) false 11 who.writer who.vf, true)
    else refuse

/-- The value of a port page's 8-byte register (R240, R266). -/
def Bridge.portReg (b : Bridge) (q off : Nat) : Word :=
  if off = 0x190 then (b.queue q).cmdStatus
  else if off = 0x198 then (b.queue q).stateWord
  else if off = 0x1A0 then b.raw (.logQLost q)
  else 0

/-- A read of `n` bytes at page offset `off`, which ends job `j`: a CONSUME read, the registers, zeros elsewhere (R240,
R242, R250). -/
def Bridge.portReadJob (b : Bridge) (q off n : Nat) (j : Job) : Bridge :=
  let z := off + n
  let refuse := (b.portRefused q).finish j (.err .logbookRefused)
  if off < 0x100 then
    if off % 8 = 0 && n % 16 = 0 && 0 < n && z ≤ 0x100 then
      b.consumeRead q { src := .bridge, tag := 0, job := some j, pairs := n / 16, t0 := b.tick }
    else refuse
  else if off < 0x180 then (if z ≤ 0x180 then b.finish j (.ok (List.replicate n 0) false) else refuse)
  else if off < 0x200 && off / 8 ≠ (z - 1) / 8 then refuse
  else b.finish j (.ok ((bytesOfNat 8 (b.portReg q (off / 8 * 8)).toNat ++ List.replicate n 0).drop (off % 8) |>.take n) false)

/-- Whether an access of a logbook port must wait at its source face: its queue's domains are closed, or an earlier access of its
source waits, was blocked by a spill, or is an acquire not yet answered (R26, R129, R131, R132, R257). -/
def Bridge.logHeld (b : Bridge) (j : Job) : Bool :=
  !b.domsOpen (queueDoms (j.addr / 4096)) || b.acquiring j.src 3 j.port || b.eng.logWait.any (fun i => i.src = j.src) ||
    b.eng.queues.any (fun q => q.2.blocked.any (fun w => match w.job with | some i => i.src = j.src | none => false))

/-- An access of a logbook port (R240 to R251, R257): a producer write waits behind a spill. -/
def Bridge.portAccess (b : Bridge) (j : Job) : Bridge :=
  let q := j.addr / 4096
  let off := j.addr % 4096
  match j.op with
  | .write d _ =>
    if off < 0x188 && (b.queue q).tailHeld then
      let w : PortWait := { who := portWho q j.src, off := off, data := d, job := some j, src := .bridge }
      b.putQueue q { b.queue q with blocked := (b.queue q).blocked ++ [w] }
    else
      let (b, ok) := b.portWrite q off d (portWho q j.src)
      b.finish j (if ok then .ok [] false else .err .logbookRefused)
  | .read n => b.portReadJob q off n j
  | _ => b.finish j (.err .tgtFault)

/-- Offer a request to its logbook port: it waits at its source face or is served. -/
def Bridge.offerLog (b : Bridge) (j : Job) : Bridge :=
  if b.logHeld j then { b with eng := { b.eng with logWait := b.eng.logWait ++ [j] } } else b.portAccess j

/-- Give a request to a logbook port, whose domains it crosses (R26). -/
def Bridge.toLogbook (b : Bridge) (j : Job) : Bridge := (b.needDoms (queueDoms (j.addr / 4096))).offerLog j

/-- Offer every access that waits for its logbook port again, in order. -/
def Bridge.pumpLog (b : Bridge) : Bridge :=
  let l := b.eng.logWait
  if l = [] then b else
  l.foldl (fun (b : Bridge) j => b.offerLog j) { b with eng := { b.eng with logWait := [] } }

/-- The domains of a request to a host: the dispatcher's, the Aperture's and, for a read, the tag ledger's (R403). -/
def hostDoms (j : Job) : List Nat := [93, 50 + j.port] ++ (if j.op.isWrite then [] else [85])

/-- Give a request to its target space. Archive requests go to the arbiter at rank 3 (R16), host requests to the
schedule (R196); the control spaces 0x6 to 0x8 are served where posted entries issue. -/
def Bridge.toTarget (b : Bridge) (j : Job) : Bridge :=
  if j.space = 0 then b.toMeridian j
  else if j.space = 1 then
    let t : TrnJob := { job := j, done := 0, data := [], retries := 0, retryAt := none,
                        locked := (match j.op with | .atomic .. => true | _ => false), old := none }
    { b.needDoms [83, 84] with eng := { (b.needDoms [83, 84]).eng with trn := { b.eng.trn with queue := b.eng.trn.queue ++ [t] } } }
  else if j.space = 2 then
    let r : ArchReq := { id := j.id, rank := 3, t0 := b.tick, job := some j, user := 0, arg := 0 }
    { b.needDoms [81, 82] with archReqs := b.archReqs ++ [r] }
  else if j.space = 3 then b.toLogbook j
  else if j.space = 4 then { b.needDoms (hostDoms j) with reqs := b.reqs ++ [j] }
  else b.finish j (.err .unsupported)

/-- The host request size limits of an Aperture (R110). -/
def Bridge.hostLimit (b : Bridge) (ap : Nat) (write : Bool) : Nat :=
  if write then b.cfgGet ap 0 .maxPayload else b.cfgGet ap 0 .maxReadReq

/-! Routes: the entry of a request, and the one by which it leaves. -/

/-- The translation of a request, and for a peer request that through its second entry (R103, R117). -/
structure Route where
  first : Xlat
  last : Xlat
  deriving DecidableEq, Repr

/-- A request that leaves through its own entry. -/
def Xlat.route (x : Xlat) : Route := ⟨x, x⟩

/-- Whether a request leaves through a second entry. -/
def Route.isPeer (r : Route) : Bool := r.first.get entSPACE = 5

def Route.space (r : Route) : Nat := r.last.get entSPACE
def Route.port (r : Route) : Nat := r.last.get entPORT

/-- Both entries' orders apply, one after the other (R109). -/
def Route.order (r : Route) : Nat :=
  if r.isPeer then orderBoth (r.first.get entORDER) (r.last.get entORDER) else r.last.get entORDER

/-- Relaxed ordering passes when every entry on the way lets it (R112). -/
def Route.roPass (r : Route) : Bool := r.first.get entROPASS = 1 && r.last.get entROPASS = 1

/-- Whether the requester function of the entry by which it leaves may issue it now (R107). -/
def Bridge.mayIssue (b : Bridge) (r : Route) : Bool :=
  r.space ≠ 4 || b.canIssue r.port (r.last.get entRIDFN)

/-- The base job of a piece of a request on a route. WIDTH and CLASS are those of the first entry (log entry 108). The
PASID and the steering tag go only to the host (R105); the enables that govern them are tested when it is issued (R108). -/
def Bridge.pieceJob (b : Bridge) (r : Route) (o : Origin) (src : Src) (id lo hi t : Nat) (op : JobOp) (mark : Nat)
    (ro : Bool) : Job :=
  let x := r.last
  let host := x.get entSPACE = 4
  { id := id, origin := o, src := src, owner := if x.get entDIRECTOR = 1 then none else some (x.get entOWNER),
    director := decide (x.get entDIRECTOR = 1), idx := x.idx, gen := x.get entGEN, space := x.get entSPACE,
    port := x.get entPORT, addr := x.base + t, op := op, off := t, order := r.order, lo := lo, hi := hi,
    mark := mark, cls := decide (r.first.get entCLASS = 1), ro := ro && r.roPass, fn := x.get entRIDFN,
    pasid := if host && x.get entPASIDEN = 1 then some x.pasid else none,
    steer := if host then some (x.get entSTEER) else none,
    via := if r.isPeer then some (r.first.idx, r.first.get entGEN) else none, t0 := b.tick }

/-- Whether EXACT can take a request: exactly one target transaction (R110). A Meridian request holds up to 256 bytes of one
4 KiB page (R270), a host request up to `limit`. -/
def exactOk (space order limit lo hi : Nat) : Bool :=
  let one := fun (l : List (Nat × Nat)) (most : Nat) =>
    match l with
    | [(a, n)] => decide (n ≤ most && a / 4096 = (a + n - 1) / 4096)
    | _ => false
  if space = 0 then one (runs order lo hi) 256 else if space = 4 then one (hostSpans order lo hi) limit
  else decide ((pieces space order limit lo hi).length = 1)

/-- Whether a route's width rule takes a request (R110). -/
def Route.widthOk (r : Route) (limit lo hi : Nat) : Bool := r.first.get entWIDTH ≠ 2 || exactOk r.space r.order limit lo hi

/-- The target transactions of a request at a face under its entry's width rule (R110): EXACT leaves it whole. -/
def Route.cuts (r : Route) (limit lo hi : Nat) : List (Nat × Nat) :=
  if r.first.get entWIDTH = 2 && r.space = 0 then runs r.order lo hi
  else if r.first.get entWIDTH = 2 && r.space = 4 then hostSpans r.order lo hi
  else pieces r.space r.order limit lo hi

end Sys2Proof.Machine
end

