-- ==== Sys2Proof/Machine/Ordering.lean ====
section
/-!
DEFINITION. Tracked writes, arrival, retirement and barriers (R21, R128, R137 to R142, R148).
-/
namespace Sys2Proof.Machine

open Sys2Proof

/-- Every write accepted and not yet acknowledged, wherever it stands (R128, R139). -/
def Bridge.writes (b : Bridge) : List Job :=
  ((b.pbs.filter (fun e => e.kind ≠ .barrier)).map (·.job) ++ b.reqs ++ b.proving
    ++ (b.eng.merTags.filter (fun t => !t.quarantined)).map (·.job) ++ b.eng.merPorts.flatMap (·.waiting)
    ++ b.eng.trn.queue.map (·.job) ++ b.archReqs.filterMap (·.job) ++ b.eng.logWait
    ++ b.eng.queues.flatMap (fun q => q.2.blocked.filterMap (·.job))).filter (fun j => j.op.isWrite && !j.origin.isMessage)

/-- Whether a write of `src` lies in a barrier's scope (R139): 0 engine, 1 dome, 2 system. -/
def inScope (scope : Nat) (by_ src : Src) : Bool :=
  match scope, by_, src with
  | 0, a, c => a = c
  | 1, .hostFn a _, .hostFn c _ => a = c
  | 1, .finder f, .finder g => f / 8 = g / 8
  | 1, _, _ => false
  | _, _, _ => true

/-- A flushing read that follows a write to the host (R21, R140, R173): on its path, to its double word, with its PASID and its
generation (R185), and neither relaxed ordering nor ID-based ordering. -/
def Bridge.flushJob (b : Bridge) (id : Nat) (w : Job) (o : Origin) (src : Src) : Job :=
  { id := id, origin := o, src := src, owner := w.owner, director := w.director, idx := w.idx, gen := w.gen, via := w.via, space := 4,
    port := w.port, addr := w.addr / 4 * 4, op := .flush, off := 0, order := 0, fn := w.fn, pasid := w.pasid, t0 := b.tick }

/-- Whether a job goes the way of a key: Aperture, function, PASID. -/
def Job.onPath (j : Job) (k : Nat × Nat × Option Nat) : Bool := j.space = 4 && (j.port, j.fn, j.pasid) = k

/-- Put a barrier in progress over the writes `cov` (R140). -/
def Bridge.addBarrier (b : Bridge) (bar : Barrier) (cov : List Job) : Bridge :=
  { b with barriers := b.barriers ++ [{ bar with covers := cov.map (·.id) }] }

/-- The paths to the host on which a barrier's flushing read is due (R140): covered writes are unacknowledged there, and every one
of them has been issued. Of each, the last such write. -/
def Bridge.flushesDue (b : Bridge) (x : Barrier) : List Job :=
  let live := b.writes.filter (fun j => x.covers.contains j.id && j.space = 4)
  let last := live.foldl (fun (acc : List Job) j => acc.filter (fun i => !i.onPath (j.port, j.fn, j.pasid)) ++ [j]) []
  last.filter (fun j =>
    !x.flushed.contains (j.port, j.fn, j.pasid) &&
    live.all (fun i => !(i.port = j.port && i.fn = j.fn) || b.proving.any (fun w => w.id = i.id)))

/-- Issue the flushing reads of a barrier that are due. -/
def Bridge.flushBarrier (b : Bridge) (x : Barrier) : Bridge :=
  let due := b.flushesDue x
  if due = [] then b else
  let b := { b with barriers := b.barriers.map (fun y =>
    if y.id = x.id then { y with flushed := y.flushed ++ due.map (fun j => (j.port, j.fn, j.pasid)) } else y) }
  due.foldl (fun (b : Bridge) j =>
    let (id, b) := b.fresh
    b.toTarget { b.flushJob id j (.barFlush x.id) .bridge with owner := none, director := true }) b

/-- Start a barrier of a function (R139 to R141): it covers the writes in scope whose lookup came before its own, which for a read
form was that of the read. The identity of the new barrier. -/
def Bridge.startBarrier (b : Bridge) (ap fn scope form tag : Nat) (chan : Option Nat) (src : Src) (job : Option Job := none) :
    Nat × Bridge :=
  let cov := b.writes.filter (fun j => inScope scope src j.src && (match job with | some r => decide (j.id < r.id) | none => true))
  let seq := (alGet 0 (ap * 4096 + fn) b.barSeq + 1) % 65536
  let (id, b) := b.fresh
  let b := { b with
    barSeq := alPut (ap * 4096 + fn) seq b.barSeq
    barStat := alPut (ap * 4096 + fn) (wmk [(Fld.ordStatus_SCOPE, scope), (Fld.ordStatus_SEQ, seq)]) b.barStat }
  (id, b.addBarrier { id := id, ap := ap, fn := fn, chan := chan, scope := scope, form := form, tag := tag, seq := seq,
                      t0 := b.tick, answered := false, covers := [], fault := none, job := job, sender := none } cov)

/-- The status word of a barrier (R150). -/
def Barrier.word (x : Barrier) (done timedOut : Bool) : Word :=
  let f := (x.fault.getD (0, 0, 0, 0, 0)).2
  wmk [(Fld.ordStatus_DONE, bit done), (Fld.ordStatus_FAULT, bit x.fault.isSome), (Fld.ordStatus_TIMED_OUT, bit timedOut),
    (Fld.ordStatus_SCOPE, x.scope), (Fld.ordStatus_ENTRY, f.1), (Fld.ordStatus_GEN, f.2.1),
    (Fld.ordStatus_SPACE, f.2.2.1), (Fld.ordStatus_PORT, f.2.2.2), (Fld.ordStatus_SEQ, x.seq)]

/-- A barrier completes when no write that it covers is left (R140). -/
def Bridge.barrierDue (b : Bridge) (x : Barrier) : Bool :=
  let live := b.writes.map (·.id)
  x.covers.all (fun i => !live.contains i)

/-- Rewrite every job that has not been reported as ended, wherever it stands. -/
def Bridge.mapJobs (b : Bridge) (f : Job → Job) : Bridge :=
  { b with
    pbs := b.pbs.map (fun e => { e with job := f e.job })
    reqs := b.reqs.map f
    ledger := b.ledger.map (fun e => { e with job := f e.job })
    archReqs := b.archReqs.map (fun r => { r with job := r.job.map f })
    eng := { b.eng with
      merTags := b.eng.merTags.map (fun t => { t with job := f t.job })
      merPorts := b.eng.merPorts.map (fun x => { x with waiting := x.waiting.map f })
      trn := { b.eng.trn with queue := b.eng.trn.queue.map (fun t => { t with job := f t.job }) }
      logWait := b.eng.logWait.map f
      queues := b.eng.queues.map (fun q => (q.1, { q.2 with
        stalled := q.2.stalled.map (fun x => { x with job := x.job.map f })
        blocked := q.2.blocked.map (fun x => { x with job := x.job.map f }) }))
      done := b.eng.done.map (fun p => (f p.1, p.2)) } }

/-- The requests that `p` selects belong to nobody any more: what becomes of them is reported to no channel (R180, R226). -/
def Bridge.forget (b : Bridge) (p : Origin → Bool) : Bridge :=
  b.mapJobs (fun j => if p j.origin then { j with origin := .dead } else j)

/-- Whether an earlier barrier of the same function is still in progress (R140). -/
def Bridge.barrierFirst (b : Bridge) (x : Barrier) : Bool :=
  !b.barriers.any (fun y => y.ap = x.ap && y.fn = x.fn && y.form ≠ 3 && x.form ≠ 3 && y.id < x.id)

/-- Name a failed write in every barrier that covers it, unless it names an earlier one (R142). -/
def Bridge.faultBarriers (b : Bridge) (j : Job) : Bridge :=
  { b with barriers := b.barriers.map (fun x =>
      let first := match x.fault with | some f => decide (j.id < f.1) | none => true
      if x.covers.contains j.id && first then { x with fault := some (j.id, j.idx, j.gen, j.space, j.port) } else x) }

/-- A write retires by timeout: one WRITE_RETIRED record of its own, and the barriers that cover it fault (R142, R437). -/
def Bridge.retireWrite (b : Bridge) (j : Job) : Bridge :=
  (b.record 0x07 .ord j.owner (if j.space = 4 then some j.port else none) (BitVec.ofNat 64 j.addr)
    (packIdx j.idx j.gen j.space j.port)).faultBarriers j

/-- Free the posting-buffer entry of a job (R137). -/
def Bridge.freePb (b : Bridge) (id : Nat) : Bridge :=
  { b with pbs := b.pbs.filter (fun e => e.kind = .barrier || e.job.id ≠ id) }

/-- Whether a flushing read proves a write: it went the same way and was issued before it (R21). -/
def Job.proves (j w : Job) : Bool := w.onPath (j.port, j.fn, j.pasid) && w.sent < j.sent

/-- A flushing read has proved the host writes of its path that were issued before it (R21, R173). -/
def Bridge.proved (b : Bridge) (j : Job) : Bridge := { b with proving := b.proving.filter (fun w => !j.proves w) }

/-- Entries of an Aperture's posting buffer that are waiting, and issued (R151). -/
def Bridge.pbWaiting (b : Bridge) (a : Nat) : Nat := (b.pbs.filter (fun e => e.ap = a && e.kind ≠ .issued)).foldl (fun n e => n + e.width) 0
def Bridge.pbIssued (b : Bridge) (a : Nat) : Nat := (b.pbs.filter (fun e => e.ap = a && e.kind = .issued)).foldl (fun n e => n + e.width) 0

/-- Keep ORD_PB_USE.PEAK (R151). -/
def Bridge.pbPeak (b : Bridge) (a : Nat) : Bridge :=
  b.set (.ordPbUse a) Fld.ordPbUse_PEAK (max (b.get (.ordPbUse a) Fld.ordPbUse_PEAK) (b.pbWaiting a + b.pbIssued a))

/-- Put an entry at the end of a posting buffer. -/
def Bridge.pbPush (b : Bridge) (e : PbEntry) : Bridge := { b with pbs := b.pbs ++ [e] }.pbPeak e.ap

/-- Discard the posting-buffer entries that `p` selects (R148). -/
def Bridge.pbDiscard (b : Bridge) (p : PbEntry → Bool) : Bridge :=
  let n := fun a => (b.pbs.filter (fun e => e.ap = a && p e)).foldl (fun n e => n + e.width) 0
  let b := { b with
    pbs := b.pbs.filter (fun e => !p e)
    reqs := b.reqs.filter (fun j => !(j.origin = .hostWrite && b.pbs.any (fun e => p e && e.job.id = j.id))) }
  (List.range 4).foldl (fun (b : Bridge) a =>
    if n a = 0 then b else (b.bump (.ordDiscard a) Fld.ordDiscard_ENTRIES (n a)).raise .ord 3) b

/-! The tag ledger (R81 to R85). -/

/-- Entries an Aperture, an instance, a finder holds, quarantined included. -/
def Bridge.ledgerHeld (b : Bridge) (p : LedgerEntry → Bool) : Nat := (b.ledger.filter p).length

/-- Whether a read of the job may take a ledger entry now (R82). -/
def Bridge.ledgerRoom (b : Bridge) (j : Job) : Bool :=
  b.ledgerHeld (fun e => e.ap = j.port) < b.get (.aptLedgerCfg j.port) Fld.aptLedgerCfg_QUOTA &&
  (match j.src with | .finder f => b.ledgerHeld (fun e => e.finder = some f) < 64 | _ => true) &&
  (match j.owner with
    | some v => b.ledgerHeld (fun e => e.charged && e.job.owner = some v) < b.get (.viRes v) Fld.viRes_LEDGER_QUOTA
    | none => true)

/-- The tag of a ledger index on an Aperture (R81): 14 bits in FLIT mode, else the low 10 or 8 bits. -/
def Bridge.ledgerTag (b : Bridge) (ap i : Nat) : Nat :=
  if b.get (.aptLinkEff ap) Fld.aptLinkEff_FLIT = 1 then i
  else if b.cfgGet ap 0 .tag10Enable = 1 then i % 1024 else i % 256

/-- Whether the standard permits a tag: a 10-bit tag has bits 9:8 other than 00. -/
def Bridge.tagPermitted (b : Bridge) (ap i : Nat) : Bool :=
  b.get (.aptLinkEff ap) Fld.aptLinkEff_FLIT = 1 || b.cfgGet ap 0 .tag10Enable = 0 || 256 ≤ i % 1024

/-- The lowest free ledger index whose tag the standard permits and no other outstanding request of the same function holds
(R81, R85), among the entries whose shutter is open (R12). -/
def Bridge.ledgerFree (b : Bridge) (j : Job) : Option Nat :=
  firstFree (fun i => !b.tagPermitted j.port i || !b.domsOpen [85 + i / 8192] || b.ledger.any (fun e => e.idx = i ||
      (e.ap = j.port && e.job.fn = j.fn && b.ledgerTag e.ap e.idx = b.ledgerTag j.port i))
    || b.freed.any (fun x => x.port = 4 && x.tag = i && x.tick = b.tick)) 16384 0

/-- Quarantine the held ledger entries that `p` selects, for the window [a, a + Q) (R83). -/
def Bridge.quarantineLedger (b : Bridge) (p : LedgerEntry → Bool) : Bridge :=
  { b with ledger := b.ledger.map (fun e =>
      if !e.quarantined && p e then { e with quarantined := true, until_ := b.tick + b.cplTimeout e.ap + 50000 } else e) }

end Sys2Proof.Machine
end

