-- ==== Sys2Proof/Machine/Finders.lean ====
section
/-!
DEFINITION. Channels and finders: register sets, arming and promotion, cutting and placing, taking and stealing, bursts,
the completion gate, failures and recovery (R153 to R195).
-/
namespace Sys2Proof.Machine

open Sys2Proof

/-! Access to a channel. -/

/-- The hidden state of channel `c`. -/
def Bridge.chan (b : Bridge) (c : Nat) : Chan :=
  (b.eng.chans.find? (fun x => x.c = c)).getD
    { c := c, segs := [], step := .open_, skips := 0, status := 0, noPromote := false, sums := [], barrier := none,
      barrierDone := false, haltAtEnd := none, firstFault := none, held := none, haltTick := 0, loading := false, loadGot := [],
      fixedFinder := none, loadTick := 0 }

/-- Write the hidden state of a channel. -/
def Bridge.putChan (b : Bridge) (x : Chan) : Bridge :=
  { b with eng := { b.eng with chans := listPut (fun y => y.c = x.c) x b.eng.chans } }

/-- A field of the active set. -/
def Bridge.act (b : Bridge) (c w : Nat) (f : Fld) : Nat := b.get (.fndActive c w) f

def Bridge.chState (b : Bridge) (c : Nat) : Nat := b.get (.fndChStatus c) Fld.fndChStatus_STATE
def Bridge.chShadow (b : Bridge) (c : Nat) : Nat := b.get (.fndChStatus c) Fld.fndChStatus_SHADOW
def Bridge.setChState (b : Bridge) (c n : Nat) : Bridge := b.set (.fndChStatus c) Fld.fndChStatus_STATE n
def Bridge.setShadow (b : Bridge) (c n : Nat) : Bridge := b.set (.fndChStatus c) Fld.fndChStatus_SHADOW n

/-- Whether a segment is on a finder. -/
def Seg.taken (s : Seg) : Bool := match s.st with | .taken _ => true | _ => false
def Seg.finder (s : Seg) : Option Nat := match s.st with | .taken f => some f | _ => none

/-- QUIET: no segment of the channel in flight (R184). -/
def Bridge.quiet (b : Bridge) (c : Nat) : Bool := !(b.chan c).segs.any Seg.taken

/-- Segment `i` of channel `c`. -/
def Bridge.seg (b : Bridge) (c i : Nat) : Option Seg := (b.chan c).segs.find? (fun s => s.idx = i)

/-- Write a segment. -/
def Bridge.putSeg (b : Bridge) (c : Nat) (s : Seg) : Bridge :=
  let x := b.chan c
  b.putChan { x with segs := x.segs.map (fun t => if t.idx = s.idx then s else t) }

/-- Size of VF BAR2 of an instance; 0 when it has none. -/
def Bridge.bar2Size (b : Bridge) (v : Nat) : Nat :=
  if b.regionOn (slotVf (b.viAp v) 2) then b.regionSize (slotVf (b.viAp v) 2) else 0

/-! Arming (R158). -/

/-- A side used over `n` bytes lies within BAR2, or is a host side. -/
def Bridge.sideOk (b : Bridge) (v : Nat) (side : Word) (n : Nat) : Bool :=
  wget side Fld.fndSetSrc_HOST = 1 || wget side Fld.fndSetSrc_ADDR + n ≤ b.bar2Size v

/-- The first failing check of R158 on eight words, 0 when all pass. With CHECK 0 there is nothing to store, so that CHECK_ADDR is
not used, whatever CHECK_STORE says (DEDUCED, log entry 109). -/
def Bridge.armCheck (b : Bridge) (c : Nat) (ws : List Word) : Nat :=
  let w := fun i => ws.getD i 0
  let ctrl := fun f => wget (w 3) f
  let sm := ctrl Fld.fndSetCtrl_SRC_MODE
  let dm := ctrl Fld.fndSetCtrl_DST_MODE
  let len := wget (w 2) Fld.fndSetLen_LENGTH
  let el := wget (w 2) Fld.fndSetLen_ELEM_LOG2
  let e := 2 ^ el
  let patterned := sm ≠ 0 || dm ≠ 0
  let idx := sm = 2 || dm = 2
  let ck := ctrl Fld.fndSetCtrl_CHECK
  let store := ctrl Fld.fndSetCtrl_CHECK_STORE = 1 && ck ≠ 0
  let crec := ctrl Fld.fndSetCtrl_CREC_EN = 1
  let next := ctrl Fld.fndSetCtrl_NEXT_EN = 1
  let addr := fun i => wget (w i) Fld.fndSetSrc_ADDR
  let span := fun m => if m = 0 then len else if m = 1 then e else 1
  match b.chanOwner c with
  | none => 1
  | some v =>
    if sm = 3 || dm = 3 || 4 ≤ ck || (patterned && (el < 3 || 12 < el)) then 2
    else if sm = 2 && dm = 2 then 3
    else if len = 0 || (patterned && len % e ≠ 0) || (idx && 65536 < len / e) then 4
    else if (sm ≠ 0 && addr 0 % e ≠ 0) || (dm ≠ 0 && addr 1 % e ≠ 0) || (idx && addr 4 % 4 ≠ 0)
      || (store && addr 5 % checkSize ck ≠ 0) || (crec && addr 6 % 32 ≠ 0) || (next && addr 7 % 64 ≠ 0) then 5
    else if !(b.sideOk v (w 0) (span sm) && b.sideOk v (w 1) (span dm) && (!idx || b.sideOk v (w 4) (4 * (len / e)))
      && (!store || b.sideOk v (w 5) (checkSize ck)) && (!crec || b.sideOk v (w 6) 32)
      && (!next || b.sideOk v (w 7) 64)) then 6
    else if ctrl Fld.fndSetCtrl_IRQ_EN = 1 && b.viVectors v ≤ ctrl Fld.fndSetCtrl_VECTOR then 7
    else 0

/-! Cutting and placing (R187, R188). -/

/-- The next cut after stream offset `o`: a multiple of the segment size, a field boundary of a local incrementing side,
or the end. -/
def nextCut (len s : Nat) (sides : List (Nat × Nat)) (o : Nat) : Nat :=
  sides.foldl (fun n p => min n (o + (p.2 - (p.1 + o) % p.2))) (min len (o + (s - o % s)))

/-- Cut [o, len) into (offset, length). -/
def cutStream (len s : Nat) (sides : List (Nat × Nat)) : Nat → Nat → List (Nat × Nat)
  | 0, _ => []
  | fuel + 1, o =>
    if len ≤ o then [] else let n := nextCut len s sides o; (o, n - o) :: cutStream len s sides fuel n

/-- A segment not yet placed. -/
def Seg.new (i off len prio dome : Nat) (pinned : Bool) : Seg :=
  { idx := i, off := off, len := len, st := .unplaced, prio := prio, pinned := pinned, dome := dome, seqNo := 0,
    snap := [], next := off, reads := 0, writes := 0, flushes := 0, hostPaths := [], got := [], table := [], tableGot := [],
    lastBeat := 0, written := 0, turn := 0 }

/-- The segments of the active transfer (R166, R187). -/
def Bridge.cutTransfer (b : Bridge) (c v : Nat) : List Seg :=
  let len := b.act c 2 Fld.fndSetLen_LENGTH
  let sm := b.act c 3 Fld.fndSetCtrl_SRC_MODE
  let dm := b.act c 3 Fld.fndSetCtrl_DST_MODE
  let single := sm ≠ 0 || dm ≠ 0
  let fs := 2 ^ b.region (slotVf (b.viAp v) 2) regFS
  let sides := [(0, sm), (1, dm)].filterMap (fun (p : Nat × Nat) =>
    if p.2 = 0 && b.act c p.1 Fld.fndSetSrc_HOST = 0 then some (b.act c p.1 Fld.fndSetSrc_ADDR, fs) else none)
  let cuts := if single then [(0, len)] else cutStream len (2 ^ b.get .dspSegCfg Fld.dspSegCfg_SEG_LOG2) sides len 0
  cuts.zipIdx.map (fun p => Seg.new p.2 p.1.1 p.1.2 0 0 (single || b.act c 3 Fld.fndSetCtrl_IN_ORDER = 1))

/-- Segments waiting on the run list of a dome, with their channels. -/
def Bridge.runList (b : Bridge) (d : Nat) : List (Nat × Seg) :=
  b.eng.chans.flatMap (fun x => (x.segs.filter (fun s => s.st = .waiting && s.dome = d)).map (fun s => (x.c, s)))

/-- The effective priority of a channel's transfer (R168). -/
def Bridge.effPrio (b : Bridge) (c : Nat) : Nat :=
  let ceil := match b.chanOwner c with | some v => b.get (.dspViShare v) Fld.dspViShare_PRIO_CEIL | none => 7
  min (b.act c 3 Fld.fndSetCtrl_PRIO) ceil

/-- Place the channel's next segment when its window, the list and the mode allow; whether one was placed (R188,
R402, R441). -/
def Bridge.placeOne (b : Bridge) (c : Nat) : Bridge × Bool :=
  let d := b.get (.fndChCtrl c) Fld.fndChCtrl_HOME_DOME
  match (b.chan c).segs.find? (fun s => s.st = .unplaced) with
  | none => (b, false)
  | some s =>
    let mine := ((b.runList d).filter (fun p => p.1 = c)).length
    if b.mode = 10 || b.mode = 11 || b.chState c ≠ 1 || b.get (.dspDomeCfg d) Fld.dspDomeCfg_CH_WINDOW ≤ mine then (b, false)
    else if 512 ≤ (b.runList d).length then (b.raise .dsp 1, false)
    else
      let (n, b) := b.fresh
      ((b.putSeg c { s with st := .waiting, dome := d, prio := b.effPrio c, seqNo := n }).needDom d, true)

/-- The channels that have a segment to place on the list of dome `d`, from the one after the last served on (R188). -/
def Bridge.placers (b : Bridge) (d : Nat) : List Nat :=
  let cs := sortBy id ((b.eng.chans.filter (fun x => b.get (.fndChCtrl x.c) Fld.fndChCtrl_HOME_DOME = d &&
    x.segs.any (fun s => s.st = .unplaced))).map (·.c))
  let last := alGet 0 d b.eng.placeAt
  cs.filter (fun c => last < c) ++ cs.filter (fun c => c ≤ last)

/-- One turn of a dome's round robin: the first channel that may place a segment places one; whether one was placed. -/
def Bridge.placeTurn (b : Bridge) (d : Nat) : List Nat → Bridge × Bool
  | [] => (b, false)
  | c :: l =>
    let (b, ok) := b.placeOne c
    if ok then ({ b with eng := { b.eng with placeAt := alPut d c b.eng.placeAt } }, true) else Bridge.placeTurn b d l

/-- Serve the channels of a dome round robin, one segment a turn, while there is room (R188). -/
def Bridge.placeDome (b : Bridge) (d : Nat) : Nat → Bridge
  | 0 => b
  | fuel + 1 => let (b, ok) := b.placeTurn d (b.placers d); if ok then Bridge.placeDome b d fuel else b

/-- Place what may be placed on the list of a channel's home dome; it holds at most 512 segments. -/
def Bridge.place (b : Bridge) (c : Nat) : Bridge := b.placeDome (b.get (.fndChCtrl c) Fld.fndChCtrl_HOME_DOME) 513

/-! Side accesses. -/

/-- Where a side address leads: a host address, or a route of the catalogue. -/
inductive SideT where
  | host (addr : Nat)
  | loc (r : Route)

/-- A side address that leads nowhere (R121): what CAT_MISS_LAST shows of it, and the generation of the disabled entry. -/
structure Miss where
  disabled : Bool
  addr : Nat
  src : Nat
  port : Nat
  gen : Nat

/-- The GEN that a host side carries: that of the owner's VF BAR0 entry (R185). -/
def Bridge.hostSideEntry (b : Bridge) (v : Nat) : Nat := b.viGrant v

/-- The way out of an entry: itself, or the entry of the peer region behind SPACE 0x5 (R103, R117); the source is that of
Aperture `ap`. -/
def Bridge.routeOf (b : Bridge) (ap : Nat) (x : Xlat) : Route ⊕ Miss :=
  if x.get entSPACE ≠ 5 then .inl x.route else
  let p := x.base + x.off
  match b.lookup (slotPeer (p / 2 ^ 48)) (p % 2 ^ 48) 1 with
  | none => .inr ⟨false, p, 3, ap, 0⟩
  | some y => if b.entOpen y.idx then .inl ⟨x, y⟩ else .inr ⟨true, p, 3, ap, y.get entGEN⟩

/-- Translate `n` bytes at a side address (R156, R157, R165): the entry must be there, enabled and hold them whole. A finder has no
port of its own, so that PORT of a miss is 0 (log entry 110). -/
def Bridge.sideX (b : Bridge) (v : Nat) (host : Bool) (addr n : Nat) : SideT ⊕ Miss :=
  if host then
    (if b.entOpen (b.hostSideEntry v) then .inl (.host addr) else .inr ⟨true, addr, 4, 0, b.ent (b.hostSideEntry v) entGEN⟩)
  else match b.lookupVf v addr n with
    | some x =>
      if b.entOpen x.idx then (match b.routeOf (b.viAp v) x with | .inl r => .inl (.loc r) | .inr m => .inr m)
      else .inr ⟨true, addr, 4, 0, x.get entGEN⟩
    | none => .inr ⟨false, addr, 4, 0, 0⟩

/-- Translate a side word. -/
def Bridge.sideOf (b : Bridge) (v : Nat) (side : Word) (n : Nat) : SideT ⊕ Miss :=
  b.sideX v (decide (wget side Fld.fndSetSrc_HOST = 1)) (wget side Fld.fndSetSrc_ADDR) n

/-- Count and record a side address that leads nowhere. -/
def Bridge.missed (b : Bridge) (m : Miss) : Bridge := b.catMiss m.disabled m.addr m.src m.port

/-- The generation under which a request through a side goes (R185). -/
def Bridge.sideGen (b : Bridge) (v : Nat) : SideT → Nat
  | .host _ => b.ent (b.hostSideEntry v) entGEN
  | .loc r => r.first.get entGEN

/-- A job on a host side of a channel (R157); the enables of its function are tested when it is issued (R108). -/
def Bridge.hostSideJob (b : Bridge) (v : Nat) (set : Nat → Word) (o : Origin) (src : Src) (id addr off n : Nat) (op : JobOp)
    (ro : Bool) : Job :=
  let e := b.hostSideEntry v
  { id := id, origin := o, src := src, owner := some v, director := false, idx := e, gen := b.ent e entGEN, space := 4,
    port := b.viAp v, addr := addr, op := op, off := off, order := 0, lo := 0, hi := n, ro := ro, fn := b.viVf v,
    pasid := if wget (set 3) Fld.fndSetCtrl_PASID_EN = 1 then some (wget (set 2) Fld.fndSetLen_PASID) else none,
    steer := if wget (set 3) Fld.fndSetCtrl_STEER_EN = 1 then some (wget (set 3) Fld.fndSetCtrl_STEER) else none,
    t0 := b.tick }

/-- Hand pieces to their target, each under a fresh identity. -/
def Bridge.sendPieces (b : Bridge) (mk : Nat → Nat → Nat → Job) : List (Nat × Nat) → Bridge
  | [] => b
  | (t, n) :: l => let (id, b) := b.fresh; Bridge.sendPieces (b.toTarget (mk id t n)) mk l

/-- Issue an access of `n` bytes at a translated side; `op` gives the operation of the bytes from request offset `k` on. The
number of requests, or the cause why none can be issued. `mark` is used toward Meridian. -/
def Bridge.useSide (b : Bridge) (v : Nat) (set : Nat → Word) (o : Origin) (src : Src) (t : SideT) (n : Nat) (write : Bool)
    (op : Nat → Nat → Nat → Nat → JobOp) (mark : Nat) (ro : Bool) : Bridge × (Nat ⊕ Cause) :=
  match t with
  | .host addr =>
    if !b.canIssue (b.viAp v) (b.viVf v) then (b, .inr .masterDisabled) else
    let ps := hostCuts (b.hostLimit (b.viAp v) write) addr n
    (b.sendPieces (fun id a k => b.hostSideJob v set o src id a (a - addr) n (op 0 0 (a - addr) k) ro) ps, .inl ps.length)
  | .loc r =>
    if !b.mayIssue r then (b, .inr .masterDisabled) else
    let lo := r.last.off
    let ps := pieces r.space r.order (b.hostLimit r.port write) lo (lo + n)
    (b.sendPieces (fun id a k => b.pieceJob r o src id lo (lo + n) a (op r.order lo a k) mark ro) ps, .inl ps.length)

/-- Issue a read of `n` bytes at a translated side. -/
def Bridge.readSide (b : Bridge) (v : Nat) (set : Nat → Word) (o : Origin) (src : Src) (t : SideT) (n : Nat) :
    Bridge × (Nat ⊕ Cause) :=
  b.useSide v set o src t n false (fun _ _ _ k => .read k) 0 false

/-- Issue a write of bytes at a translated side. -/
def Bridge.writeSide (b : Bridge) (v : Nat) (set : Nat → Word) (o : Origin) (src : Src) (t : SideT) (d : List Byte) (mark : Nat)
    (ro : Bool) : Bridge × (Nat ⊕ Cause) :=
  b.useSide v set o src t d.length true (fun order lo a k => .write (pieceData order lo (d.map some) a k) false) mark ro

/-! Halting (R177). -/

/-- The number of a cause (R177). -/
def Cause.code : Cause → Nat
  | .catalogue => 1 | .completionTimeout => 2 | .unsupported => 3 | .completerAbort => 4 | .poisoned => 5
  | .unmapped => 6 | .tgtFault => 7 | .merTimeout => 8 | .transitError => 9 | .archiveTimeout => 10
  | .transitTimeout => 9 | .exactRefused => 7 | .masterDisabled => 11 | .watchdog => 12 | .hopLimit => 13 | .descriptor => 14 | .ecrc => 15 | .poisonDrop => 16
  | .logbookRefused => 17

/-- Halt a channel: latch the failure or set MORE, withhold what is not taken, raise the vector and HALT, write the
record (R176, R177). -/
def Bridge.haltChan (b : Bridge) (c dir : Nat) (cause : Cause) (addr : Word) (seg gen : Nat) (table : Bool) : Bridge :=
  if b.get (.fndChFaultInfo c) Fld.fndChFaultInfo_VALID = 1 && b.chState c = 2 then
    b.set (.fndChFaultInfo c) Fld.fndChFaultInfo_MORE 1
  else
    let x := b.chan c
    let b := b.putChan { x with
      segs := x.segs.map (fun s => if s.st = .unplaced || s.st = .waiting then { s with st := .withheld } else s)
      haltTick := b.tick
      held := none }
    let b := (b.setChState c 2).put (.fndChFaultAddr c) addr
    let b := b.put (.fndChFaultInfo c) (wmk [(Fld.fndChFaultInfo_DIRECTION, dir), (Fld.fndChFaultInfo_TABLE, bit table),
      (Fld.fndChFaultInfo_CAUSE, cause.code), (Fld.fndChFaultInfo_SEGMENT, seg), (Fld.fndChFaultInfo_GEN, gen),
      (Fld.fndChFaultInfo_VALID, 1)])
    let v := b.chanOwner c
    let b := match v with
      | some v => if b.act c 3 Fld.fndSetCtrl_IRQ_EN = 1 then
          b.raiseVector (b.viAp v) (b.viVf v) (b.act c 3 Fld.fndSetCtrl_VECTOR) else b
      | none => b
    (b.raise .fnd 0).record 0x08 .fnd v (v.map (fun v => b.viAp v)) addr
      (wmk [(⟨0, 13⟩, c), (⟨16, 3⟩, dir), (⟨19, 5⟩, cause.code), (⟨24, 8⟩, gen), (⟨32, 32⟩, seg)])

/-- Finder `f`; unclocked until it takes a segment. -/
def Bridge.finder (b : Bridge) (f : Nat) : Finder := (b.eng.finders.find? (fun x => x.f = f)).getD ⟨f, false, 0, 0, 0⟩

/-- Write a finder. -/
def Bridge.putFinder (b : Bridge) (x : Finder) : Bridge :=
  { b with eng := { b.eng with finders := listPut (fun y => y.f = x.f) x b.eng.finders } }

/-- A segment of finder `f` has ended (R186, R407). -/
def Bridge.segEnded (b : Bridge) (f : Nat) : Bridge :=
  (b.bump (.fndFinderStat f) Fld.fndFinderStat_SEGMENTS).putFinder { b.finder f with idleSince := b.tick }

/-- A segment has failed (R177): direction 0 read, 1 write. -/
def Bridge.failSeg (b : Bridge) (c i dir : Nat) (cause : Cause) (addr : Word) (gen : Nat) (table : Bool) : Bridge :=
  match b.seg c i with
  | none => b
  | some s =>
    if s.st = .failed then b.set (.fndChFaultInfo c) Fld.fndChFaultInfo_MORE 1 else
    let b := match s.finder with | some f => b.segEnded f | none => b
    (b.putSeg c { s with st := .failed }).haltChan c dir cause addr i gen table

/-! Promotion and autoload (R160 to R163). -/

/-- The words of the active set. -/
def Bridge.activeSet (b : Bridge) (c : Nat) : Nat → Word := fun w => b.raw (.fndActive c w)

/-- An autoload has failed or cannot start (R162, R163): the channel halts when its transfer has ended, at once when none is in
progress. -/
def Bridge.loadFailed (b : Bridge) (c : Nat) (e : Cause) (gen : Nat) : Bridge :=
  let b := b.putChan { b.chan c with loading := false }
  if b.chState c = 0 then b.haltChan c 2 e (b.raw (.fndActive c 7)) 0 gen false
  else b.putChan { b.chan c with haltAtEnd := some (2, e, gen) }

/-- Start an autoload when the active set asks for one and the shadow is EMPTY or LOADED (R161, R162). -/
def Bridge.startAutoload (b : Bridge) (c v : Nat) : Bridge :=
  if b.act c 3 Fld.fndSetCtrl_NEXT_EN = 0 || 2 ≤ b.chShadow c then b else
  if b.get (.fndChStatus c) Fld.fndChStatus_HOPS = b.get (.fndChCtrl c) Fld.fndChCtrl_HOP_LIMIT then
    (b.raise .fnd 2).loadFailed c .hopLimit 0
  else
    let b := (b.setShadow c 3).inc (.fndChStatus c) Fld.fndChStatus_HOPS
    let b := b.putChan { b.chan c with loading := true, loadGot := [], loadTick := b.tick }
    match b.sideOf v (b.raw (.fndActive c 7)) 64 with
    | .inr m => ((b.missed m).setShadow c 1).loadFailed c .catalogue m.gen
    | .inl t =>
      match b.readSide v (b.activeSet c) (.descriptor c) .bridge t 64 with
      | (b, .inl _) => b
      | (b, .inr e) => (b.setShadow c 1).loadFailed c e (b.sideGen v t)

/-- Promote the shadow (R160): the transfer becomes ACTIVE, is cut, placed, and may start an autoload. -/
def Bridge.promote (b : Bridge) (c v : Nat) : Bridge :=
  let b := (List.range 8).foldl (fun (b : Bridge) w => b.put (.fndActive c w) (b.raw (.fndShadow c w))) b
  let b := ((b.setShadow c 0).setChState c 1).put (.fndChProgress c) 0
  let b := b.putChan { b.chan c with
    segs := b.cutTransfer c v, step := .open_, skips := 0, status := 0, noPromote := false, sums := [], barrier := none,
    barrierDone := false, haltAtEnd := none, firstFault := none, held := none, fixedFinder := none }
  let b := if b.act c 3 Fld.fndSetCtrl_CHECK ≠ 0 then b.needDom 94 else b
  (b.place c).startAutoload c v

/-! The completion gate (R22, R171, R174 to R176). -/

/-- Bytes from 0 up to which every segment has arrived. -/
def progressOf : List Seg → Nat
  | [] => 0
  | s :: l => if s.st = .arrived then s.len + progressOf l else 0

/-- Step 3 of R22: SEQ advances, the vector is raised, an ARMED shadow is promoted; a halt that is due comes now. -/
def Bridge.step3 (b : Bridge) (c v : Nat) : Bridge :=
  let x := b.chan c
  let b := b.inc (.fndChStatus c) Fld.fndChStatus_SEQ
  let b := if b.act c 3 Fld.fndSetCtrl_IRQ_EN = 1 then
    b.raiseVector (b.viAp v) (b.viVf v) (b.act c 3 Fld.fndSetCtrl_VECTOR) else b
  let b := (b.setChState c 0).putChan { x with segs := [], step := .open_ }
  if x.noPromote then (if b.chShadow c = 2 then b.setShadow c 1 else b) else
  match x.haltAtEnd with
  | some (d, e, gen) =>
    (b.putChan { b.chan c with haltAtEnd := none }).haltChan c d e (b.raw (.fndActive c 7)) 0 gen false
  | none => if b.chShadow c = 2 then b.promote c v else b

/-- The combined checksum of the transfer (R170). -/
def Bridge.checksum (b : Bridge) (c : Nat) : Nat :=
  let l := sortBy (·.1) (b.chan c).sums
  combineSums (b.act c 3 Fld.fndSetCtrl_CHECK) (b.act c 2 Fld.fndSetLen_LENGTH) (l.map (fun p => (p.2.1, p.2.2)))

/-- The failure that a channel latches now: direction, cause and side address. -/
def Bridge.latched (b : Bridge) (c : Nat) : Option (Nat × Nat × Word) :=
  if b.get (.fndChFaultInfo c) Fld.fndChFaultInfo_VALID = 1 then
    some (b.get (.fndChFaultInfo c) Fld.fndChFaultInfo_DIRECTION, b.get (.fndChFaultInfo c) Fld.fndChFaultInfo_CAUSE,
      b.raw (.fndChFaultAddr c))
  else none

/-- The completion record (R174): of a transfer that did not end well it names the first failure that was not recovered. -/
def Bridge.crecWords (b : Bridge) (c v status : Nat) : List Word :=
  let x := b.chan c
  let (dir, cause, addr) := if status = 0 then (0, 0, 0) else ((x.firstFault.or (b.latched c)).getD (0, 0, 0))
  let ck := b.act c 3 Fld.fndSetCtrl_CHECK
  [wmk [(⟨0, 8⟩, status), (⟨8, 13⟩, c), (⟨21, 11⟩, v), (⟨32, 16⟩, b.get (.fndChStatus c) Fld.fndChStatus_SEQ + 1),
      (⟨48, 16⟩, min x.skips 65535)],
   wmk [(⟨0, 36⟩, b.get (.fndChProgress c) Fld.fndChProgress_BYTES), (⟨36, 3⟩, dir), (⟨39, 5⟩, cause)],
   if status = 0 && ck ≠ 0 then BitVec.ofNat 64 (b.checksum c) else 0,
   addr]

/-- Write a completion record of four words to a translated side (R136, R175): to a logbook field as one packet, through the PACKET
window of the queue whose page the address names; release-marked toward Meridian. -/
def Bridge.sendCrec (b : Bridge) (c v : Nat) (t : SideT) (ws : List Word) : Bridge × (Nat ⊕ Cause) :=
  match t with
  | .loc r =>
    if r.space = 3 then
      let (id, b) := b.fresh
      let q := (r.last.base + r.last.off) / 4096
      (b.toTarget { b.pieceJob r (.crec c) .bridge id r.last.off (r.last.off + 32) r.last.off
        (.write ((bytesOfWords ws).map some) false) 0 false with addr := 4096 * q + 0x100 }, .inl 1)
    else b.writeSide v (b.activeSet c) (.crec c) .bridge t (bytesOfWords ws) 2 false
  | _ => b.writeSide v (b.activeSet c) (.crec c) .bridge t (bytesOfWords ws) 0 false

/-- Write the completion record, or go on to step 3 when none is asked for (R175). -/
def Bridge.writeCrec (b : Bridge) (c v : Nat) : Bridge :=
  let b := b.putChan { b.chan c with step := .record }
  if b.act c 3 Fld.fndSetCtrl_CREC_EN = 0 then b.step3 c v else
  let side := b.raw (.fndActive c 6)
  match b.sideOf v side 32 with
  | .inr m => (b.missed m).haltChan c 4 .catalogue side 0 m.gen false
  | .inl t =>
    match b.sendCrec c v t (b.crecWords c v (b.chan c).status) with
    | (b, .inl _) => b
    | (b, .inr e) => b.haltChan c 4 e side 0 (b.sideGen v t) false

/-- The gate has closed: store the checksum when one is to be stored (R171), then go on to the record. -/
def Bridge.closeGate (b : Bridge) (c v : Nat) : Bridge :=
  let b := b.setChState c 3
  let x := b.chan c
  let ck := b.act c 3 Fld.fndSetCtrl_CHECK
  let b := b.putChan { x with status := if x.status = 0 && 0 < x.skips then 1 else x.status }
  if ck = 0 || b.act c 3 Fld.fndSetCtrl_CHECK_STORE = 0 || 0 < x.skips || x.status ≠ 0 then b.writeCrec c v else
  let side := b.raw (.fndActive c 5)
  let b := b.putChan { b.chan c with step := .store }
  match b.sideOf v side (checkSize ck) with
  | .inr m => (b.missed m).haltChan c 3 .catalogue side 0 m.gen false
  | .inl t =>
    match b.writeSide v (b.activeSet c) (.checkStore c) .bridge t (bytesOfNat (checkSize ck) (b.checksum c)) 0 false with
    | (b, .inl _) => b
    | (b, .inr e) => b.haltChan c 3 e side 0 (b.sideGen v t) false

/-- Close the gate when every segment of an ACTIVE channel has arrived or was skipped (R22); the combiner's domain must be open
when there is a checksum (R26). -/
def Bridge.checkGate (b : Bridge) (c : Nat) : Bridge :=
  match b.chanOwner c with
  | some v =>
    if b.chState c = 1 && (b.chan c).segs.all (fun s => s.st = .arrived || s.st = .skipped) &&
        (b.act c 3 Fld.fndSetCtrl_CHECK = 0 || b.domsOpen [94]) then b.closeGate c v else b
  | none => b

/-! Bursts (R164, R165, R195). -/

/-- The side address of stream byte `i` (R164). -/
def sideAt (mode addr e : Nat) (table : List Nat) (i : Nat) : Nat :=
  if mode = 0 then addr + i else if mode = 1 then addr + i % e else addr + table.getD (i / e) 0 + i % e

/-- Contiguous stream runs of bytes given by index. -/
def streamRuns : List (Nat × Byte) → List (Nat × List Byte)
  | [] => []
  | (i, v) :: l =>
    match streamRuns l with
    | (k, d) :: r => if k = i + 1 then (i, v :: d) :: r else (i, [v]) :: (k, d) :: r
    | [] => [(i, [v])]

/-- Add runs to the bytes that a segment holds, in stream order. -/
def mergeRuns (rs : List (Nat × List Byte)) : List (Nat × List Byte) :=
  streamRuns (sortBy (·.1) (rs.flatMap (fun r => r.2.zipIdx.map (fun p => (r.1 + p.2, p.1)))))

/-- Length of the burst that starts at a translated side with `n` bytes to go: up to the first boundary that its target
needs (R110, R187). -/
def Bridge.sideSpan (b : Bridge) (v : Nat) (t : SideT) (write : Bool) (n : Nat) : Nat :=
  let host := fun (ap a : Nat) =>
    let lim := max 1 (b.hostLimit ap write)
    min n (min (4096 - a % 4096) (lim - a % lim))
  match t with
  | .host a => host (b.viAp v) a
  | .loc r =>
    let o := r.last.off
    if r.space = 0 then min n (256 - o % 256)
    else if r.space = 1 then min n (8 * (o / 8 + burstAt (o / 8) ((o + n + 7) / 8 - o / 8)) - o)
    else if r.space = 4 then host r.port o
    else n

/-- The mode of a transfer's source or destination, and its element size. -/
def Bridge.sideMode (b : Bridge) (c : Nat) (write : Bool) : Nat :=
  b.act c 3 (if write then Fld.fndSetCtrl_DST_MODE else Fld.fndSetCtrl_SRC_MODE)
def Bridge.elemSize (b : Bridge) (c : Nat) : Nat := 2 ^ b.act c 2 Fld.fndSetLen_ELEM_LOG2

/-- Whether a transfer's source or destination is a host side. -/
def Bridge.sideHost (b : Bridge) (c : Nat) (write : Bool) : Bool := b.act c (bit write) Fld.fndSetSrc_HOST = 1

/-- The side at stream offset `o` of a segment, with the bytes that stay contiguous there (R164, R165, R166): its address, and
where that many bytes lead under the catalogue with which the segment was taken (R117). An element of an index side must lie
within one field. -/
def Bridge.sideFor (b : Bridge) (c v : Nat) (s : Seg) (write : Bool) (o : Nat) : Nat × Nat × (SideT ⊕ Miss) :=
  let mode := b.sideMode c write
  let e := b.elemSize c
  let host := b.sideHost c write
  let a := sideAt mode (b.act c (bit write) Fld.fndSetSrc_ADDR) e s.table o
  let fs := 2 ^ b.region (slotVf (b.viAp v) 2) regFS
  let n := min (s.off + s.len - o) (if mode ≠ 0 then e - o % e else if host then s.len else fs - a % fs)
  let k := b.under s
  (a, n,
    match (if mode = 2 && !host then k.sideX v false (a - o % e) e else .inl (.host 0)) with
    | .inr m => .inr m
    | .inl _ => k.sideX v host a n)

/-- A side word: its address with bit 63 for a host side (R156). -/
def Bridge.sideBits (b : Bridge) (c a : Nat) (write : Bool) : Word :=
  wmk [(Fld.fndSetSrc_ADDR, a), (Fld.fndSetSrc_HOST, b.act c (bit write) Fld.fndSetSrc_HOST)]

/-- The side word of stream offset `o` of a segment. -/
def Bridge.sideWord (b : Bridge) (c : Nat) (s : Seg) (write : Bool) (o : Nat) : Word :=
  b.sideBits c (sideAt (b.sideMode c write) (b.act c (bit write) Fld.fndSetSrc_ADDR) (b.elemSize c) s.table o) write

/-- Whether a transfer has an index side. -/
def Bridge.indexed (b : Bridge) (c : Nat) : Bool := b.sideMode c false = 2 || b.sideMode c true = 2

/-- A burst that a segment could issue next: its side word, whether it reads the index table, and where it leads with its
length. -/
structure Burst where
  side : Word
  table : Bool
  dest : (SideT × Nat) ⊕ Miss

/-- The next write burst of a segment, once its bytes have been read and no barrier holds it (R166, R167, R187); an index
destination waits for its table. -/
def Bridge.nextWrite (b : Bridge) (c v : Nat) (s : Seg) : Option Burst :=
  let x := b.chan c
  let o := s.off + s.written
  let late := b.sideMode c true = 2 && s.table.length ≤ o / b.elemSize c
  if !s.taken || s.len ≤ s.written || (x.barrier.isSome && !x.barrierDone) || late then none else
  let (a, rem, t) := b.sideFor c v s true o
  match t, s.got with
  | .inr m, _ => some ⟨b.sideBits c a true, false, .inr m⟩
  | .inl t, (k, d) :: _ =>
    let n := b.sideSpan v t true rem
    if k = o && n ≤ d.length then some ⟨b.sideBits c a true, false, .inl (t, n)⟩ else none
  | .inl _, [] => none

/-- The next read burst of a segment. The index table is read ahead of use, at most 512 bytes at a time, when no read is
outstanding (R165). -/
def Bridge.nextRead (b : Bridge) (c v : Nat) (s : Seg) : Option Burst :=
  if !s.taken || s.off + s.len ≤ s.next then none
  else if b.indexed c && s.table.length ≤ s.next / b.elemSize c then
    if 0 < s.reads then none else
    let tw := b.raw (.fndActive c 4) + BitVec.ofNat 64 (4 * s.table.length)
    let a := wget tw Fld.fndSetSrc_ADDR
    let n := 4 * min (min 128 (s.len / b.elemSize c - s.table.length)) ((4096 - a % 4096 + 3) / 4)
    some ⟨tw, true, match (b.under s).sideOf v tw n with | .inl t => .inl (t, n) | .inr m => .inr m⟩
  else
    let (a, rem, t) := b.sideFor c v s false s.next
    some ⟨b.sideBits c a false, false, match t with | .inl t => .inl (t, b.sideSpan v t false rem) | .inr m => .inr m⟩

/-- Whether a read may be given a ledger entry now: by its limits, counting what its finder has waiting (R82), and by a free
entry, or by one whose shutter has yet to open for it. -/
def Bridge.ledgerReady (b : Bridge) (f : Nat) (j : Job) : Bool :=
  b.ledgerRoom j && ((b.ledgerFree j).isSome || !b.domsOpen [85]) &&
    decide (b.ledgerHeld (fun e => e.finder = some f) + (b.reqs.filter (fun i => i.src = .finder f && !i.op.isWrite)).length < 64)

/-- Whether a burst is ready (R195): its ledger entry, or its target's credits, are available. A burst that leads nowhere fails
at once. -/
def Bridge.burstReady (b : Bridge) (v f : Nat) (write : Bool) (x : Burst) : Bool :=
  match x.dest with
  | .inr _ => true
  | .inl (.host _, n) =>
    write || b.ledgerReady f (b.hostSideJob v (fun _ => 0) .dead (.finder f) 0 0 0 n (.read n) false)
  | .inl (.loc r, n) =>
    let j := b.pieceJob r .dead (.finder f) 0 r.last.off (r.last.off + n) r.last.off
      (if write then .write (List.replicate n (some 0)) false else .read n) 0 false
    if r.space = 4 then write || b.ledgerReady f j else if r.space = 0 then !b.merReady r.port || b.merRoom j else true

/-- Issue a segment's next write burst. -/
def Bridge.writeBurst (b : Bridge) (c v f : Nat) (s : Seg) (x : Burst) : Bridge :=
  match x.dest with
  | .inr m => (b.missed m).failSeg c s.idx 1 .catalogue x.side m.gen false
  | .inl (t, n) =>
    let o := s.off + s.written
    let d := match s.got with | (_, d) :: _ => d | [] => []
    match b.writeSide v (b.activeSet c) (.seg c s.idx o) (.finder f) t (d.take n) 0 (b.act c 3 Fld.fndSetCtrl_RO = 1) with
    | (b, .inr e) => b.failSeg c s.idx 1 e x.side (b.sideGen v t) false
    | (b, .inl w) => b.putSeg c { s with
        writes := s.writes + w, written := s.written + n
        got := if d.length ≤ n then s.got.drop 1 else (o + n, d.drop n) :: s.got.drop 1 }

/-- Issue a segment's next read burst. -/
def Bridge.readBurst (b : Bridge) (c v f : Nat) (s : Seg) (x : Burst) : Bridge :=
  match x.dest with
  | .inr m => (b.missed m).failSeg c s.idx 0 .catalogue x.side m.gen x.table
  | .inl (t, n) =>
    let o := if x.table then .table c s.idx s.table.length else .seg c s.idx s.next
    match b.readSide v (b.activeSet c) o (.finder f) t n with
    | (b, .inr e) => b.failSeg c s.idx 0 e x.side (b.sideGen v t) x.table
    | (b, .inl k) => b.putSeg c { s with reads := s.reads + k, next := if x.table then s.next else s.next + n }

/-- Segments active on finder `f` (R186). -/
def Bridge.activeOn (b : Bridge) (f : Nat) : List (Nat × Seg) :=
  b.eng.chans.flatMap (fun x => (x.segs.filter (fun s => s.finder = some f)).map (fun s => (x.c, s)))

/-- The ready burst of an active segment: its write when that is ready, else its read. -/
def Bridge.segBurst (b : Bridge) (f c : Nat) (s : Seg) : Option (Nat × Bool × Burst) :=
  match b.chanOwner c with
  | none => none
  | some v =>
    match (b.nextWrite c v s).filter (b.burstReady v f true) with
    | some x => some (v, true, x)
    | none => ((b.nextRead c v s).filter (b.burstReady v f false)).map (fun x => (v, false, x))

/-- A segment with a ready burst. -/
structure ReadySeg where
  c : Nat
  seg : Seg
  v : Nat
  write : Bool
  burst : Burst

/-- The burst that a finder's burst opportunity goes to (R195): that of the segment of highest priority with one ready, in turns;
every 16th time that of the one held longest. -/
def Bridge.nextBurst (b : Bridge) (f : Nat) : Option ReadySeg :=
  let l := (b.activeOn f).filterMap (fun p => (b.segBurst f p.1 p.2).map (fun r => (⟨p.1, p.2, r.1, r.2.1, r.2.2⟩ : ReadySeg)))
  let held := (b.finder f).opportunities % 16 = 15
  l.foldl (fun acc p => match acc with
    | none => some p
    | some q =>
      let better := if held then decide (p.seg.seqNo < q.seg.seqNo)
        else q.seg.prio < p.seg.prio || (q.seg.prio = p.seg.prio && p.seg.turn < q.seg.turn)
      if better then some p else some q) none

/-- Give a finder its burst opportunities while a burst is ready (R195). -/
def Bridge.pumpFinder (b : Bridge) (f : Nat) : Nat → Bridge
  | 0 => b
  | fuel + 1 =>
    if b.mode = 11 then b else
    match b.nextBurst f with
    | none => b
    | some r =>
      let n := (b.finder f).opportunities + 1
      let s := { r.seg with turn := n }
      let b := b.putFinder { b.finder f with opportunities := n }
      Bridge.pumpFinder (if r.write then b.writeBurst r.c r.v f s r.burst else b.readBurst r.c r.v f s r.burst) f fuel

/-- Give every finder that holds a segment its burst opportunities. -/
def Bridge.pumpFinders (b : Bridge) : Bridge :=
  let fs := (b.eng.chans.flatMap (fun x => x.segs.filterMap Seg.finder)).eraseDups
  fs.foldl (fun (b : Bridge) f => b.pumpFinder f 1024) b

/-- End a segment whose reads, writes and flushing reads are all done; ask for flushing reads first, one on each path to the host
that it wrote to (R172, R173). -/
def Bridge.endSeg (b : Bridge) (c i : Nat) : Bridge :=
  match b.seg c i with
  | none => b
  | some s =>
    match s.st with
    | .taken f =>
      if s.next < s.off + s.len || 0 < s.reads || 0 < s.writes || 0 < s.flushes || s.written < s.len then b
      else if s.hostPaths ≠ [] then
        let b := b.putSeg c { s with flushes := s.hostPaths.length, hostPaths := [] }
        s.hostPaths.foldl (fun (b : Bridge) p =>
          let (id, b) := b.fresh
          b.toTarget (b.flushJob id p.1 (.segFlush c i p.2) (.finder f))) b
      else
        let b := (b.putSeg c { s with st := .arrived }).segEnded f
        let b := b.set (.fndChProgress c) Fld.fndChProgress_BYTES (progressOf (b.chan c).segs)
        (b.place c).checkGate c
    | _ => b

/-! Taking (R189, R190, R192, R117). -/

/-- The parts of a segment's side that can be translated when it is taken, each within one field (R165, R166): the elements of an
index side come later. -/
def Bridge.takeParts (b : Bridge) (c v : Nat) (s : Seg) (write : Bool) : List (Nat × Nat) :=
  let mode := b.sideMode c write
  let a := b.act c (bit write) Fld.fndSetSrc_ADDR
  if mode = 1 then [(a, b.elemSize c)]
  else if b.sideHost c write then [(a + s.off, s.len)]
  else if mode = 2 then []
  else let fs := 2 ^ b.region (slotVf (b.viAp v) 2) regFS; cutAt fs (s.len / fs + 2) (a + s.off) s.len

/-- The first part of a segment's side that leads nowhere. -/
def Bridge.takeMiss (b : Bridge) (c v : Nat) (s : Seg) (write : Bool) : Option (Nat × Miss) :=
  (b.takeParts c v s write).findSome? (fun p =>
    match b.sideX v (b.sideHost c write) p.1 p.2 with | .inr m => some (p.1, m) | .inl _ => none)

/-- The catalogue banks that the lookups of a segment open (R403): those of the enabled entries that its sides name. -/
def Bridge.takeDoms (b : Bridge) (c : Nat) (s : Seg) : List Nat :=
  match b.chanOwner c with
  | none => []
  | some v =>
    let named := fun (write : Bool) =>
      if b.sideHost c write then [b.hostSideEntry v]
      else (b.takeParts c v s write).filterMap (fun p => (b.lookupVf v p.1 p.2).map (·.idx))
    b.banksOf (named false ++ named true)

/-- Whether finder `f` may take a segment from its own dome's list (R190). -/
def Bridge.mayTake (b : Bridge) (f : Nat) (p : Nat × Seg) : Bool :=
  b.domsOpen (b.takeDoms p.1 p.2) &&
  (!p.2.pinned || ((match (b.chan p.1).fixedFinder with | some g => g = f | none => true) &&
    !(b.chan p.1).segs.any Seg.taken))

/-- The best of a list: highest priority, then the oldest (`oldest`) or the youngest. -/
def bestSeg (oldest : Bool) (l : List (Nat × Seg)) : Option (Nat × Seg) :=
  l.foldl (fun acc p => match acc with
    | none => some p
    | some q =>
      if q.2.prio < p.2.prio || (q.2.prio = p.2.prio && (if oldest then p.2.seqNo < q.2.seqNo else q.2.seqNo < p.2.seqNo))
      then some p else some q) none

/-- A barrier that the transfer asks for starts when its first segment is taken (R167). -/
def Bridge.takeBarrier (b : Bridge) (f c v : Nat) : Bridge :=
  let sc := b.act c 3 Fld.fndSetCtrl_BARRIER
  let x := b.chan c
  if sc = 0 || x.barrier.isSome || x.barrierDone then b else
  let (id, b) := b.startBarrier (b.viAp v) (b.viVf v) (sc - 1) 2 0 (some c) (.finder f)
  b.putChan { b.chan c with barrier := some id }

/-- Finder `f` takes a segment and translates it (R117, R166, R167): a part of a side that leads nowhere fails it. -/
def Bridge.take (b : Bridge) (f : Nat) (p : Nat × Seg) : Bridge :=
  let (c, s) := p
  match b.chanOwner c with
  | none => b
  | some v =>
    let (n, b) := b.fresh
    let b := (b.set (.fndFinderStat f) Fld.fndFinderStat_CHANNEL c).putSeg c
      { Seg.new s.idx s.off s.len s.prio s.dome s.pinned with st := .taken f, seqNo := n, lastBeat := b.tick }
    let b := if s.pinned then b.putChan { b.chan c with fixedFinder := some f } else b
    let b := match b.takeMiss c v s false, b.takeMiss c v s true with
      | some (a, m), _ => (b.missed m).failSeg c s.idx 0 .catalogue (b.sideBits c a false) m.gen false
      | none, some (a, m) => (b.missed m).failSeg c s.idx 1 .catalogue (b.sideBits c a true) m.gen false
      | none, none => (b.takeBarrier f c v).pumpFinder f 1024
    b.place c

/-! Ends of a channel's requests. -/

/-- A segment's request has failed: the direction and the side address of its first byte that did (R178). -/
def Bridge.segJobFailed (b : Bridge) (c i off : Nat) (j : Job) (e : Cause) : Bridge :=
  match b.seg c i with
  | none => b
  | some s => b.failSeg c i (bit j.op.isWrite) e (b.sideWord c s j.op.isWrite (off + (j.off - j.lo))) j.entry.2 false

/-- Bytes of a segment's burst have been read: sum them and keep them (R167, R170). -/
def Bridge.segData (b : Bridge) (c i off : Nat) (s : Seg) (j : Job) (d : List Byte) : Bridge :=
  let rs := streamRuns ((sortBy (·.1) (pieceBytes j d)).map (fun p => (off + p.1, p.2)))
  let k := b.act c 3 Fld.fndSetCtrl_CHECK
  let x := b.chan c
  let b := b.putChan { x with
    sums := if k = 0 then x.sums else x.sums ++ rs.map (fun r => (r.1, r.2.length, partialSum k r.1 r.2)) }
  (b.putSeg c { s with reads := s.reads - 1, lastBeat := b.tick, got := mergeRuns (s.got ++ rs) }).endSeg c i

/-- Elements of an index table from its bytes by offset, as far as they are whole (R164, R165). -/
def tableOf (l : List (Nat × Byte)) : Nat → Nat → List Nat
  | 0, _ => []
  | n + 1, k =>
    let at_ := fun (i : Nat) => (l.find? (fun p => p.1 = 4 * k + i)).map (·.2)
    match at_ 0, at_ 1, at_ 2, at_ 3 with
    | some a, some b, some c, some d => natOfBytes [a, b, c, d] :: tableOf l n (k + 1)
    | _, _, _, _ => []

/-- Bytes of a segment's index table have been read: `first` is the element at which the read began. -/
def Bridge.tableData (b : Bridge) (c first : Nat) (s : Seg) (j : Job) (d : List Byte) : Bridge :=
  let l := s.tableGot ++ (pieceBytes j d).map (fun p => (4 * first + p.1, p.2))
  let n := s.table.length
  let more := tableOf l 128 n
  b.putSeg c { s with
    reads := s.reads - 1, lastBeat := b.tick, table := s.table ++ more
    tableGot := l.filter (fun p => 4 * (n + more.length) ≤ p.1) }

/-- An autoload's image has been read whole: it goes into the shadow, which is armed or not (R161, R163). -/
def Bridge.loaded (b : Bridge) (c v : Nat) (j : Job) (bytes : List Byte) (poison : Bool) : Bridge :=
  let ws := wordsOfBytes 8 bytes
  let b := (List.range 8).foldl (fun (b : Bridge) w => b.put (.fndShadow c w) (ws.getD w 0)) b
  let b := b.putChan { b.chan c with loading := false }
  if poison then (b.setShadow c 1).loadFailed c .poisoned j.entry.2
  else if b.armCheck c ws ≠ 0 then (b.setShadow c 1).loadFailed c .descriptor j.entry.2
  else if b.chState c = 0 then (b.setShadow c 2).promote c v
  else b.setShadow c 2

/-- The end of a request that a channel made. -/
def Bridge.chanDone (b : Bridge) (j : Job) (r : Res) : Bridge :=
  let own := fun c (k : Nat → Bridge) => match b.chanOwner c with | some v => k v | none => b
  let held := fun c i (k : Seg → Bridge) => match b.seg c i with | some s => if s.taken then k s else b | none => b
  match j.origin, r with
  | .seg c i off, .ok d poison => own c (fun _ => held c i (fun s =>
      if j.op.isWrite then
        (b.putSeg c { s with writes := s.writes - 1, lastBeat := b.tick, hostPaths :=
          if j.space = 4 then
            s.hostPaths.filter (fun p => !p.1.onPath (j.port, j.fn, j.pasid)) ++ [(j, b.sideWord c s true (off + (j.off - j.lo)))]
          else s.hostPaths }).endSeg c i
      else if poison then b.segJobFailed c i off j .poisoned
      else b.segData c i off s j d))
  | .seg c i off, .err e => own c (fun _ => b.segJobFailed c i off j e)
  | .table c i first, .ok d poison => own c (fun _ => held c i (fun s =>
      if poison then b.failSeg c i 0 .poisoned (b.raw (.fndActive c 4) + BitVec.ofNat 64 (4 * first + (j.off - j.lo))) j.entry.2 true
      else b.tableData c first s j d))
  | .table c i first, .err e =>
      own c (fun _ => b.failSeg c i 0 e (b.raw (.fndActive c 4) + BitVec.ofNat 64 (4 * first + (j.off - j.lo))) j.entry.2 true)
  | .segFlush c i side, .ok _ poison => own c (fun _ => held c i (fun s =>
      if poison then b.failSeg c i 1 .poisoned side j.entry.2 false
      else (b.putSeg c { s with flushes := s.flushes - 1, lastBeat := b.tick }).endSeg c i))
  | .segFlush c i side, .err e => own c (fun _ => b.failSeg c i 1 e side j.entry.2 false)
  | .descriptor c, .ok d poison => own c (fun v =>
      if !(b.chan c).loading then b else
      let x := b.chan c
      let l := x.loadGot ++ pieceBytes j d
      if poison then b.loaded c v j (assemble 64 l) true
      else if l.length < 64 then b.putChan { x with loadGot := l }
      else (b.putChan { x with loadGot := [] }).loaded c v j (assemble 64 l) false)
  | .descriptor c, .err e => own c (fun _ =>
      if !(b.chan c).loading then b else (b.setShadow c 1).loadFailed c e j.entry.2)
  | .checkStore c, .ok _ poison => own c (fun v =>
      if b.chState c ≠ 3 then b
      else if j.op = .flush then
        (if poison then b.haltChan c 3 .poisoned (b.raw (.fndActive c 5)) 0 j.entry.2 false else b.writeCrec c v)
      else if j.space = 4 then
        let (id, b) := b.fresh
        (b.putChan { b.chan c with step := .storeFlush }).toTarget (b.flushJob id j (.checkStore c) .bridge)
      else b.writeCrec c v)
  | .checkStore c, .err e => own c (fun _ =>
      if b.chState c = 3 then b.haltChan c 3 e (b.raw (.fndActive c 5)) 0 j.entry.2 false else b)
  | .crec c, .ok _ _ => own c (fun v => if b.chState c = 3 then b.step3 c v else b)
  | .crec c, .err e => own c (fun _ =>
      if b.chState c = 3 then b.haltChan c 4 e (b.raw (.fndActive c 6)) 0 j.entry.2 false else b)
  | _, _ => b

/-! Commands on a channel. -/

/-- ARM (R158, R160): HOPS restarts, the shadow is armed or ARM_ERR says why not; an idle channel promotes. An EMPTY shadow is
checked and armed with the words that the last promotion left in it (DESIGN CHOICE, log entry 111). -/
def Bridge.armChan (b : Bridge) (c : Nat) : Bridge :=
  let e := b.armCheck c ((List.range 8).map (fun w => b.raw (.fndShadow c w)))
  let e := if e = 0 && b.chShadow c = 3 then 8 else e
  let b := b.sets (.fndChStatus c) [(Fld.fndChStatus_HOPS, 0), (Fld.fndChStatus_ARM_ERR, e)]
  if e ≠ 0 then b.raise .fnd 1 else
  match b.chanOwner c with
  | some v => if b.chState c = 0 then (b.setShadow c 2).promote c v else b.setShadow c 2
  | none => b

/-- Whether a request was made for one of the segments `p` of channel `c`. -/
def Origin.ofSeg (c : Nat) (p : Nat → Bool) : Origin → Bool
  | .seg k i _ | .table k i _ | .segFlush k i _ => k = c && p i
  | _ => false

/-- Put the failed and withheld segments back, or count the failed ones as skipped (R180). What is still outstanding for a failed
segment concerns it no more, and a retry sums its bytes anew (R170). -/
def Bridge.releaseSegs (b : Bridge) (c : Nat) (skip : Bool) : Bridge :=
  let x := b.chan c
  let failed := x.segs.filter (fun s => s.st = .failed)
  let b := b.forget (Origin.ofSeg c (fun i => failed.any (fun s => s.idx = i)))
  let segs := x.segs.map (fun s =>
    if s.st = .failed then (if skip then { s with st := .skipped } else Seg.new s.idx s.off s.len s.prio s.dome s.pinned)
    else if s.st = .withheld then { s with st := .unplaced } else s)
  let b := b.putChan { x with
    segs := segs, skips := if skip then x.skips + failed.length else x.skips
    sums := x.sums.filter (fun p => !failed.any (fun s => s.off ≤ p.1 && p.1 < s.off + s.len)) }
  ((b.setChState c 1).place c).checkGate c

/-- End a transfer by ABORT: its record has STATUS 2 and nothing is promoted (R180). -/
def Bridge.abortChan (b : Bridge) (c v : Nat) : Bridge :=
  let b := b.forget (Origin.ofSeg c (fun _ => true))
  ((b.putChan { b.chan c with status := 2, noPromote := true }).setChState c 3).writeCrec c v

/-- Apply RESUME (3), SKIP (4) or ABORT (5) to a quiet halted channel, by the direction of the latched failure (R180). What SKIP
and ABORT leave unrecovered is remembered for the record (R174). -/
def Bridge.applyRecovery (b : Bridge) (c v cmd : Nat) : Bridge :=
  let dir := b.get (.fndChFaultInfo c) Fld.fndChFaultInfo_DIRECTION
  let x := { b.chan c with held := none }
  let x := if cmd = 3 then x else { x with firstFault := x.firstFault.or (b.latched c) }
  let b := (b.set (.fndChFaultInfo c) Fld.fndChFaultInfo_VALID 0).putChan x
  if dir ≤ 1 then
    if cmd = 3 then b.releaseSegs c false
    else if cmd = 4 then b.releaseSegs c true
    else b.abortChan c v
  else if dir = 2 then
    if cmd = 5 && b.chShadow c = 2 then (b.setShadow c 1).setChState c 0
    else if b.chShadow c = 2 then b.promote c v
    else if cmd = 3 then (b.setChState c 0).startAutoload c v
    else b.setChState c 0
  else if dir = 3 then
    if cmd = 3 then b.closeGate c v
    else if cmd = 4 then ((b.putChan { x with status := 1 }).setChState c 3).writeCrec c v
    else b.abortChan c v
  else
    if cmd = 3 then (b.setChState c 3).writeCrec c v
    else if cmd = 4 then b.step3 c v
    else (b.putChan { x with noPromote := true }).step3 c v

end Sys2Proof.Machine
end

