-- ==== Sys2Proof/Machine/Flags.lean ====
section
/-!
DEFINITION. The fields that registers compute from the structures they report on: counts, states and status flags, and
with them the value a read of control space returns (R3, R55, R424, R452, R464).
-/
namespace Sys2Proof.Machine

open Sys2Proof

/-! Seeing monitor (R337, R343). A map is 128 rows of 64 cells, row by row. -/

/-- A cell of an eye map. -/
def cell (m : List Byte) (row col : Nat) : Nat := (m.getD (64 * row + col) 0).toNat

/-- Rows that run unbroken from `row` by `up` or down in a column, cells at most `t`. -/
def runRows (m : List Byte) (t col : Nat) (up : Bool) : Nat → Nat → Nat
  | 0, _ => 0
  | n + 1, row => if cell m row col ≤ t then 1 + runRows m t col up n (if up then row + 1 else row - 1) else 0

/-- Columns that run unbroken from `col` in a row, cells at most `t`. -/
def runCols (m : List Byte) (t row : Nat) (up : Bool) : Nat → Nat → Nat
  | 0, _ => 0
  | n + 1, col => if cell m row col ≤ t then 1 + runCols m t row up n (if up then col + 1 else col - 1) else 0

/-- HEIGHT of an eye: the smaller over columns 31 and 32. -/
def eyeHeight (m : List Byte) (t : Nat) : Nat :=
  min (runRows m t 31 false 64 63 + runRows m t 31 true 64 64) (runRows m t 32 false 64 63 + runRows m t 32 true 64 64)

/-- WIDTH of an eye: the smaller over rows 63 and 64. -/
def eyeWidth (m : List Byte) (t : Nat) : Nat :=
  min (runCols m t 63 false 32 31 + runCols m t 63 true 32 32) (runCols m t 64 false 32 31 + runCols m t 64 true 32 32)

/-- Lane `i`. -/
def Bridge.lane (b : Bridge) (i : Nat) : Lane :=
  (b.eng.lanes.find? (fun l => l.i = i)).getD
    { i := i, losSince := none, mrStart := none, mrTicks := [], maps := [], yields := 0, scanTick := 0,
      mapValid := false, holdUntil := none, heldMap := none, margins := [] }

/-- Write a lane. -/
def Bridge.putLane (b : Bridge) (l : Lane) : Bridge :=
  { b with eng := { b.eng with lanes := listPut (fun x => x.i = l.i) l b.eng.lanes } }

/-- A lane begins or ceases to carry its link: adaptation runs from where it stood while the lane does, and stands frozen while it
does not (R331, R341). -/
def Bridge.laneOn (b : Bridge) (i : Nat) (on : Bool) : Bridge :=
  let l := b.lane i
  let b := b.set (.lneLaneStat i) Fld.lneLaneStat_ACTIVE (bit on)
  match on, l.adaptSince with
  | true, none => b.putLane { l with adaptSince := some b.tick }
  | false, some t => b.putLane { l with adaptRun := l.adaptRun + (b.tick - t), adaptSince := none }
  | _, _ => b

/-- LNE_EYE_HDR for a bank's selection (R343). -/
def Bridge.eyeHdr (b : Bridge) (n : Nat) : Word :=
  let l := b.lane (b.get (.lneEyeSel n) Fld.lneEyeSel_LANE)
  if !l.mapValid then 0 else
  let m := l.maps.getD (b.get (.lneEyeSel n) Fld.lneEyeSel_EYE) []
  let t := b.get (.lneSeeCfg l.i) Fld.lneSeeCfg_OPEN_THRESH
  wmk [(Fld.lneEyeHdr_HEIGHT, eyeHeight m t), (Fld.lneEyeHdr_WIDTH, eyeWidth m t), (Fld.lneEyeHdr_YIELDS, min l.yields 65535),
    (Fld.lneEyeHdr_TICK, l.scanTick), (Fld.lneEyeHdr_VALID, 1)]

/-- LNE_EYE_ROW word `w` for a bank's selection. -/
def Bridge.eyeRow (b : Bridge) (n w : Nat) : Word :=
  let l := b.lane (b.get (.lneEyeSel n) Fld.lneEyeSel_LANE)
  if !l.mapValid then 0 else
  let m := l.maps.getD (b.get (.lneEyeSel n) Fld.lneEyeSel_EYE) []
  wordOfBytes ((m.drop (64 * b.get (.lneEyeSel n) Fld.lneEyeSel_ROW + 8 * w)).take 8)

/-! Catalogue. -/

/-- The requests in flight, wherever they are held: posting buffers, host, ledger, Meridian, Transit, archive, logbook ports, and
the reads not yet sent. A posted write that has gone to its target stands in two of them. -/
def Bridge.jobsHeld (b : Bridge) : List Job :=
  (b.pbs.filter (fun e => e.kind ≠ .barrier)).map (·.job) ++ b.reqs ++ b.proving
    ++ (b.ledger.filter (fun e => !e.quarantined)).map (·.job)
    ++ (b.eng.merTags.filter (fun t => !t.quarantined)).map (·.job) ++ b.eng.merPorts.flatMap (·.waiting)
    ++ b.eng.trn.queue.map (·.job) ++ b.archReqs.filterMap (·.job) ++ b.hostReads.flatMap (·.jobs) ++ b.eng.logWait
    ++ b.eng.queues.flatMap (fun q => q.2.stalled.filterMap (·.job) ++ q.2.blocked.filterMap (·.job))

/-- Every request in flight, each once. -/
def Bridge.jobs (b : Bridge) : List Job :=
  b.jobsHeld.foldr (fun (j : Job) l => if l.any (fun k => k.id = j.id) then l else j :: l) []

/-- What tells the request of a job from any other: the pieces of one request share it (R119). None for a job that no entry
translated. -/
def Job.request (j : Job) : Option (Origin × Nat) :=
  match j.origin with
  | .message _ | .irqEvent _ | .svc | .shelf _ | .barFlush _ => none
  | .hostWrite => some (.hostWrite, j.req)
  | .dead => some (.dead, j.id)
  | .segFlush .. => none
  | o => if j.op = .flush then none else some (o, 0)

/-- CAT_DRAIN.OLD_INFLIGHT: requests in flight under older generations of entry `i` (R119). A write that has left on a host link has
completed; a claimed Transit burst that has not been sent on is in flight. -/
def Bridge.oldInflight (b : Bridge) (i : Nat) : Nat :=
  let old := fun (k g : Nat) => k = i && g ≠ b.ent i entGEN
  let js := b.jobs.filter (fun j => !b.proving.any (fun w => w.id = j.id) &&
    (old j.idx j.gen || (match j.via with | some p => old p.1 p.2 | none => false)))
  let t := b.eng.trn
  let claims := (t.wq.filter (fun e => e.1 = 0)).map (·.2) ++ t.pendingWait.map (·.1) ++
    (t.delayed.filter (fun d => d.up = 0)).map (·.claim)
  min 65535 ((js.filterMap Job.request).eraseDups.length + (claims.filter (fun k => old k.x.idx (k.x.get entGEN))).length)

/-! Dispatcher and guide. -/

/-- The guide's record of dome `d`. -/
def Bridge.guide (b : Bridge) (d : Nat) : Guide := alGet ⟨0, 0, none, none, false, false⟩ d b.eng.guides

/-- Whether the guide watches a dome (R31, R203): it is guide-managed, and the guide is not off for want of tuning, which THRESHOLD 0
shows. -/
def Bridge.guideOn (b : Bridge) (d : Nat) : Bool :=
  b.get (.pwrDomPol d) Fld.pwrDomPol_POLICY = 1 && b.get (.dspGuideCfg d) Fld.dspGuideCfg_THRESHOLD ≠ 0

/-- Whether the guide is predicting for a dome (R210). -/
def Bridge.predicting (b : Bridge) (d : Nat) : Bool := b.guideOn d && (b.guide d).next.isSome

/-- Whether a dome's predicted doorbell is yet to come and no further off than the opening time and the lead (R204). -/
def Bridge.guideNear (b : Bridge) (d : Nat) : Bool :=
  b.guideOn d && (match (b.guide d).next with
    | some (t, lead) => decide (b.tick ≤ t) && decide (t ≤ b.tick + 75 + lead)
    | none => false)

/-- The guide's record after a doorbell at `tick` (R203): the mean moves by a 2^`k`-th of what the interval differs from it, and the
next doorbell is predicted when enough have come since the dome last closed and 1 ms / m, 50,000 ticks over m, is at least `threshold`
(log entry 119). -/
def Guide.ring (g : Guide) (tick k threshold lead : Nat) : Guide :=
  let mean := match g.last with
    | some t => ((g.mean : Int) + (((tick - t : Nat) : Int) - (g.mean : Int)) / (2 ^ k : Nat)).toNat
    | none => g.mean
  { g with
    mean := mean, count := g.count + 1, last := some tick, hit := true
    next := if 2 ^ k ≤ g.count + 1 && threshold * mean ≤ 50000 then some (tick + mean, lead) else none }

/-- The bucket of instance `v` in direction `x`, full while nothing has used it. -/
def Bridge.bucket (b : Bridge) (v x : Nat) : Bucket :=
  alGet ⟨b.get (.dspViBucket v x) Fld.dspViBucket_DEPTH_KIB * 1024 * 2 ^ 24, none⟩ (2 * v + x) b.eng.buckets

/-- STATE of a finder (R186). -/
def Bridge.finderState (b : Bridge) (f : Nat) : Nat :=
  if b.part.domes ≤ f / 8 then 3
  else if b.domState (f / 8) ≠ 2 then 0
  else if b.eng.finders.any (fun x => x.f = f && x.clocked) then 2 else 1

/-! Instances. -/

/-- Entries of an instance's grant on Aperture `a` (R102). -/
def Bridge.grantLen (b : Bridge) (a : Nat) : Nat :=
  if b.regionOn (slotVf a 2) then 1 + 2 ^ b.region (slotVf a 2) regFC else 1

/-- What an instance with these VI_ENTRY and VI_RES words holds of pool kind `k`. -/
def Bridge.holds (b : Bridge) (a k : Nat) (entry res : Word) : Nat :=
  match k with
  | 0 => 1
  | 1 => wget entry Fld.viEntry_CHANNELS
  | 2 => b.grantLen a
  | 3 => wget res Fld.viRes_QUEUES
  | 4 => wget res Fld.viRes_LEDGER_QUOTA
  | 5 => wget res Fld.viRes_VECTORS
  | _ => wget res Fld.viRes_SPILL_MIB

/-- What live and reserve instances of Aperture `a` hold of pool kind `k` (R234, R375). -/
def Bridge.poolUsed (b : Bridge) (a k : Nat) : Nat :=
  let l := b.liveVis.map (fun v => (b.raw (.viEntry v), b.raw (.viRes v))) ++ b.eng.reserve.map (fun r => (r.entry, r.res))
  (l.filter (fun p => wget p.1 Fld.viEntry_APERTURE = a)).foldl (fun n p => n + b.holds a k p.1 p.2) 0

/-! Transit. -/

/-- TINT_N lines asserted, as bits (R314); a TINT_N ball with another function ignores both sources (R477). -/
def Bridge.tintLines (b : Bridge) : Nat :=
  (List.range 4).foldl (fun n k =>
    let on := if b.get (.trnTintCfg k) Fld.trnTintCfg_SOURCE = 1 then
        decide (0 < (b.queue (b.get (.trnTintCfg k) Fld.trnTintCfg_QUEUE)).unreadPkts)
      else b.eng.trn.tint.contains k
    if on && b.ballFn (116 + k) = 0 then n ||| 2 ^ k else n) 0

/-! Power. -/

/-- Whether a LOAD waits for the archive to deliver the shelf image (R16, R38); whether a STAGE waits for its patch (R41). -/
def Bridge.shelfWait (b : Bridge) : Bool := b.archReqs.any (fun r => r.user = 3)
def Bridge.stageWait (b : Bridge) : Bool := b.archReqs.any (fun r => r.user = 5)

/-- ALM_STATUS.BUSY (R58). -/
def Bridge.almBusy (b : Bridge) : Bool :=
  b.alm.loading.isSome || b.alm.committing || b.alm.mirroring || b.shelfWait || b.stageWait

/-- An agent's request that waits at its source with a tag of the agent's held (R402). -/
def holdsAgentTag : Instr → Bool
  | .meridianRead .. => true
  | .meridianWrite .. => true
  | .meridianBarrier .. => true
  | .rload .. => true
  | .cstore .. => true
  | .atomic .. => true
  | _ => false

/-- PWR_MODE.DIM_BLOCK: the reasons that keep the bridge out of Dimmed (R395). -/
def Bridge.dimBlock (b : Bridge) : Nat :=
  let chans := b.eng.chans.any (fun x => b.chState x.c = 1 || b.chState x.c = 3 || x.segs.any (fun s => 0 < s.writes))
  [ b.mode ≠ 5 && b.mode ≠ 8,
    b.pbs ≠ [],
    chans,
    b.eng.trn.wq ≠ [] || b.get .trnArbStat Fld.trnArbStat_HELD = 1 || b.eng.trn.delayed ≠ [] || b.eng.trn.svcPending,
    b.ledger.any (fun e => !e.quarantined),
    b.eng.merTags.any (fun t => !t.quarantined) ||
      b.ups.any (fun u => match u.sender with | .mer .. => true | _ => false) || b.eng.held.any holdsAgentTag,
    (List.range 4).any (fun a => b.apTrained a && b.get (.aptLinkEff a) Fld.aptLinkEff_STATE < 7),
    b.almBusy,
    b.eng.queues.any (fun q => q.2.busy || q.2.stalled ≠ []),
    b.eng.insts ≠ [] || b.liveVis.any (fun v => 2 ≤ b.viState v),
    b.eng.eyes.any (·.busy) ].zipIdx.foldl (fun n p => if p.1 then n ||| 2 ^ p.2 else n) 0

/-! The almanac engine. -/

/-- Words that a delta record takes in the log (R50). -/
def deltaWords : DeltaRec → Nat
  | .regWrite .. => 3
  | .catEntry .. => 6
  | .sect _ body => 2 + (body.length + 7) / 8
  | .create .. => 5
  | .destroy .. => 2
  | .mark => 1

/-- Bytes of the delta log in use. -/
def Kept.deltaBytes (k : Kept) : Nat := k.log.foldl (fun n e => n + 8 * deltaWords e.body) 0

/-! Fused and absent registers (R3, R424). -/

/-- Whether a register's instance is fused on a part. -/
def Reg.fused (p : Part) : Reg → Bool
  | .blkId (.apt a) | .blkVer (.apt a) | .blkCtrl (.apt a) | .blkStatus (.apt a) | .blkReject (.apt a)
  | .blkEvent (.apt a) | .blkEventEn (.apt a) | .aptLinkEff a | .aptLedgerCfg a | .aptLedgerUse a | .aptLateCpl a
  | .aptLateLast a | .aptUnexpCpl a | .aptMarginCfg a | .aptIntReissue a | .aptFnEvents a | .idEventRoute a
  | .idIntPend a _ | .ordBarrier a | .ordBarrierEng a | .ordBarrierDome a | .ordBarrierSys a | .ordBarStatus a
  | .ordAptCfg a | .ordPbUse a | .ordAtomicStat a | .ordDiscard a | .dspAptCfg a | .dspSchedCmd a | .viPool a _
  | .logFaultLq a => decide (p.apertures ≤ a)
  | .dspSchedShadow y _ | .dspSchedActive y _ => decide (p.apertures ≤ y / 2)
  | .dspDomeCfg d | .dspDomeStat d | .dspGuideCfg d | .dspGuideStat d | .pwrDomeClk d => decide (p.domes ≤ d)
  | .fndFinderStat f => decide (p.domes ≤ f / 8)
  | .dspViShare v | .dspViBucket v _ | .dspViFill v _ | .viEntry v | .viRes v | .viCtrl v => decide (p.vis ≤ v)
  | .merPortGeom m | .merPortCtrl m | .merPortStat m | .merCredit m | .merErrCnt m | .merErrLast m
  | .merEventDrop m => decide (p.merPorts ≤ m)
  | .lneLaneStat i => p.laneFused i
  | .lneSeeCfg i => p.laneFused i || !p.seeing
  | .ifvLinkCtrl k | .ifvLinkCmd k | .ifvLinkStat k | .ifvLinkSeq k | .ifvLinkCnt k | .ifvLinkTmo k =>
    if k = 4 then decide (p.ifvLanes = 0) else decide (p.merPorts ≤ k)
  | .pwrDomPol n | .pwrDomStat n => p.domFused n
  | _ => false

/-- Whether a block is there in Bare (R424). -/
def Blk.inBare : Blk → Bool
  | .id | .alm | .pwr | .flt | .eye | .arc => true
  | _ => false

/-- The value of a register with the fields it computes (R464), fused and absent instances aside. -/
def Bridge.derived (b : Bridge) (m : List Host.Cell) (r : Reg) : Word :=
  let w := b.raw r
  let shown := fun (l : List (Fld × Nat)) => l.foldl (fun w p => wput w p.1 p.2) w
  match r with
  | .blkStatus k =>
    let n := (b.overridden.filter (fun p => p.1.block = k)).length
    wmk [(Fld.blkStatus_OVERRIDDEN, bit (0 < n)), (Fld.blkStatus_OVERRIDES, min n 255)]
  | .idPart => wmk [(Fld.idPart_PART, b.part.code), (Fld.idPart_DIE_REV, Config.dieRev.toNat), (Fld.idPart_DOMES, b.part.domes),
      (Fld.idPart_APERTURES, b.part.apertures), (Fld.idPart_VI_COUNT, b.part.vis)]
  | .idEventSum => wmk [(Fld.idEventSum_PENDING, b.eventSum), (Fld.idEventSum_SVC_PENDING, b.svcSum)]
  | .almStatus => shown [(Fld.almStatus_AUTH_FUSE, bit b.authFuse), (Fld.almStatus_STAGED, bit b.alm.staged.isSome),
      (Fld.almStatus_BUSY, bit b.almBusy)]
  | .almShelfData => wordOfBytes (memRead m (b.get .almShelfAddr Fld.almShelfAddr_OFFSET) 8)
  | .almKeptUse => shown [(Fld.almKeptUse_DELTA_BYTES, b.kept.deltaBytes), (Fld.almKeptUse_DELTA_RECORDS, b.kept.log.length)]
  | .almFlashEff =>
    let s := b.get .almFlashCfg Fld.almFlashCfg_SPEED
    wmk [(Fld.almFlashEff_CLK_MHZ, if s = 0 then 200 else if s = 1 then 100 else 50), (Fld.almFlashEff_DDR, bit (s ≤ 1)),
      (Fld.almFlashEff_DUMMY, b.get .almFlashCfg Fld.almFlashCfg_DUMMY),
      (Fld.almFlashEff_DQS_EN, b.get .almFlashCfg Fld.almFlashCfg_DQS_EN)]
  | .aptLedgerUse a => shown [(Fld.aptLedgerUse_HELD, b.ledgerHeld (fun e => e.ap = a)),
      (Fld.aptLedgerUse_QUARANTINED, b.ledgerHeld (fun e => e.ap = a && e.quarantined))]
  | .catDrain _ => shown [(Fld.catDrain_OLD_INFLIGHT, b.oldInflight (wget w Fld.catDrain_INDEX))]
  | .ordBarrierEng a | .ordBarrierDome a | .ordBarrierSys a | .ordBarStatus a => alGet 0 (a * 4096) b.barStat
  | .ordPbUse a => shown [(Fld.ordPbUse_WAITING, b.pbWaiting a), (Fld.ordPbUse_ISSUED, b.pbIssued a)]
  | .fndChStatus c => shown [(Fld.fndChStatus_QUIET, bit (b.quiet c)),
      (Fld.fndChStatus_SEGS_LEFT, min 65535 ((b.chan c).segs.filter (fun s => s.st ≠ .arrived)).length)]
  | .fndFinderStat f => shown [(Fld.fndFinderStat_STATE, b.finderState f),
      (Fld.fndFinderStat_TAGS, b.ledgerHeld (fun e => e.finder = some f)),
      (Fld.fndFinderStat_ACTIVE, (b.activeOn f).length)]
  | .dspDomeStat d => shown [(Fld.dspDomeStat_WAITING, (b.runList d).length),
      (Fld.dspDomeStat_PINNED, ((b.runList d).filter (fun p => p.2.pinned)).length)]
  | .dspGuideStat d => shown [(Fld.dspGuideStat_PREDICTING, bit (b.predicting d))]
  | .dspViFill v x =>
    if !b.viLive v then 0 else
    wmk [(Fld.dspViFill_FILL, (b.bucket v x).fill / 2 ^ 24),
      (Fld.dspViFill_CHANGE_PEND, bit ((b.bucket v x).pend.isSome || b.eng.sharePend.any (fun p => p.1 = 2 * v + x)))]
  | .viPool a k => shown [(Fld.viPool_USED, b.poolUsed a k)]
  | .logSpillCfg => shown [(Fld.logSpillCfg_PAGES_USED, b.pagesHeld (fun _ => true))]
  | .logQStat q => shown [(Fld.logQStat_UNREAD_PKTS, (b.queue q).unreadPkts), (Fld.logQStat_SPILL_PAGES, (b.queue q).pages)]
  | .merPortStat p => shown [(Fld.merPortStat_TAGS, (b.eng.merTags.filter (fun t => t.port = p)).length),
      (Fld.merPortStat_QUARANTINED, (b.eng.merTags.filter (fun t => t.port = p && t.quarantined)).length)]
  | .merCredit p => wmk [(Fld.merCredit_P_HDR, (b.link p).credit 0), (Fld.merCredit_P_DATA, (b.link p).credit 1),
      (Fld.merCredit_NP_HDR, (b.link p).credit 2), (Fld.merCredit_NP_DATA, (b.link p).credit 3)]
  | .trnTgtCfg => shown [(Fld.trnTgtCfg_WQ_USED, b.eng.trn.wq.length)]
  | .trnIrqRoute i => shown [(Fld.trnIrqRoute_ASSERTED, bit (b.eng.trn.irq.any (fun p => p.1 = i)))]
  | .trnTintSet | .trnTintClr => BitVec.ofNat 64 b.tintLines
  | .lneEyeHdr n => b.eyeHdr n
  | .lneEyeRow n k => b.eyeRow n k
  | .ifvLinkStat k => if b.tick < (b.link k).windowStart + 50000 then b.raw r else shown [(Fld.ifvLinkStat_WINDOW_REPLAYS, 0)]
  | .ifvLinkSeq k => wmk [(Fld.ifvLinkSeq_TX_NEXT, (b.link k).txNext), (Fld.ifvLinkSeq_UNACKED, (b.link k).buf.length),
      (Fld.ifvLinkSeq_RX_EXPECTED, (b.link k).expected)]
  | .ifvMirrorStat => shown [(Fld.ifvMirrorStat_PENDING,
      (b.eng.pair.outgoing.filter (fun x => x.change ≠ .delta .mark)).length)]
  | .ifvPairStat => shown [(Fld.ifvPairStat_ADOPTED, (b.eng.pair.adopted.filter (fun v => b.viLive v)).length),
      (Fld.ifvPairStat_RESERVE, b.eng.reserve.length)]
  | .pwrMode => shown [(Fld.pwrMode_DIM_BLOCK, b.dimBlock)]
  | .pwrSidTime => BitVec.ofNat 64 b.tick
  | .pwrDomStat n => shown [(Fld.pwrDomStat_STATE, b.domState n)]
  | .fltRecStat =>
    wmk [(Fld.fltRecStat_LAST_SEQ, if b.kept.ring = [] then 0 else b.kept.nextRec + 2 ^ 32 - 1),
      (Fld.fltRecStat_NEXT_SLOT, b.kept.nextSlot)]
  | .fltQuarStat => shown [(Fld.fltQuarStat_LOOPS, b.kept.loops)]
  | .fltLife k => BitVec.ofNat 64 (alGet 0 k b.kept.life)
  | .arcMap =>
    let first := if b.get .ifvPairCfg Fld.ifvPairCfg_ENABLE = 1 then 72 else 8
    wmk [(Fld.arcMap_OPEN_FIRST_MIB, first), (Fld.arcMap_OPEN_END_MIB, b.part.sizeMib - b.logMib),
      (Fld.arcMap_LOG_MIB, b.logMib), (Fld.arcMap_SIZE_MIB, b.part.sizeMib)]
  | .arcRankUse =>
    let mib := fun k => min (b.eng.archUsed.getD k 0 / 2 ^ 20) 65535
    wmk [(Fld.arcRankUse_JOURNAL_MIB, mib 0), (Fld.arcRankUse_SPILL_MIB, mib 1), (Fld.arcRankUse_EYEPIECE_MIB, mib 2),
      (Fld.arcRankUse_DATA_MIB, mib 3)]
  | _ => w

/-- The write-only fields of a register, which read as 0 (R11). -/
def Reg.woMask (r : Reg) : Word :=
  (r.fields.filter (fun f => f.acc = .wo)).foldl (fun w f => w ||| (Fld.mask ⟨f.lo, f.len⟩)) 0

/-- A register of the link of a Meridian port that is absent or disabled (R344). -/
def Bridge.absentLink (b : Bridge) (r : Reg) : Bool :=
  match r with
  | .ifvLinkCtrl k | .ifvLinkCmd k | .ifvLinkStat k | .ifvLinkSeq k | .ifvLinkCnt k | .ifvLinkTmo k =>
    k ≠ 4 && !b.merEnabled k
  | _ => false

/-- What a read of a register returns: fused and absent instances read 0, but for the fields that report the fusing
(R3, R424). -/
def Bridge.readReg (b : Bridge) (m : List Host.Cell) (r : Reg) : Word :=
  if r.fused b.part then
    match r with
    | .blkStatus _ => wmk [(Fld.blkStatus_FUSED, 1)]
    | .fndFinderStat _ => wmk [(Fld.fndFinderStat_STATE, 3)]
    | .pwrDomStat _ => wmk [(Fld.pwrDomStat_STATE, 4)]
    | _ => 0
  else if b.mode = 3 && !r.block.inBare then 0
  else if b.absentLink r then 0
  else b.derived m r &&& ~~~ r.woMask

/-- What a read of the 8 bytes at a control-space offset returns to bank `n` (R452). -/
def Bridge.readAt (b : Bridge) (m : List Host.Cell) (n off : Nat) : Word :=
  match Reg.ofOffset n (off / 8 * 8) with
  | some r => b.readReg m r
  | none => 0

end Sys2Proof.Machine
end

