-- ==== Sys2Proof/Machine/FlitCodec.lean ====
section
/-!
DEFINITION. The bytes of a flit (R345 to R349): header, payload, CRC-32C and the two interleaved RS(128,126) codes; and what a
lane sends of it: lane symbols, scramblers and filler groups (R329, R345).
-/
namespace Sys2Proof.Machine

open Sys2Proof

/-- Multiplication by α = x in GF(2^8) with x^8 + x^4 + x^3 + x^2 + 1 (R347). -/
def gfDouble (x : Byte) : Byte := if x.getLsbD 7 then (x <<< 1) ^^^ 0x1D#8 else x <<< 1

/-- The two parity bytes of one interleave: the remainder of the data, first byte highest, by (x - 1)(x - α) (R347,
log entry 17). -/
def rsParity (d : List Byte) : Byte × Byte :=
  d.foldl (fun (p : Byte × Byte) x =>
    let f := x ^^^ p.1
    (p.2 ^^^ f ^^^ gfDouble f, gfDouble f)) (0, 0)

/-- Bytes at even or odd offsets. -/
def everyOther (odd : Bool) : List Byte → List Byte
  | a :: b :: l => (if odd then b else a) :: everyOther odd l
  | l => if odd then [] else l

/-- The header word (R346). `kind` is 0 PAYLOAD, 1 IDLE, 2 CONTROL. -/
def flitHeader (kind : Nat) (h : FlitHdr) : Word :=
  wmk [(⟨0, 12⟩, h.seq), (⟨12, 12⟩, h.ack), (⟨24, 2⟩, kind), (⟨26, 1⟩, bit h.nak), (⟨27, 5⟩, h.first), (⟨32, 2⟩, h.csel),
    (⟨34, 16⟩, h.cval)]

/-- The 256 bytes of a flit (R345). -/
def flitBytes (kind : Nat) (h : FlitHdr) (words : List Word) : List Byte :=
  let body := wbytes (flitHeader kind h) ++ bytesOfWords ((words ++ List.replicate 30 (BitVec.allOnes 64)).take 30)
  let d := body ++ bytesOfNat 4 (crc32c body)
  let p := rsParity (everyOther false d)
  let q := rsParity (everyOther true d)
  d ++ [p.1, q.1, p.2, q.2]

/-- The control word (R349). -/
def controlWord (op ident width : Nat) (lanes : BitVec 16) : Word :=
  wmk [(⟨0, 4⟩, op), (⟨4, 4⟩, ident), (⟨8, 5⟩, width), (⟨16, 16⟩, lanes.toNat)]

/-! Lane symbols (R329, R345): a flit is 32 symbols of 8 bytes. -/

/-- The symbol value that fills, unscrambled (R329). -/
def fillerSymbol : Word := 0x0FF0C33CA55AF00F

/-- Lane symbols between two filler groups, and those of a group (R329). -/
def fillerGap : Nat := 8192
def fillerLen : Nat := 8

/-- Lane symbols that a lane sends in one tick at rate code 1, 2 or 3: 2 ns, 1 ns or 0.5 ns each (R324, R329). -/
def symbolsPerTick (rate : Nat) : Nat := [0, 10, 20, 40].getD rate 0

/-- A scrambler's seed at the first flit after training (R345). -/
def scramblerSeed (lane : Nat) : BitVec 31 := BitVec.ofNat 31 (0x7FFFFFFF ^^^ (0x01010101 * lane))

/-- One step of the PRBS31 generator x^31 + x^28 + 1: the bit it gives is its highest (log entry 117). -/
def scramblerStep (s : BitVec 31) : BitVec 31 := (s <<< 1) ||| BitVec.ofNat 31 (bit (s.getLsbD 30 != s.getLsbD 27))

/-- The next `n` bits of a generator, the first of them lowest, and its state behind them. -/
def scramblerBits : Nat → BitVec 31 → Nat × BitVec 31
  | 0, s => (0, s)
  | n + 1, s => let r := scramblerBits n (scramblerStep s); (2 * r.1 + bit (s.getLsbD 30), r.2)

/-- The generator's state when a lane has sent `n` symbols of flits since it was seeded. -/
def scramblerAt (lane : Nat) : Nat → BitVec 31
  | 0 => scramblerSeed lane
  | n + 1 => (scramblerBits 64 (scramblerAt lane n)).2

/-- The symbol that goes out on a lane for symbol `w` of a flit: it is XORed with the next 64 bits of the lane's generator. -/
def scramble (lane n : Nat) (w : Word) : Word := w ^^^ BitVec.ofNat 64 (scramblerBits 64 (scramblerAt lane n)).1

/-- The symbols of a flit that lane `n` of `w` carries: symbol i goes on lane i mod w (R345). -/
def laneSymbols (w n : Nat) (flit : List Byte) : List Word :=
  ((wordsOfBytes 32 flit).zipIdx.filter (fun p => p.2 % max 1 w = n)).map (·.1)

/-- A tick of a link that sends flits (R329): the scramblers advance over symbols of flits, and a filler group goes out after
every 8,192 of them. The link, and whether a group began. -/
def Link.symbolTick (l : Link) (rate : Nat) : Link × Bool :=
  let p := l.symbols + symbolsPerTick rate
  let round := fillerGap + fillerLen
  let flits := (min p fillerGap - min l.symbols fillerGap) + (p - round)
  ({ l with symbols := p % round, scrambled := l.scrambled + flits }, decide (l.symbols < fillerGap && fillerGap ≤ p))

/-! Training symbols (R359). -/

/-- The training symbol of lane `n`: phase 0 LOCK, 1 ADAPT, 2 DESKEW, 3 READY, 4 HOLD. -/
def trainingSymbol (n phase ident rate : Nat) (usable : BitVec 16) (width : Nat) : Word :=
  wmk [(⟨0, 16⟩, 0xB4C3), (⟨16, 5⟩, n), (⟨21, 3⟩, phase), (⟨24, 4⟩, ident), (⟨28, 4⟩, rate), (⟨32, 16⟩, usable.toNat), (⟨48, 5⟩, width)]

/-! The receiver (R347): each interleave corrects one byte; then the CRC is checked. -/

/-- One interleave of a received flit: its bytes corrected, and whether one was; `none` when more are wrong. The syndromes are the
values at 1 and at α; a single wrong byte is the one at whose place they agree. -/
def rsCorrect (l : List Byte) : Option (List Byte × Bool) :=
  let s0 := l.foldl (fun (s x : Byte) => s ^^^ x) 0
  let s1 := l.foldl (fun (s x : Byte) => gfDouble s ^^^ x) 0
  if s0 = 0 && s1 = 0 then some (l, false) else
  if s0 = 0 then none else
  let rec find : List Byte → List Byte → Byte → Option (List Byte × Bool)
    | [], _, _ => none
    | x :: rest, past, v => if v = s1 then some (rest.reverse ++ (x ^^^ s0) :: past, true) else find rest (x :: past) (gfDouble v)
  find l.reverse [] s0

/-- Two interleaves put together again. -/
def interleave : List Byte → List Byte → List Byte
  | a :: l, b :: m => a :: b :: interleave l m
  | _, _ => []

/-- What the receiver of link `k` makes of 256 bytes (R346, R347, R349): the row that the flit is. -/
def receiveFlit (k : Nat) (bytes : List Byte) : Instr :=
  match rsCorrect (everyOther false bytes), rsCorrect (everyOther true bytes) with
  | some (p, c), some (q, d) =>
    let l := interleave p q
    if bytesOfNat 4 (crc32c (l.take 248)) ≠ (l.drop 248).take 4 then .badFlit k else
    let w := wordOfBytes (l.take 8)
    let h : FlitHdr := { seq := wget w ⟨0, 12⟩, ack := wget w ⟨12, 12⟩, nak := wbit w 26, first := wget w ⟨27, 5⟩,
                         csel := wget w ⟨32, 2⟩, cval := wget w ⟨34, 16⟩ }
    let ws := wordsOfBytes 30 (l.drop 8)
    let x := ws.getD 0 0
    let ctl : CtlWord := { ident := wget x ⟨4, 4⟩, width := wget x ⟨8, 5⟩, lanes := BitVec.ofNat 16 (wget x ⟨16, 16⟩) }
    (match wget w ⟨24, 2⟩, wget x ⟨0, 4⟩ with
     | 0, _ => .payload k h ws (c || d)
     | 1, _ => .idle k h (c || d)
     | 2, 1 => .pause k ctl.lanes
     | 2, 2 => .retrainReq k ctl
     | 2, 3 => .retrainAck k ctl
     | 2, 4 => .down k
     | _, _ => .payload k { h with first := 30 } ws (c || d))
  | _, _ => .badFlit k

end Sys2Proof.Machine
end

