-- ==== Sys2Proof/Machine/Eyepiece.lean ====
section
/-!
DEFINITION. The eyepiece (R444 to R446): the records of every structure, captures and the automatic increment.
-/
namespace Sys2Proof.Machine

open Sys2Proof

/-- Indices of a structure on a part (EYE_INFO.COUNT, R446); 0 for an unknown structure. -/
def eyeCount (p : Part) : Nat → Nat
  | 0x01 => 65536 | 0x02 => 128 | 0x03 => 16384 | 0x04 => 1024 * p.apertures | 0x05 => 32768 | 0x06 => 8192
  | 0x07 => 512 * p.domes | 0x08 => 64 * p.domes | 0x09 => p.vis | 0x0A => 2 * p.apertures | 0x0B => 4096
  | 0x0C => 4096 * 2 ^ 27 | 0x0D => 4096 * p.merPorts
  | 0x0E => 16384 * (if p.ifvLanes = 0 then p.merPorts else 5)
  | 0x0F => if p.ifvLanes = 0 then p.merPorts else 5
  | 0x10 => 73 | 0x11 => 12288 | 0x12 => 2048 | 0x13 => 8046 | 0x14 => 96
  | _ => 0

/-- The shutter domain that holds a record, when one does. -/
def eyeDomain (st i : Nat) : Option Nat :=
  match st with
  | 0x01 => some (60 + i / 4096) | 0x03 => some (85 + i / 8192) | 0x04 => some (89 + i / 2048)
  | 0x05 => some (87 + i / 16384) | 0x06 => some (87 + i / 4096) | 0x07 => some (i / 512) | 0x08 => some (i / 64)
  | 0x0A => some 93 | 0x0B => some (77 + i / 1024) | 0x0C => some (77 + i / 2 ^ 27 / 1024) | 0x0D => some (54 + i / 4096)
  | 0x0E => some (if i / 16384 = 4 then 58 else 54 + i / 16384) | 0x0F => some (if i = 4 then 58 else 54 + i)
  | 0x10 => some 83 | 0x11 => some 81 | _ => none

/-- Whether the record's resource is fused off. -/
def eyeFused (p : Part) (st i : Nat) : Bool :=
  match st with
  | 0x0E => i / 16384 < 4 && p.merPorts ≤ i / 16384
  | 0x0F => i < 4 && p.merPorts ≤ i
  | 0x14 => p.domFused i
  | _ => false

/-- Whether a structure's record comes from the archive: spilled logbook slots and the mirror journal. -/
def Bridge.eyeArchive (b : Bridge) (st i : Nat) : Bool :=
  match st with
  | 0x0C => 0 < (b.queue (i / 2 ^ 27)).pages
  | 0x11 => true
  | _ => false

/-- Whether a structure's domain is closed, which no capture opens; that of a record in the archive is the archive's too (R445,
R446). -/
def Bridge.eyeClosed (b : Bridge) (st i : Nat) : Bool :=
  ((eyeDomain st i).toList ++ (if b.eyeArchive st i then [81, 82] else [])).any (fun d => b.domState d = 0 || b.domState d = 1)

/-- The slots of a queue as stored, from the oldest held: a length slot (length and the truncated flag, log entry 18),
then the words. -/
def Queue.slots (x : Queue) : List Word :=
  x.packets.flatMap (fun p => wmk [(⟨0, 16⟩, p.words.length), (⟨16, 1⟩, bit p.trunc)] :: p.words) ++
    (match x.opn with | some o => if o.dropping then [] else wmk [(⟨0, 16⟩, o.words.length)] :: o.words | none => [])

/-- Body words of a delta record after its header (R50). -/
def deltaBody : DeltaRec → List Word
  | .regWrite off half v => [wmk [(⟨0, 32⟩, off), (⟨32, 2⟩, half)], v]
  | .catEntry i img => BitVec.ofNat 64 i :: img
  | .sect ty body => wmk [(⟨0, 16⟩, ty), (⟨16, 32⟩, body.length)] :: wordsOfBytes ((body.length + 7) / 8) body
  | .create c a d r => [c, a, d, r]
  | .destroy v a => [wmk [(⟨0, 11⟩, v), (⟨16, 2⟩, a)]]
  | .mark => []

/-- Type code of a delta record. -/
def deltaType : DeltaRec → Nat
  | .regWrite .. => 1 | .catEntry .. => 2 | .sect .. => 3 | .create .. => 4 | .destroy .. => 5 | .mark => 0xE

/-- The words of a delta record (R50). -/
def deltaImage (seq : Nat) (committed : Bool) (r : DeltaRec) : List Word :=
  wmk [(⟨0, 8⟩, deltaType r), (⟨8, 24⟩, deltaWords r), (⟨32, 31⟩, seq), (⟨63, 1⟩, bit committed)] :: deltaBody r

/-- CKPT words of a channel (R381). -/
def ckptWords (c : CkptChan) : List Word :=
  [wmk [(⟨0, 13⟩, c.channel), (⟨13, 11⟩, c.vi), (⟨24, 2⟩, c.state), (⟨26, 16⟩, c.seq)], wmk [(⟨0, 36⟩, c.progress)]]

/-- A schedule's pointer and deficits; y = 2a + x. -/
def Bridge.sched (b : Bridge) (y : Nat) : Sched :=
  alGet { pointer := 0, deficits := [], dirDeficit := 0, turn := 0 } y b.eng.scheds

/-- Write a schedule. -/
def Bridge.putSched (b : Bridge) (y : Nat) (s : Sched) : Bridge :=
  { b with eng := { b.eng with scheds := alPut y s b.eng.scheds } }

/-- A domain's remaining close delay in ticks. -/
def Bridge.closeLeft (b : Bridge) (n : Nat) : Nat :=
  match b.eng.doms.find? (fun d => d.n = n) with
  | some d => if d.st = 2 then 50 * b.get (.pwrDomPol n) Fld.pwrDomPol_CLOSE_DELAY - (b.tick - d.emptySince) else 0
  | none => 0

/-- The function and instance of a source in a ledger record: finder, Meridian or Transit (R446). -/
def srcCode : Src → Nat | .finder _ => 0 | .mer .. => 1 | .transit => 2 | _ => 0

/-- TYPE of the packet that a job sends. -/
def Job.pktType (j : Job) : Nat := (j.packet 0).type

/-- Words 1 to 7 of a record (R446); words that the layout does not give read 0. -/
def Bridge.eyeWords (b : Bridge) (st i : Nat) : List Word :=
  let rd := fun (r : Reg) => b.derived [] r
  match st with
  | 0x01 => b.entry i ++ [BitVec.ofNat 64 (b.oldInflight i)]
  | 0x02 => [b.raw (.catRegion i)]
  | 0x03 =>
    match b.ledger.find? (fun e => e.idx = i) with
    | none => []
    | some e =>
      let n := match e.job.op with | .read n => n | _ => 4
      [wmk [(⟨0, 2⟩, if e.quarantined then 2 else 1), (⟨2, 2⟩, e.ap), (⟨4, 12⟩, e.job.fn), (⟨16, 11⟩, e.job.owner.getD 0),
          (⟨28, 8⟩, e.finder.getD 0), (⟨36, 2⟩, srcCode e.job.src)],
        BitVec.ofNat 64 e.job.addr, wmk [(⟨0, 31⟩, e.issued), (⟨32, 31⟩, e.until_)],
        wmk [(⟨0, 13⟩, n), (⟨13, 13⟩, e.got.length)]]
  | 0x04 =>
    match (b.pbs.filter (fun e => e.ap = i / 1024))[i % 1024]? with
    | none => []
    | some e =>
      let d := match e.job.op with | .write d _ => d.map (·.getD 0) | _ => []
      [wmk [(⟨0, 2⟩, match e.kind with | .waiting => 1 | .issued => 2 | .barrier => 3), (⟨2, 12⟩, e.fn),
          (⟨14, 16⟩, e.job.idx), (⟨30, 8⟩, e.job.gen), (⟨38, 9⟩, d.length), (⟨47, 2⟩, e.job.mark), (⟨49, 1⟩, bit e.job.cls)],
        BitVec.ofNat 64 e.job.addr, wmk [(⟨0, 31⟩, e.job.t0)]] ++ wordsOfBytes 4 d
  | 0x05 =>
    (List.range 4).map (fun k =>
      let w := 4 * (i % 2) + k
      if i / 2 % 2 = 1 then b.raw (.fndActive (i / 4) w) else b.raw (.fndShadow (i / 4) w))
  | 0x06 =>
    let x := b.chan i
    let prefix_ := progressOf x.segs
    [rd (.fndChStatus i), b.raw (.fndChProgress i), b.raw (.fndChFaultAddr i), b.raw (.fndChFaultInfo i),
      wmk [(⟨0, 32⟩, (x.segs.filter (fun s => s.st ≠ .arrived && s.st ≠ .skipped)).length),
        (⟨32, 32⟩, (x.segs.filter (fun s => s.st ≠ .unplaced)).length)],
      BitVec.ofNat 64 (combineSums (b.act i 3 Fld.fndSetCtrl_CHECK) prefix_
        ((sortBy (·.1) (x.sums.filter (fun p => p.1 < prefix_))).map (fun p => (p.2.1, p.2.2)))),
      BitVec.ofNat 64 prefix_]
  | 0x07 =>
    match (b.runList (i / 512))[i % 512]? with
    | none => []
    | some (c, s) => [wmk [(⟨0, 1⟩, 1), (⟨1, 1⟩, bit s.pinned), (⟨2, 3⟩, s.prio), (⟨5, 13⟩, c), (⟨18, 32⟩, s.idx)],
        wmk [(⟨0, 36⟩, s.off)]]
  | 0x08 =>
    let f := i / 8
    wput (rd (.fndFinderStat f)) Fld.fndFinderStat_SEGMENTS 0 ::
      (match (b.activeOn f)[i % 8]? with
       | none => []
       | some (c, s) => [wmk [(⟨0, 13⟩, c), (⟨13, 32⟩, s.idx)], BitVec.ofNat 64 (s.next - s.off),
           BitVec.ofNat 64 s.written, wmk [(⟨0, 7⟩, s.reads)]])
  | 0x09 =>
    let a := b.viAp i
    [b.raw (.viEntry i), b.raw (.viRes i), b.raw (.viCtrl i), b.raw (.dspViShare i), rd (.dspViFill i 0), rd (.dspViFill i 1),
      wmk [(⟨0, 32⟩, alGet 0 i (b.sched (2 * a)).deficits), (⟨32, 32⟩, alGet 0 i (b.sched (2 * a + 1)).deficits)]]
  | 0x0A =>
    let cmd := b.raw (.dspSchedCmd (i / 2))
    let x := i % 2 = 1
    [wmk [(⟨0, 10⟩, (b.sched i).pointer),
        (⟨10, 1⟩, wget cmd (if x then Fld.dspSchedCmd_PEND_FROM else Fld.dspSchedCmd_PEND_TO)),
        (⟨16, 32⟩, wget cmd (if x then Fld.dspSchedCmd_REV_FROM else Fld.dspSchedCmd_REV_TO))],
      wmk [(⟨0, 32⟩, (b.sched i).dirDeficit)]]
  | 0x0B =>
    let x := b.queue i
    let n := x.ahead
    [b.raw (.logQGeom i), rd (.logQStat i), b.raw (.logQLost i), x.stateWord,
      wmk [(⟨0, 28⟩, x.readPos), (⟨28, 28⟩, match x.mark with | some m => x.slotPos m | none => 0)],
      wmk [(⟨0, 28⟩, x.writePos), (⟨28, 28⟩, if x.opn.isSome then x.writePos else 0)],
      if x.pages = 0 then wmk [(⟨0, 7⟩, min n 64), (⟨8, 7⟩, min 64 (n - 64))]
      else wmk [(⟨0, 7⟩, min 64 x.head), (⟨8, 7⟩, min 64 x.tail)]]
  | 0x0C => ((b.queue (i / 2 ^ 27)).slots.drop (i % 2 ^ 27)).take 7
  | 0x0D =>
    match b.eng.merTags.find? (fun t => t.port = i / 4096 && t.tag = i % 4096) with
    | none => []
    | some t => [wmk [(⟨0, 2⟩, if t.quarantined then 2 else 1), (⟨2, 4⟩, t.job.pktType), (⟨6, 11⟩, t.job.owner.getD 0),
        (⟨17, 31⟩, t.issued)], BitVec.ofNat 64 t.job.addr, wmk [(⟨0, 31⟩, t.until_)]]
  | 0x0E =>
    let l := b.link (i / 16384)
    match l.buf[i / 8 % 2048]? with
    | none => []
    | some f =>
      let d := flitBytes 0 (l.header f.seq f.first) f.words
      wordsOfBytes 4 (d.drop (32 * (i % 8))) ++ [wmk [(⟨0, 12⟩, f.seq), (⟨12, 1⟩, 1)]]
  | 0x0F =>
    let l := b.link i
    let four := fun (c : List Nat) => wmk [(⟨0, 16⟩, c.getD 0 0), (⟨16, 16⟩, c.getD 1 0), (⟨32, 16⟩, c.getD 2 0), (⟨48, 16⟩, c.getD 3 0)]
    [b.raw (.ifvLinkStat i), rd (.ifvLinkSeq i), four l.granted, four l.consumed,
      wmk [(⟨0, 3⟩, l.phase), (⟨16, 16⟩, l.pauseLanes.toNat)]]
  | 0x10 =>
    let t := b.eng.trn
    if i = 0 then [b.raw .trnArbStat, (List.range 8).foldl (fun w r => wput w ⟨3 * r, 3⟩ (alGet 0 r t.lastAt)) 0]
    else if i ≤ 64 then
      match t.wq[i - 1]? with
      | none => []
      | some (_, q) =>
        wmk [(⟨0, 40⟩, q.burst.addr), (⟨40, 3⟩, q.burst.slot), (⟨43, 5⟩, q.burst.beats)] :: wordsOfBytes 6 q.burst.data
    else
      match t.delayed.find? (fun d => d.slot = i - 65) with
      | none => []
      | some d => [wmk [(⟨0, 40⟩, d.claim.burst.addr),
          (⟨40, 2⟩, match d.result with | none => 1 | some (some _) => 2 | some none => 3)], wmk [(⟨0, 31⟩, d.arrived)]]
  | 0x11 =>
    if i < 8192 then
      match (b.eng.reserve.flatMap (·.ckpts)).find? (fun c => c.channel = i) with
      | some c => ckptWords c ++ [BitVec.ofNat 64 b.eng.pair.rxConfirm]
      | none => []
    else
      match (b.eng.reserve.flatMap (·.logs)).find? (fun p => p.queue = i - 8192) with
      | some p => logPtrWords p
      | none => []
  | 0x12 =>
    if i = 0 then [0x544C4651, BitVec.ofNat 64 b.kept.nextSlot, BitVec.ofNat 64 b.kept.nextRec, 0]
    else alGet [] i b.kept.ring
  | 0x13 => ((b.kept.log.flatMap (fun e => deltaImage e.seq e.committed e.body)).drop (7 * i)).take 7
  | 0x14 => [wmk [(Fld.pwrDomStat_STATE, b.domState i)], BitVec.ofNat 64 (b.closeLeft i)]
  | _ => []

/-- The eight words of a record (R446). -/
def Bridge.eyeRecord (b : Bridge) (st i : Nat) (archiveErr : Bool) : List Word :=
  let closed := b.eyeClosed st i
  let fused := eyeFused b.part st i
  let archiveErr := archiveErr || (st = 0x11 && !closed && b.eng.pair.badRecords.contains i)
  let w0 := wmk [(⟨0, 8⟩, st), (⟨8, 1⟩, 1), (⟨9, 1⟩, bit closed), (⟨10, 1⟩, bit fused), (⟨11, 1⟩, bit archiveErr), (⟨16, 40⟩, i)]
  let ws := if closed || fused || archiveErr then [] else b.eyeWords st i
  w0 :: (List.range 7).map (fun k => ws.getD k 0)

/-- Whether bank `n` has a capture in progress. -/
def Bridge.eyeBusy (b : Bridge) (n : Nat) : Bool := b.eng.eyes.any (fun e => e.n = n && e.busy)

/-- Put the record of the bank's selection into its EYE_REC (R444). -/
def Bridge.eyeShow (b : Bridge) (n : Nat) (archiveErr : Bool) : Bridge :=
  let ws := b.eyeRecord (b.get (.eyeSel n) Fld.eyeSel_STRUCT) (b.get (.eyeSel n) Fld.eyeSel_INDEX) archiveErr
  (List.range 8).foldl (fun (b : Bridge) w => b.put (.eyeRec n w) (ws.getD w 0)) b

/-- Start a capture of the bank's selection: the record is the snapshot of this cycle; an archive record asks the arbiter
at rank 4 (R16, R444, R445). -/
def Bridge.eyeCapture (b : Bridge) (n : Nat) : Bridge :=
  let st := b.get (.eyeSel n) Fld.eyeSel_STRUCT
  let i := b.get (.eyeSel n) Fld.eyeSel_INDEX
  let ask : Bool := b.eyeArchive st i && !b.eyeClosed st i
  let b := (b.needDom 92).eyeShow n false
  let b := b.set (.eyeInfo n) Fld.eyeInfo_COUNT (eyeCount b.part st)
  let b := b.put (.eyeStatus n) (wmk [(Fld.eyeStatus_BUSY, 1), (Fld.eyeStatus_TICK, b.tick31)])
  let b := { b with eng := { b.eng with eyes := listPut (fun e => e.n = n) ⟨n, true, b.tick⟩ b.eng.eyes } }
  if ask then (b.askArchive 4 4 n).2 else b

/-- A capture ends: DONE is set (R444); a record with ARCHIVE_ERR raises the event (R450). -/
def Bridge.eyeDone (b : Bridge) (n : Nat) : Bridge :=
  if !b.eyeBusy n then b else
  let b := if wbit (b.raw (.eyeRec n 0)) 11 then b.raise .eye 0 else b
  let b := b.sets (.eyeStatus n) [(Fld.eyeStatus_DONE, 1), (Fld.eyeStatus_BUSY, 0)]
  { b with
    archReqs := b.archReqs.filter (fun r => !(r.user = 4 && r.arg = n))
    eng := { b.eng with eyes := listPut (fun e => e.n = n) ⟨n, false, b.tick⟩ b.eng.eyes } }

/-- An archive capture fails: ARCHIVE_ERR, words 1 to 7 read 0, the event is raised (R446, R450). -/
def Bridge.eyeFail (b : Bridge) (n : Nat) : Bridge :=
  (b.eyeShow n true).eyeDone n

/-- A read of EYE_REC[7] with AUTO_INC at 1 advances INDEX and captures again, while a next index exists (R444). -/
def Bridge.eyeAdvance (b : Bridge) (n : Nat) : Bridge :=
  let i := b.get (.eyeSel n) Fld.eyeSel_INDEX + 1
  if b.get (.eyeSel n) Fld.eyeSel_AUTO_INC = 1 && i < eyeCount b.part (b.get (.eyeSel n) Fld.eyeSel_STRUCT) then
    (b.set (.eyeSel n) Fld.eyeSel_INDEX i).eyeCapture n
  else b

end Sys2Proof.Machine
end

