-- ==== Sys2Proof/Machine/Answers.lean ====
section
/-!
DEFINITION. How requests are answered: reads of control space, of instance pages and of interrupt tables with their side
effects (R453 to R464, R221); host reads and AtomicOps (R64, R132, R135, R138, R145); upstream requests (R114, R492);
and `Bridge.settle`, which reports every request that has ended to whom it belongs.
-/
namespace Sys2Proof.Machine

open Sys2Proof

/-! AER errors (R90), numbered by the bits of the standard's status registers; correctable ones from 64 (log entry 14). -/

def aerUR : Nat := 20
def aerCA : Nat := 15
def aerTimeout : Nat := 14
def aerUnexpected : Nat := 16
def aerPoison : Nat := 12
def aerEcrc : Nat := 19
def aerHeaderOverflow : Nat := 64 + 15
def aerInternal : Nat := 22
def aerCorrected : Nat := 64 + 14

/-- Report an AER error in a function, with the severity that its register gives: at most 4 headers are held, a further
uncorrectable error is reported as Header Log Overflow (R90). -/
def Bridge.aer (b : Bridge) (ap fn err : Nat) : Bridge :=
  let cor := fun (e : Nat) => (b.cfgPut ap fn .aerCorStatus (b.cfgGet ap fn .aerCorStatus ||| 2 ^ (e - 64))).emit (.aer ap fn e 0)
  if 64 ≤ err then cor err
  else if b.cfgGet ap fn .aerHeaders < 4 then
    ((b.cfgPut ap fn .aerHeaders (b.cfgGet ap fn .aerHeaders + 1)).cfgPut ap fn .aerUncStatus
      (b.cfgGet ap fn .aerUncStatus ||| 2 ^ err)).emit
      (.aer ap fn err (if (b.cfgGet ap fn .aerUncSeverity).testBit err then 2 else 1))
  else cor aerHeaderOverflow

/-- The completion and the AER error of a failed host request (R90, log entry 19). -/
def Cause.cpl : Cause → CplStatus × Nat
  | .catalogue | .unmapped | .unsupported => (.ur, aerUR)
  | _ => (.ca, aerCA)

/-! Reads of control space. -/

/-- The highest value a peak field restarts from when a read clears it: the present count. -/
def Bridge.peakNow (b : Bridge) : Reg → Nat
  | .aptLedgerUse a => b.ledgerHeld (fun e => e.ap = a)
  | .ordPbUse a => b.pbWaiting a + b.pbIssued a
  | _ => 0

/-- What a read of the register at an offset does: it clears the RC fields that it covers whole, advances the shelf
address, and advances the eyepiece (R11, R60, R444, R462). `lo` and `hi` say which halves it covers. -/
def Bridge.readEffects (b : Bridge) (n off : Nat) (lo hi : Bool) : Bridge :=
  match Reg.ofOffset n (off / 8 * 8) with
  | none => b
  | some r =>
    if r.fused b.part || (b.mode = 3 && !r.block.inBare) || !(lo || hi) then b else
    let b := (r.fields.filter (fun f => f.acc = .rc && (lo || 32 ≤ f.lo) && (hi || f.lo + f.len ≤ 32))).foldl
      (fun (b : Bridge) f => b.set r ⟨f.lo, f.len⟩ (b.peakNow r)) b
    match r with
    | .almShelfData => b.set .almShelfAddr Fld.almShelfAddr_OFFSET (b.get .almShelfAddr Fld.almShelfAddr_OFFSET + 8)
    | .eyeRec k 7 => (b.eyeDone k).eyeAdvance k
    | .eyeRec k _ => b.eyeDone k
    | .arcRankUse =>
      let u := fun (k : Nat) (c : Bool) => if c then 0 else b.eng.archUsed.getD k 0
      { b with eng := { b.eng with archUsed := [u 0 lo, u 1 lo, u 2 hi, u 3 hi] } }
    | _ => b

/-- The archive address of the shelf byte that ALM_SHELF_ADDR names (R60, R469). -/
def Bridge.shelfAt (b : Bridge) : Nat := b.get .almShelfAddr Fld.almShelfAddr_OFFSET

/-! Reads of an instance page and of an interrupt table. -/

/-- A word of a function's MSI-X table at a table offset: entries at or beyond its vectors read 0 (R71, R221). -/
def Bridge.tableWord (b : Bridge) (ap fn off : Nat) : Word :=
  let v := off / 16
  if b.vectors ap fn ≤ v then 0 else
  let e := b.msixEntry ap fn v
  if off % 16 < 8 then BitVec.ofNat 64 e.addr else wmk [(⟨0, 32⟩, e.data), (⟨32, 1⟩, bit e.masked)]

/-- A word of a function's pending-bit array. -/
def Bridge.pbaWord (b : Bridge) (ap fn w : Nat) : Word :=
  (b.pendVec.filter (fun p => p.ap = ap && p.fn = fn && p.v / 64 = w)).foldl
    (fun (x : Word) p => x ||| BitVec.ofNat 64 (2 ^ (p.v % 64))) 0

/-- The 8 bytes at an offset of the instance page of VF `fn` of `ap`, which serves VI `v` (R153, R221, R236). -/
def Bridge.pageWord (b : Bridge) (v ap fn off : Nat) : Word :=
  if off < 0x4000 then
    let j := off / 0x80
    let c := b.viFirstCh v + j
    let w := off % 0x80 / 8
    if b.viChannels v ≤ j then 0
    else if w < 8 then b.raw (.fndShadow c w)
    else if w = 9 then b.derived [] (.fndChStatus c)
    else if w = 10 then b.raw (.fndChProgress c)
    else if w = 11 then b.raw (.fndChFaultAddr c)
    else if w = 12 then b.raw (.fndChFaultInfo c)
    else 0
  else if off / 8 = 0x6000 / 8 then
    wmk [(Fld.viSelfStatus_VI, v), (Fld.viSelfStatus_CHANNELS, b.viChannels v), (Fld.viSelfStatus_QUEUES, b.viQueues v),
      (Fld.viSelfStatus_VECTORS, b.viVectors v), (Fld.viSelfStatus_SELF_POLICY, b.get (.viCtrl v) Fld.viCtrl_SELF_POLICY)]
  else if off / 8 = 0x6010 / 8 then wmk [(Fld.viSelfCount_RESETS, alGet 0 v b.eng.resets)]
  else if off / 8 = 0x6F20 / 8 then alGet 0 (ap * 4096 + fn) b.barStat
  else if 0x7000 ≤ off && off < 0xF000 then b.tableWord ap fn ((off - 0x7000) / 8 * 8)
  else if 0xF000 ≤ off && off < 0xF100 then b.pbaWord ap fn ((off - 0xF000) / 8)
  else 0

/-- The scope of a barrier-read register at an offset: of an instance page, or of control space for Aperture `a`. -/
def barrierReg (page : Bool) (ap off : Nat) : Option Nat :=
  let o := off / 8 * 8
  let base := if page then 0x6F00 else 0x600100 + 0x40 * ap
  if o = base + 8 then some 0 else if o = base + 16 then some 1 else if o = base + 24 then some 2 else none

/-- A read of at most 8 bytes, within one register, of control space (SPACE 6), an instance page (7) or an interrupt
table (8): it ends at once, but for a barrier register and a CONSUME read. -/
def Bridge.ctlRead (b : Bridge) (m : List Host.Cell) (ap fn : Nat) (j : Job) : Bridge :=
  let n := match j.op with | .read n => n | _ => 0
  let give := fun (b : Bridge) (w : Word) => b.finish j (.ok (((wbytes w).drop (j.addr % 8)).take n) false)
  let bar := fun (scope : Nat) => (b.startBarrier ap fn scope 1 0 none (.hostFn ap fn) (some j)).2
  if j.space = 6 then
    match barrierReg false 0 j.addr, barrierReg false 1 j.addr, barrierReg false 2 j.addr, barrierReg false 3 j.addr with
    | some s, _, _, _ => (b.startBarrier 0 0 s 1 0 none (.hostFn 0 0) (some j)).2
    | _, some s, _, _ => (b.startBarrier 1 0 s 1 0 none (.hostFn 1 0) (some j)).2
    | _, _, some s, _ => (b.startBarrier 2 0 s 1 0 none (.hostFn 2 0) (some j)).2
    | _, _, _, some s => (b.startBarrier 3 0 s 1 0 none (.hostFn 3 0) (some j)).2
    | _, _, _, _ =>
      match Reg.ofOffset ap (j.addr / 8 * 8) with
      | some .almShelfData => (b.readEffects ap j.addr true true).toTarget { j with space := 2, addr := b.shelfAt + j.addr % 8 }
      | _ =>
      let lo := decide (j.addr % 8 = 0 && 4 ≤ n)
      let hi := decide (j.addr % 8 ≤ 4 && 8 ≤ j.addr % 8 + n)
      give (b.readEffects ap j.addr lo hi) (b.readAt m ap j.addr)
  else if j.space = 7 then
    match b.viOf ap fn with
    | none => b.finish j (.err .unsupported)
    | some v =>
      if 0x4000 ≤ j.addr && j.addr < 0x6000 then
        let k := (j.addr - 0x4000) / 0x200
        if b.viQueues v ≤ k then b.finish j (.ok (List.replicate n 0) false)
        else b.toLogbook { j with space := 3, port := 0, addr := 4096 * (b.viFirstLq v + k) + (j.addr - 0x4000) % 0x200 }
      else match barrierReg true 0 j.addr with
        | some s => bar s
        | none => give b (b.pageWord v ap fn j.addr)
  else give b (if j.addr < 0x8000 then b.tableWord ap 0 (j.addr / 8 * 8) else b.pbaWord ap 0 ((j.addr - 0x8000) / 8))

/-! Host reads and AtomicOps. -/

/-- Field offsets and values of the bytes that a buffered write stores, in the request's order. -/
def Job.fieldBytes (j : Job) : List (Nat × Byte) :=
  match j.op with
  | .write d _ => d.zipIdx.filterMap (fun p => p.1.map (fun v => ((j.off + p.2) ^^^ orderMask j.order, v)))
  | _ => []

/-- Bytes of a target that a job touches. -/
def Job.span (j : Job) : Nat :=
  match j.op with
  | .read n | .rload n => n
  | .write d _ => d.length
  | .cstore d _ => d.length
  | .atomic o d _ => if o < 5 then d.length else d.length / 2
  | _ => 0

/-- Whether two jobs touch overlapping bytes of one path. -/
def Job.overlaps (i j : Job) : Bool :=
  i.space = j.space && i.port = j.port && i.addr < j.addr + j.span && j.addr < i.addr + i.span

/-- The bytes of a read when the posting buffer covers them all (R138): each from the youngest write of the function with
the same entries and generations (R117, R118). Bytes of a poisoned write are given like any others, and the read is clean (DESIGN
CHOICE, log entry 112). -/
def Bridge.forwarded (b : Bridge) (x : HostReadRec) : Option (List Byte) :=
  let ws := b.pbs.filter (fun e => e.kind ≠ .barrier && e.ap = x.ap && e.fn = x.fn && e.job.id < x.id &&
    x.jobs.all (fun j => e.job.entry = j.entry && e.job.idx = j.idx && e.job.gen = j.gen))
  let l := (ws.flatMap (fun e => e.job.fieldBytes)).reverse
  let has := fun i => l.any (fun p => p.1 = i)
  if b.get (.ordAptCfg x.ap) Fld.ordAptCfg_FWD_EN = 1 && x.kind = .read && x.jobs.all (fun j => !j.cls) && 0 < x.len &&
      x.jobs ≠ [] &&
      (List.range x.len).all (fun i => has (x.off + i)) then
    some ((List.range x.len).map (fun i => assocGet 0 (x.off + i) l))
  else none

/-- Whether a host read that is not forwarded may go to its target now (R129, R132, R138, R143). -/
def Bridge.readReady (b : Bridge) (x : HostReadRec) : Bool :=
  x.jobs.all (fun j =>
    !b.writes.any (fun w => w.src = j.src && w.id < x.id && (w.overlaps j || (w.space = j.space && w.port = j.port && j.cls && w.cls))) &&
    (x.ro || !b.pbs.any (fun e => e.kind = .waiting && e.ap = x.ap && e.fn = x.fn && e.job.id < x.id &&
      e.job.space = j.space && e.job.port = j.port)) &&
    !b.hostReads.any (fun y => y.ap = x.ap && y.fn = x.fn && y.id < x.id &&
      y.jobs.any (fun i => i.space = j.space && i.port = j.port)) &&
    !b.acquiring j.src j.space j.port)

/-- Write a host request in progress. -/
def Bridge.putRead (b : Bridge) (x : HostReadRec) : Bridge :=
  { b with hostReads := b.hostReads.map (fun y => if y.id = x.id then x else y) }

/-- Remove a host request. -/
def Bridge.dropRead (b : Bridge) (id : Nat) : Bridge :=
  { b with hostReads := b.hostReads.filter (fun y => y.id ≠ id) }

/-- Answer a host request: its data, or the status and AER error of its failure (R90). -/
def Bridge.answerRead (b : Bridge) (x : HostReadRec) : Bridge :=
  let b := b.dropRead x.id
  match x.err with
  | some c => (b.aer x.ap x.fn c.cpl.2).emit (.hostCpl x.ap x.tag c.cpl.1 [] false)
  | none => b.emit (.hostCpl x.ap x.tag .sc (assemble x.len x.data) x.poison)

/-- Whether writes that an answering port delivered before its answer have not yet been issued on the request's Aperture
(R135). -/
def Bridge.readBehind (b : Bridge) (x : HostReadRec) : Bool :=
  x.answered.any (fun a => b.reqs.any (fun j => j.op.isWrite && j.port = x.ap && j.id < a.2.2 &&
    (match j.src with | .mer p _ _ => a.1 = 0 && a.2.1 = p | .transit => a.1 = 1 | _ => false)))

/-- Send what a host read waits to send, or answer it from the posting buffer. -/
def Bridge.pumpRead (b : Bridge) (m : List Host.Cell) (x : HostReadRec) : Bridge :=
  if x.jobs = [] then (if x.left = 0 && !b.readBehind x then b.answerRead x else b)
  else match b.forwarded x with
    | some d => b.answerRead { x with jobs := [], left := 0, data := d.zipIdx.map (fun p => (p.2, p.1)) }
    | none =>
      if !b.readReady x then b else
      x.jobs.foldl (fun (b : Bridge) j => if 6 ≤ j.space && j.space ≤ 8 then b.ctlRead m x.ap x.fn j else b.toTarget j)
        (b.putRead { x with jobs := [], left := x.jobs.length })

/-- The operand bytes of an AtomicOp in target order (R109, R145): the byte at target offset `t` is that of field offset
`t` XOR mask. -/
def targetOrder (j : Job) (l : List Byte) : List Byte :=
  (List.range l.length).map (fun k => l.getD (((j.off + k) ^^^ orderMask j.order) - j.lo) 0)

/-- OP of a native atomic packet (R278). -/
def atomicOp (k : AtomicKind) (size : Nat) : Nat :=
  match k with
  | .fetchAdd => if size = 4 then 1 else 2
  | .swap => if size = 4 then 3 else 4
  | .cas => if size = 4 then 5 else if size = 8 then 6 else 7

/-- The new value of an atomic operation on little-endian operands (R278). -/
def atomicNew (k : AtomicKind) (size : Nat) (old cmp val : List Byte) : List Byte :=
  match k with
  | .fetchAdd => bytesOfNat size (natOfBytes old + natOfBytes val)
  | .swap => val
  | .cas => if old = cmp then val else old

/-- The next request of a retry loop (R145): it goes before the function's later requests on the path (R129, R132). -/
def Bridge.atomicNext (b : Bridge) (x : HostReadRec) (j : Job) (op : JobOp) (mark : Nat) : Bridge :=
  let (id, b) := b.fresh
  (b.putRead x).toMeridianNext { j with id := id, op := op, mark := mark }

/-- The end of a request of an AtomicOp (R145, R278, R286). -/
def Bridge.endAtomic (b : Bridge) (x : HostReadRec) (j : Job) (r : Res) (k : AtomicKind) (size : Nat) (cmp val : List Byte)
    (bad : Bool) (n : Nat) : Bridge :=
  let fail := fun (b : Bridge) (c : Cause) => b.putRead { x with left := 0, err := some c }
  let give := fun (b : Bridge) (old : List (Nat × Byte)) => b.putRead { x with left := 0, data := old }
  match j.op, r with
  | _, .err c => fail b c
  | .rload _, .ok d poison | .rload _, .rsv _ d poison =>
    if poison then fail b .completerAbort else
    let new := atomicNew k size d (targetOrder j cmp) (targetOrder j val)
    b.atomicNext { x with data := pieceBytes j d } j (.cstore new bad) 2
  | .cstore _ _, .rsv 2 _ _ =>
    if n + 1 < 16 then b.atomicNext { x with kind := .atomic k size cmp val bad (n + 1) } j (.rload size) 1
    else fail ((b.bump (.ordAtomicStat x.ap) Fld.ordAtomicStat_ABORTED).raise .ord 2) .completerAbort
  | .cstore _ _, _ => give b x.data
  | _, .ok d poison | _, .rsv _ d poison => if poison then fail b .completerAbort else give b (pieceBytes j d)

/-- The end of a piece of a host request. -/
def Bridge.endHostRead (b : Bridge) (id : Nat) (j : Job) (r : Res) : Bridge :=
  match b.hostReads.find? (fun x => x.id = id) with
  | none => b
  | some x =>
    let x := if j.space ≤ 1 then { x with answered := x.answered ++ [(j.space, j.port, b.nextId)] } else x
    match x.kind with
    | .atomic k size cmp val bad n => (b.putRead x).endAtomic x j r k size cmp val bad n
    | _ =>
      match r with
      | .err c => b.putRead { x with left := x.left - 1, err := some (x.err.getD c) }
      | .ok d p | .rsv _ d p =>
        b.putRead { x with left := x.left - 1, data := x.data ++ pieceBytes j d, poison := x.poison || p }

/-! Host posted writes (R90, R137, R142, R437). -/

/-- The end of a piece of a host posted write: its entry is freed; a failure is reported by error message and, but for a
timeout and a Transit failure that have records of their own, by a POSTED_ERROR record. -/
def Bridge.endHostWrite (b : Bridge) (j : Job) (r : Res) : Bridge :=
  let fn := match j.src with | .hostFn _ f => f | _ => 0
  let ap := match j.src with | .hostFn a _ => a | _ => 0
  let b := b.freePb j.id
  match r with
  | .err c =>
    let b := b.aer ap fn c.cpl.2
    if c = .merTimeout || c = .archiveTimeout || c = .transitError || c = .transitTimeout then b
    else b.record 0x04 (.apt ap) j.owner (some ap) (BitVec.ofNat 64 j.addr)
      (packIdx j.idx j.gen j.space j.port ||| wmk [(⟨32, 8⟩, c.cpl.2)])
  | _ => b

/-! Upstream requests. -/

/-- Send a packet that answers an agent (R270, R285); a port whose link is down is owed nothing (R289). -/
def Bridge.answerMer (b : Bridge) (port tag vi : Nat) (dir : Bool) (resp : Nat) (data : Option (List Byte)) (poison : Bool) :
    Bridge :=
  b.sendPacket port
    { type := if data.isSome then 9 else 8, tag := tag, len := (data.getD []).length - 1, vi := vi, dir := dir, resp := resp,
      poison := poison, data := data.getD [] }

/-- Whether a failed read is one that an entry's ERRMAP answers for (R114): it failed beyond the bridge. A miss, a refused logbook
access and one that EXACT refuses never went there (R110, R121, R242). -/
def Cause.mapped : Cause → Bool
  | .catalogue | .logbookRefused | .exactRefused => false
  | _ => true

/-- Write the ERRMAP fault record (R114, R437). -/
def Bridge.errmapRecord (b : Bridge) (x : UpRec) (owner : Option Nat) : Bridge :=
  b.record 0x06 .cat owner none (BitVec.ofNat 64 x.addr) (packIdx x.idx x.gen 0 0 ||| wmk [(⟨32, 2⟩, x.errmap)])

/-- Answer an upstream request whose pieces have all ended (R114, R270, R286, R309, R492). What another agent answers to a
packet that was passed on goes back unchanged (R285). -/
def Bridge.answerUp (b : Bridge) (x : UpRec) (owner : Option Nat) : Bridge :=
  let b := { b with ups := b.ups.filter (fun y => y.id ≠ x.id) }
  let data := assemble x.len x.data
  match x.sender with
  | .mer port tag vi dir type _ =>
    let own := x.err = some .unmapped || x.err = some .tgtFault
    let reads := type = 0 || (type = 2 && !own)
    match x.err with
    | none =>
      if type = 1 || type = 3 || x.resp = 5 then b.answerMer port tag vi dir x.resp none false
      else b.answerMer port tag vi dir x.resp (some data) x.poison
    | some c =>
      if reads && c.mapped then
        let b := b.errmapRecord x owner
        if x.errmap = 1 then b.answerMer port tag vi dir 0 (some (List.replicate x.len 0xFF)) false
        else if x.errmap = 2 then b.answerMer port tag vi dir 0 (some (List.replicate x.len 0)) true
        else b.answerMer port tag vi dir 4 none false
      else
        let b := if c = .masterDisabled then b.errmapRecord x owner else b
        b.answerMer port tag vi dir (if c = .catalogue || c = .unmapped then 3 else 4) none false
  | .transit slot =>
    if x.write then (if x.err = some .masterDisabled then b.errmapRecord x owner else b) else
    let bad := x.err.isSome || x.poison
    let b := if bad && (match x.err with | some c => c.mapped | none => true) then b.errmapRecord x owner else b
    let res : Option (List Byte) :=
      if !bad then some data
      else if x.errmap = 1 && (match x.err with | some c => c.mapped | none => true) then some (List.replicate x.len 0xFF)
      else none
    { b with eng := { b.eng with trn := { b.eng.trn with delayed := b.eng.trn.delayed.map (fun d =>
        if d.slot = slot && d.up = x.id + 1 then { d with result := some res, arrived := b.tick } else d) } } }

/-- The end of a piece of an upstream request. -/
def Bridge.endUp (b : Bridge) (id : Nat) (j : Job) (r : Res) : Bridge :=
  match b.ups.find? (fun x => x.id = id) with
  | none => b
  | some x =>
    let x := match r with
      | .err c => { x with left := x.left - 1, err := some (x.err.getD c) }
      | .ok d p => { x with left := x.left - 1, data := x.data ++ pieceBytes j d, poison := x.poison || p }
      | .rsv k d p => { x with left := x.left - 1, data := x.data ++ pieceBytes j d, poison := x.poison || p, resp := k }
    if x.left = 0 then b.answerUp x j.owner
    else { b with ups := b.ups.map (fun y => if y.id = id then x else y) }

/-- Contiguous enabled runs of write data, each with its index. -/
def enabledRuns : Nat → List (Option Byte) → List (Nat × List Byte)
  | _, [] => []
  | i, none :: l => enabledRuns (i + 1) l
  | i, some v :: l =>
    match enabledRuns (i + 1) l with
    | (k, d) :: r => if k = i + 1 then (i, v :: d) :: r else (i, [v]) :: (k, d) :: r
    | [] => [(i, [v])]

/-- Whether the host standard can carry write data at an address in one request: only its first and last double words may
have bytes that are not enabled (PRESUMED, log entry 106). -/
def hostEnables (addr : Nat) (d : List (Option Byte)) : Bool :=
  let first := addr / 4
  let last := (addr + d.length - 1) / 4
  d.zipIdx.all (fun p => p.1.isSome || (addr + p.2) / 4 = first || (addr + p.2) / 4 = last)

/-- The writes that a piece of a request becomes: cut where the target cannot express its byte enables (R109). -/
def solidPieces (space addr : Nat) (d : List (Option Byte)) : List (Nat × List (Option Byte)) :=
  if space = 0 || (space = 4 && !hostEnables addr d) then
    (enabledRuns 0 d).map (fun r => (r.1, r.2.map some))
  else [(0, d)]

/-- Send the pieces of an upstream request through a translation (R103, R110, R134). `mk` gives the operation of a piece at a
target offset, `fix` what else a piece carries. An unmarked request may leave with relaxed ordering (R112). -/
def Bridge.upPieces (b : Bridge) (sender : UpFrom) (src : Src) (x : Xlat) (addr len : Nat) (write : Bool)
    (ps : List (Nat × Nat)) (mk : Nat → Nat → JobOp) (mark : Nat) (ro : Bool) (fix : Job → Job := id) : Bridge :=
  let r := x.route
  let (id, b) := b.fresh
  let u : UpRec := { id := id, sender := sender, idx := x.idx, gen := x.get entGEN, errmap := x.get entERRMAP, addr := addr,
                     write := write, resp := 0, off := x.off, len := len, left := 0, data := [], poison := false, err := none }
  let owner := if x.get entDIRECTOR = 1 then none else some (x.get entOWNER)
  if !b.mayIssue r then b.answerUp { u with err := some .masterDisabled } owner
  else if (x.get entWIDTH = 2 && ps.length ≠ 1) || !r.widthOk (b.hostLimit r.port write) x.off (x.off + len) then
    b.answerUp { u with err := some .exactRefused } owner
  else
    let mark := if x.get entCLASS = 1 && x.get entSPACE = 0 then 0 else mark
    { b with ups := b.ups ++ [{ u with left := ps.length }] }.sendPieces
      (fun jid t n => fix (b.pieceJob r (.up id) src jid x.off (x.off + len) t (mk t n) mark ro)) ps

/-- The target transactions of an upstream request. -/
def Bridge.upSpans (b : Bridge) (x : Xlat) (len : Nat) (write : Bool) : List (Nat × Nat) :=
  x.route.cuts (b.hostLimit (x.get entPORT) write) x.off (x.off + len)

/-- Send an upstream request with every byte enabled. -/
def Bridge.upIssue (b : Bridge) (sender : UpFrom) (src : Src) (x : Xlat) (addr len : Nat) (write : Bool)
    (mk : Nat → Nat → JobOp) (mark : Nat) (ro : Bool) (fix : Job → Job := id) : Bridge :=
  b.upPieces sender src x addr len write (b.upSpans x len write) mk mark ro fix

/-! Transit cycles toward the bridge (R308, R309). -/

/-- Write the Transit controller. -/
def Bridge.putTrn (b : Bridge) (t : Transit) : Bridge := { b with eng := { b.eng with trn := t } }

/-- The bytes that a burst enables, as options in address order. -/
def burstBytes (t : TransitBurst) : List (Option Byte) :=
  (List.range (8 * t.beats)).map (fun i => if (t.be.getD (i / 8) 0).getLsbD (i % 8) then some (t.data.getD i 0) else none)

/-- First enabled byte and one past the last. -/
def burstSpan (t : TransitBurst) : Nat × Nat :=
  let on : List Nat := (burstBytes t).zipIdx.filterMap (fun p => p.1.map (fun _ => p.2))
  (on.head?.getD 0, (on.getLast?.map (· + 1)).getD 0)

/-- The translation of a burst (R103); none for a miss. -/
def Bridge.trnLookup (b : Bridge) (t : TransitBurst) : Option Xlat :=
  match b.transitRegion t.addr with
  | some r => b.lookup (slotTrn r) (t.addr - 4096 * b.region (slotTrn r) regBASE) (8 * t.beats)
  | none => none

/-- The target transactions of a burst: those of its span of enabled bytes, cut for a write where the target cannot express
its byte enables (R109). -/
def Bridge.trnSpans (b : Bridge) (x : Xlat) (t : TransitBurst) (write : Bool) : List (Nat × Nat) :=
  let (lo, hi) := burstSpan t
  let y := { x with off := x.off + lo }
  if hi = 0 then [] else
  let ps : List (Nat × Nat) := b.upSpans y (hi - lo) write
  if !write then ps else ps.flatMap (fun p =>
    (solidPieces (x.get entSPACE) (x.base + p.1) (pieceData (x.get entORDER) y.off ((burstBytes t).drop lo |>.take (hi - lo)) p.1 p.2)).map
      (fun q => (p.1 + q.1, q.2.length)))

/-- Send a claimed burst on through its entry, in bus order (R134). A burst that enables nothing sends nothing. -/
def Bridge.trnSend (b : Bridge) (c : Claimed) (write : Bool) : Bridge :=
  let t := c.burst
  let x := c.x
  let (lo, hi) := burstSpan t
  let ps := b.trnSpans x t write
  let y := { x with off := x.off + lo }
  if ps = [] then b else
  b.upPieces (.transit t.slot) .transit y (t.addr + lo) (hi - lo) write ps
    (fun a n => if write then .write (pieceData (x.get entORDER) y.off ((burstBytes t).drop lo |>.take (hi - lo)) a n) t.poisoned
      else .read n) (if write then 2 else 1) false

/-- Whether some request of upstream request `id` has not yet left the bridge. -/
def Bridge.upWaiting (b : Bridge) (id : Nat) : Bool :=
  (b.eng.merPorts.flatMap (·.waiting) ++ b.reqs ++ b.eng.trn.queue.map (·.job) ++ b.archReqs.filterMap (·.job)).any
    (fun j => j.origin = .up id)

/-- Send on the bursts of the write queue that have not been sent. -/
def Bridge.sendWq (b : Bridge) : Bridge :=
  let (b, l) := b.eng.trn.wq.foldl (fun (p : Bridge × List (Nat × Claimed)) e =>
    if e.1 ≠ 0 then (p.1, p.2 ++ [e]) else
    let b := p.1.trnSend e.2 true
    (b, if b.nextId = p.1.nextId then p.2 else p.2 ++ [(p.1.nextId + 1, e.2)])) (b, [])
  b.putTrn { b.eng.trn with wq := l }

/-- Write a delayed read. -/
def Bridge.putDelayed (b : Bridge) (d : Delayed) : Bridge :=
  b.putTrn { b.eng.trn with delayed := listPut (fun x => x.slot = d.slot) d b.eng.trn.delayed }

/-- Start the delayed reads that have not been sent; one that asks for nothing has its data at once. -/
def Bridge.sendDelayed (b : Bridge) : Bridge :=
  (b.eng.trn.delayed.filter (fun d => d.up = 0 && d.result.isNone)).foldl (fun (b : Bridge) d =>
    if (burstSpan d.claim.burst).2 = 0 then b.putDelayed { d with result := some (some []), arrived := b.tick }
    else (b.putDelayed { d with up := b.nextId + 1 }).trnSend d.claim false) b

/-- Data of a delayed read in lane order: the bytes of its span, the others 0. -/
def Delayed.lanes (d : Delayed) (l : List Byte) : List Byte :=
  let (lo, hi) := burstSpan d.claim.burst
  (List.range (8 * d.claim.burst.beats)).map (fun i => if lo ≤ i && i < hi then l.getD (i - lo) 0 else 0)

/-- The beats of a burst that are transferred: those before the first at whose TRDY_N edge another device holds TERR_N or TRTY_N
low (R295). -/
def transferred (t : TransitBurst) : Nat :=
  min t.beats ((t.lines.findIdx? (fun p => p.1 || p.2)).getD t.beats)

/-- A burst cut to the beats that are transferred (R295). -/
def keptBurst (t : TransitBurst) : TransitBurst :=
  { t with beats := transferred t, be := t.be.take (transferred t), data := t.data.take (8 * transferred t) }

/-- Answer a read cycle whose data has come, with the beats that are transferred; where none is, the delayed read stays for the
repeat (R295, R309). -/
def Bridge.answerCycle (b : Bridge) (d : Delayed) : Bridge :=
  match d.result with
  | some (some l) =>
    if transferred d.claim.burst = 0 then b.putDelayed { d with onBus := none }
    else b.emit (.trnData d.slot ((d.lanes l).take (8 * transferred d.claim.burst)))
  | some none => b.emit (.trnErr d.slot)
  | none => b

/-- The Transit target goes on as far as it can, in the modes that serve: write bursts are sent on and leave the queue,
waiting bursts take the room, reads start and cycles whose data has come end. Upstream requests wait in Service (R402). -/
def Bridge.pumpTransit (b : Bridge) : Bridge :=
  let t := b.eng.trn
  if (t.wq = [] && t.pendingWait = [] && t.delayed = []) || b.mode < 4 || 8 < b.mode then b else
  let b := b.sendWq
  let b := b.putTrn { b.eng.trn with wq := b.eng.trn.wq.dropWhile (fun e => !b.upWaiting (e.1 - 1)) }
  let room := 64 - b.eng.trn.wq.length
  let in_ := b.eng.trn.pendingWait.take room
  let b := b.putTrn { b.eng.trn with
    wq := b.eng.trn.wq ++ in_.map (fun p => (0, p.1)), pendingWait := b.eng.trn.pendingWait.drop room }
  let b := (in_.foldl (fun (b : Bridge) p => b.emit (.trnRdy p.1.burst.slot)) b).sendWq.sendDelayed
  let due := b.eng.trn.delayed.filter (fun d => d.result.isSome && d.onBus.isSome)
  due.foldl (fun (b : Bridge) d => b.answerCycle d)
    (b.putTrn { b.eng.trn with delayed := b.eng.trn.delayed.filter (fun d => !(d.result.isSome && d.onBus.isSome)) })

/-! Barriers and flushing reads. -/

/-- Whether a flushing read was to prove a write for whom it was made: a barrier, a segment, a checksum store. -/
def Bridge.provesFor (b : Bridge) (j w : Job) : Bool :=
  j.proves w && (match j.origin, w.origin with
    | .barFlush id, _ => b.barriers.any (fun x => x.id = id && x.covers.contains w.id)
    | .segFlush c i _, .seg k n _ => c = k && i = n
    | .checkStore c, .checkStore k => c = k
    | _, _ => false)

/-- A flushing read that failed: the writes that it was to prove have failed, and the barriers that cover them fault. For a
barrier's own, each write that retires by timeout has its record; after another failure the earliest has one (R142). -/
def Bridge.flushFailed (b : Bridge) (j : Job) (timeout : Bool) : Bridge :=
  let ws := b.proving.filter (b.provesFor j)
  let b := ws.foldl (fun (b : Bridge) w => b.faultBarriers w)
    { b with proving := b.proving.filter (fun w => !ws.any (fun x => x.id = w.id)) }
  match j.origin with
  | .barFlush _ => (if timeout then ws else ws.take 1).foldl (fun (b : Bridge) w => b.retireWrite w) b
  | _ => b

/-- Complete a barrier (R140 to R142): its status word is set, its reader is answered, FAULT raises BAR_FAULT. A Meridian BARRIER
answers TGT_FAULT and raises nothing (DESIGN CHOICE, log entry 113). -/
def Bridge.completeBarrier (b : Bridge) (x : Barrier) : Bridge :=
  let b := { b with barriers := b.barriers.filter (fun y => y.id ≠ x.id) }
  if x.form = 3 then
    match x.sender with
    | some (.mer port tag vi dir _ _) => b.answerMer port tag vi dir (if x.fault.isSome then 4 else 0) none false
    | _ => b
  else
    let w := x.word true x.answered
    let b := if wget (alGet 0 (x.ap * 4096 + x.fn) b.barStat) Fld.ordStatus_SEQ = x.seq then
      { b with barStat := alPut (x.ap * 4096 + x.fn) w b.barStat } else b
    let b := if x.fault.isSome then b.raise .ord 0 else b
    let b := { b with pbs := b.pbs.filter (fun e => !(e.kind = .barrier && e.job.id = x.id)) }
    let b := match x.chan with
      | some c =>
        let y := b.chan c
        if y.barrier = some x.id then b.putChan { y with barrier := none, barrierDone := true } else b
      | none => b
    if x.form = 1 && !x.answered then
      match x.job with
      | some j => b.finish j (.ok (((wbytes w).drop (j.addr % 8)).take j.span) false)
      | none => match x.reader with
        | some a => b.emit (.hostCpl a x.tag .sc (wbytes w) false)
        | none => b.emit (.regData w)
    else b

/-! Settling. -/

/-- The end of the service-port cycle (R321). -/
def Bridge.endSvc (b : Bridge) (j : Job) (r : Res) : Bridge :=
  let b := { b with eng := { b.eng with trn := { b.eng.trn with svcPending := false } } }
  let b := b.sets .trnSvcCmd [(Fld.trnSvcCmd_DONE, 1), (Fld.trnSvcCmd_BUSY, 0)]
  let b := b.set .trnArbStat Fld.trnArbStat_EMERGENCY 0
  match r with
  | .err _ => b.set .trnSvcCmd Fld.trnSvcCmd_ERR 1
  | .ok d _ | .rsv _ d _ =>
    let b := b.set .trnSvcCmd Fld.trnSvcCmd_ERR 0
    if j.op.isWrite then b else b.put .trnSvcData (wordOfBytes ((d ++ List.replicate 8 0).take 8).reverse)

/-- The end of an access of ALM_SHELF_DATA by a register row (R16, R60): a read gives the halves that it covers, one that failed a
free value (log entry 4). -/
def Bridge.endShelf (b : Bridge) (j : Job) (r : Res) : Bridge :=
  let mask := halfMask (j.lo = 1) (j.hi = 1)
  if j.op.isWrite then b else
  match r with
  | .ok d _ | .rsv _ d _ => b.emit (.regData (wordOfBytes d &&& mask))
  | .err _ => let (x, b) := b.draw; b.emit (.regData (x &&& mask))

/-- What the failure of a write means for barriers and records, whatever its source (R142, R437): a write that retires by timeout
has a record of its own, but for a segment's, which the channel reports, and for the Transit wait's, whose record stands. -/
def Bridge.retired (b : Bridge) (j : Job) (r : Res) : Bridge :=
  if !j.op.isWrite then b else
  match r with
  | .err .merTimeout | .err .archiveTimeout => (match j.origin with | .seg .. => b.faultBarriers j | _ => b.retireWrite j)
  | .err .transitTimeout => b.faultBarriers j
  | _ => b

/-- What a flushing read says of the writes before it (R21, R142, R173). -/
def Bridge.flushEnded (b : Bridge) (j : Job) (r : Res) : Bridge :=
  if j.op ≠ .flush then b else
  match r with
  | .ok _ false => b.proved j
  | r => b.flushFailed j (r = .err .completionTimeout)

/-- Report the end of a request to whom it belongs. -/
def Bridge.endJob (b : Bridge) (j : Job) (r : Res) : Bridge :=
  let b := (b.retired j r).flushEnded j r
  match j.origin with
  | .hostWrite => b.endHostWrite j r
  | .hostRead id => b.endHostRead id j r
  | .up id => b.endUp id j r
  | .svc => b.endSvc j r
  | .shelf _ => b.endShelf j r
  | .seg .. | .table .. | .segFlush .. | .descriptor _ | .checkStore _ | .crec _ => b.chanDone j r
  | .message _ | .irqEvent _ | .barFlush _ | .dead => b

/-- Write TRN_ERR_LAST. -/
def Bridge.trnErrLast (b : Bridge) (addr slot kind : Nat) : Bridge :=
  b.put .trnErrLast (wmk [(Fld.trnErrLast_ADDR, addr), (Fld.trnErrLast_SLOT, slot), (Fld.trnErrLast_KIND, kind),
    (Fld.trnErrLast_VALID, 1)])

/-- A TRANSIT fault record with TRN_ERR_LAST (R437). -/
def Bridge.trnRecord (b : Bridge) (vi ap : Option Nat) : Bridge := b.record 0x0D .trn vi ap (b.raw .trnErrLast) 0

/-- A route is dropped (R313): KIND 8 with the line's address and slot left open by the spec (free values, log entry 4),
IRQ_DROP, a record. -/
def Bridge.irqDrop (b : Bridge) : Bridge :=
  let (free, b) := b.draw
  ((b.trnErrLast (wget free ⟨0, 40⟩) (wget free ⟨40, 3⟩) 8).raise .trn 3).trnRecord none none

/-- Answer a refused port access of a command row to its source (R242, R455): the host by error message and POSTED_ERROR record, a
Meridian agent by TGT_FAULT, a Transit master by TERR_N. `addr` is where the access stands. A host function's entry is not among the
row's operands (log entry 114). -/
def Bridge.portAnswerRefused (b : Bridge) (s : PortSrc) (addr : Nat) : Bridge :=
  let host := fun (b : Bridge) (ap fn : Nat) (vi : Option Nat) (w : Word) =>
    (b.aer ap fn aerCA).record 0x04 (.apt ap) vi (some ap) (BitVec.ofNat 64 addr) (w ||| wmk [(⟨32, 8⟩, aerCA)])
  match s with
  | .vf ap vf =>
    let v := b.viOf ap vf
    let i := (v.map b.viGrant).getD 0
    host b ap vf v (packIdx i (b.ent i entGEN) 7 0)
  | .hostFn ap fn =>
    let (w, b) := b.draw
    host b ap fn (b.viOf ap fn) (packIdx (wget w ⟨0, 16⟩) (wget w ⟨16, 8⟩) 3 0)
  | .meridian p tag => b.answerMer p tag 0 false 4 none false
  | .transit slot => b.emit (.trnErr slot)
  | .tirq _ => b.irqDrop
  | .bridge => b
  | s => b.emit (.portErr s)

/-- Tell the source of a command row that its port write was taken (R242, R309, R492), or refused. -/
def Bridge.portAnswer (b : Bridge) (s : PortSrc) (ok : Bool) (addr : Nat) : Bridge :=
  if !ok then b.portAnswerRefused s addr else
  match s with
  | .meridian p tag => b.answerMer p tag 0 false 0 none false
  | .transit slot => b.emit (.trnRdy slot)
  | _ => b

/-- Serve the port writes that wait at a queue, in order, while there is room for a producer's (R257). -/
def Bridge.serveBlocked (b : Bridge) (q : Nat) : Nat → Bridge
  | 0 => b
  | fuel + 1 =>
    match (b.queue q).blocked with
    | [] => b
    | w :: l =>
      if (w.off < 0x188 && (b.queue q).tailFull) || !b.domsOpen (queueDoms q) then b else
      let (b, ok) := (b.putQueue q { b.queue q with blocked := l }).portWrite q w.off w.data w.who
      Bridge.serveBlocked (match w.job with
        | some j => b.finish j (if ok then .ok [] false else .err .logbookRefused)
        | none => b.portAnswer w.src ok (w.who.base + w.off)) q fuel

/-- Serve every queue's waiting producers. -/
def Bridge.pumpBlocked (b : Bridge) : Bridge :=
  b.eng.queues.foldl (fun (b : Bridge) p => if p.2.blocked = [] then b else b.serveBlocked p.1 (p.2.blocked.length + 1)) b

/-- Give each waiting packet and request its chance: the mirror engine's, Meridian ports, logbook ports, the Transit target, finders and gates, host reads,
barriers. -/
def Bridge.pump (b : Bridge) (m : List Host.Cell) : Bridge :=
  let b := if b.eng.pair.tx = [] then b else flushTx b.eng.pair.tx b
  let b := ((((List.range 4).foldl (fun (b : Bridge) p => b.pumpMer p) b).pumpLog.pumpBlocked).pumpTransit).pumpFinders
  let b := b.eng.chans.foldl (fun (b : Bridge) x => if b.chState x.c = 1 then b.checkGate x.c else b) b
  let b := b.hostReads.foldl (fun (b : Bridge) x =>
    match b.hostReads.find? (fun y => y.id = x.id) with | some y => b.pumpRead m y | none => b) b
  let b := b.barriers.foldl (fun (b : Bridge) x => b.flushBarrier x) b
  b.barriers.foldl (fun (b : Bridge) x => if x.form = 3 && b.barrierDue x then b.completeBarrier x else b) b

/-- Whether a request was made for a segment, or for an upstream request. -/
def Origin.isTraffic : Origin → Bool
  | .seg .. | .table .. | .segFlush .. | .up _ => true
  | _ => false

/-- Whether a channel's side leads to Aperture `a`. -/
def Bridge.sideBound (b : Bridge) (a c v : Nat) (write : Bool) : Bool :=
  if b.sideHost c write then b.viAp v = a
  else match b.sideX v false (b.act c (bit write) Fld.fndSetSrc_ADDR) 1 with
    | .inl (.loc r) => r.space = 4 && r.port = a
    | _ => false

/-- Whether a segment or an upstream request bound for Aperture `a` waits (R68). -/
def Bridge.bound (b : Bridge) (a : Nat) : Bool :=
  b.reqs.any (fun j => j.port = a && j.origin.isTraffic) ||
  b.eng.chans.any (fun x => x.segs.any (fun s => s.st = .waiting || s.st = .unplaced) &&
    (match b.chanOwner x.c with
     | some v => b.sideBound a x.c v false || b.sideBound a x.c v true
     | none => false))

/-- Send an LTR message on each trained Aperture whose value has changed (R68). -/
def Bridge.ltr (b : Bridge) : Bridge :=
  (List.range 4).foldl (fun (b : Bridge) a =>
    let v := if b.bound a then 20000 else 1000000
    if !b.apTrained a || alGet 0 a b.eng.ltr = v then b
    else ({ b with eng := { b.eng with ltr := alPut a v b.eng.ltr } }).emit (.ltr a v)) b

/-- Whether a request of Aperture `a` waits on its ledger quota (R83, R94). -/
def Bridge.quotaHeld (b : Bridge) (a : Nat) : Bool :=
  b.get (.aptLedgerCfg a) Fld.aptLedgerCfg_QUOTA ≤ b.ledgerHeld (fun e => e.ap = a) &&
    b.reqs.any (fun j => j.port = a && !j.op.isWrite)

/-- Raise QUOTA_WAIT where a request begins to wait on the quota and none did (R94). -/
def Bridge.quotaEvents (b : Bridge) : Bridge :=
  let now := (List.range 4).filter b.quotaHeld
  let old := b.eng.quotaWait
  (now.filter (fun a => !old.contains a)).foldl (fun (b : Bridge) a => b.raise (.apt a) 5)
    { b with eng := { b.eng with quotaWait := now } }

/-- Raise DRAINED where a bank's watched entry has just lost its last request of an older generation (R119). -/
def Bridge.drainEvents (b : Bridge) : Bridge :=
  let now := (List.range 5).filter (fun n => 0 < b.oldInflight (b.get (.catDrain n) Fld.catDrain_INDEX))
  let old := b.eng.drainWait
  (old.filter (fun n => !now.contains n)).foldl (fun (b : Bridge) _ => b.raise .cat 2)
    { b with eng := { b.eng with drainWait := now } }

/-- Report ended requests, then give the waiting ones their chance, until nothing has ended. -/
def Bridge.settleGo (m : List Host.Cell) : Nat → Bridge → Bridge
  | 0, b => b
  | fuel + 1, b =>
    match b.eng.done with
    | (j, r) :: rest => Bridge.settleGo m fuel ({ b with eng := { b.eng with done := rest } }.endJob j r)
    | [] => let b' := b.pump m; if b'.eng.done = [] then b' else Bridge.settleGo m fuel b'

/-- Rounds of settling: more than any number of requests in flight. -/
def settleFuel : Nat := 100000

/-- Settle every request that has ended; in Quarantine nothing moves (R441). -/
def Bridge.settle (b : Bridge) (m : List Host.Cell) : Bridge :=
  if b.mode = 11 then b else (Bridge.settleGo m settleFuel b).ltr.quotaEvents.drainEvents

end Sys2Proof.Machine
end

