-- ==== Sys2Proof/Machine/Host.lean ====
section
/-!
DEFINITION. Aperture traffic (R63 to R92): posted writes, reads and AtomicOps from the host, completions and the tag
ledger, configuration space, interrupt methods and masks, lane margining.
-/
namespace Sys2Proof.Machine

open Sys2Proof

/-! Posted writes. -/

/-- Report a posted target error that is known at once: an AER message and a POSTED_ERROR record (R90, R437). -/
def Bridge.postedError (b : Bridge) (ap fn err : Nat) (x : Xlat) (addr : Nat) : Bridge :=
  (b.aer ap fn err).record 0x04 (.apt ap) (if x.get entDIRECTOR = 1 then none else some (x.get entOWNER)) (some ap)
    (BitVec.ofNat 64 addr)
    (packIdx x.idx (x.get entGEN) (x.get entSPACE) (x.get entPORT) ||| wmk [(⟨32, 8⟩, err)])

/-- The target writes that a posted write becomes (R109, R110): where each stands, with its bytes. -/
def Bridge.hostPieces (b : Bridge) (r : Route) (data : List (Option Byte)) : List (Nat × List (Option Byte)) :=
  let lo := r.last.off
  let n := data.length
  let ps := if 6 ≤ r.space then [(lo, n)] else r.cuts (b.hostLimit r.port true) lo (lo + n)
  ps.flatMap (fun p =>
    (solidPieces r.space (r.last.base + p.1) (pieceData r.order lo data p.1 p.2)).map (fun q => (p.1 + q.1, q.2)))

/-- Put the pieces of a posted write at the end of the posting buffer (R133, R137). -/
def Bridge.bufferWrite (b : Bridge) (ap fn : Nat) (r : Route) (data : List (Option Byte)) (ro poison : Bool) : Bridge :=
  let mark := if r.first.get entCLASS = 1 || (ro && r.roPass) then 0 else 2
  let (req, b) := b.fresh
  (b.hostPieces r data).foldl (fun (b : Bridge) q =>
    let (id, b) := b.fresh
    let j := { b.pieceJob r .hostWrite (.hostFn ap fn) id r.last.off (r.last.off + data.length) q.1 (.write q.2 poison) mark ro with
      req := req }
    b.pbPush { ap := ap, fn := fn, kind := .waiting, job := j, width := max 1 ((q.2.length + 255) / 256) }) b

/-- A host posted write on its route, or on none (R107, R110, R113, R121). -/
def Bridge.writeVia (b : Bridge) (w : HostWrite) (fn : Nat) (x : Xlat) : Route ⊕ Miss → Bridge
  | .inr m => (b.missed m).postedError w.ap fn aerUR x w.addr
  | .inl r =>
    if w.poisoned && r.last.dropsPoison then b.poisonDrop r.last w.addr
    else if !b.mayIssue r then b.postedError w.ap fn aerCA x w.addr
    else if !r.widthOk (b.hostLimit r.port true) r.last.off (r.last.off + w.data.length) ||
        (x.get entWIDTH = 2 && (b.hostPieces r w.data).length ≠ 1) then b.postedError w.ap fn aerCA x w.addr
    else b.bufferWrite w.ap fn r w.data w.ro w.poisoned

/-- A host posted write (R69, R74, R87, R113, R121, R133, R137). -/
def Bridge.hostWrite (b : Bridge) (w : HostWrite) : Bridge :=
  match b.hostMatch w.ap w.addr with
  | none => b.aer w.ap 0 aerUR
  | some (fn, bar, off) =>
    let b := if w.poisoned then b.aer w.ap fn aerPoison else b
    if !b.fnAnswers w.ap fn then b.bump (.aptFnEvents w.ap) Fld.aptFnEvents_DROPPED_POSTED
    else match b.lookupHost w.ap fn bar off w.data.length with
      | none => b.aer w.ap fn aerUR
      | some x =>
        if x.get entEN = 0 then (b.catMiss true w.addr 0 w.ap).postedError w.ap fn aerUR x w.addr
        else if w.poisoned && x.dropsPoison then b.poisonDrop x w.addr
        else b.writeVia w fn x (b.routeOf w.ap x)

/-! Reads and AtomicOps. -/

/-- Answer a host non-posted request at once with a failure. -/
def Bridge.refuseRead (b : Bridge) (ap fn tag : Nat) (c : Cause) : Bridge :=
  (b.aer ap fn c.cpl.2).emit (.hostCpl ap tag c.cpl.1 [] false)

/-- Whether an access of an instance page lies in its logbook ports, where it is never split (R463). -/
def inPorts (sp off : Nat) : Bool := sp = 7 && 0x4000 ≤ off && off < 0x6000

/-- A host read on its route, or on none (R107, R110, R121): its requests wait to be sent (R132, R138). -/
def Bridge.readVia (b : Bridge) (r : HostReadOp) (fn : Nat) (x : Xlat) : Route ⊕ Miss → Bridge
  | .inr m => (b.missed m).refuseRead r.ap fn r.tag .unsupported
  | .inl t =>
    let lim := b.hostLimit t.port false
    let lo := t.last.off
    if !t.widthOk lim lo (lo + r.len) || !b.mayIssue t then b.refuseRead r.ap fn r.tag .completerAbort
    else
      let ps := if 6 ≤ t.space && t.space ≤ 8 && !inPorts t.space lo then cutAt 8 (r.len + 1) lo r.len
        else if 6 ≤ t.space then [(lo, r.len)]
        else t.cuts lim lo (lo + r.len)
      let ro := r.ro && t.roPass
      let mark := if x.get entCLASS = 1 || ro then 0 else 1
      let (id, b) := b.fresh
      let jobs := ps.zipIdx.map (fun p =>
        b.pieceJob t (.hostRead id) (.hostFn r.ap fn) (b.nextId + p.2) lo (lo + r.len) p.1.1 (.read p.1.2) mark ro)
      let rec_ : HostReadRec :=
        { id := id, ap := r.ap, fn := fn, tag := r.tag, kind := .read, idx := x.idx, gen := x.get entGEN, off := lo,
          len := r.len, ro := ro, t0 := b.tick, jobs := jobs, left := 0, answered := [], data := [], poison := false,
          err := none }
      { b with hostReads := b.hostReads ++ [rec_], nextId := b.nextId + jobs.length }

/-- A host read (R74, R121, R132, R133, R138). -/
def Bridge.hostRead (b : Bridge) (r : HostReadOp) : Bridge :=
  match b.hostMatch r.ap r.addr with
  | none => b.refuseRead r.ap 0 r.tag .unsupported
  | some (fn, bar, off) =>
    if !b.fnAnswers r.ap fn then b.refuseRead r.ap fn r.tag .unsupported
    else match b.lookupHost r.ap fn bar off r.len with
      | none => b.refuseRead r.ap fn r.tag .unsupported
      | some x =>
        if x.get entEN = 0 then (b.catMiss true r.addr 0 r.ap).refuseRead r.ap fn r.tag .unsupported
        else b.readVia r fn x (b.routeOf r.ap x)

/-- Operand sizes that an Aperture completes (R63). -/
def atomicSize (k : AtomicKind) (n : Nat) : Bool := n = 4 || n = 8 || (k = .cas && n = 16)

/-- A host AtomicOp (R64, R145, R278): toward Meridian only; native, by the retry loop, or aborted when the agent can do
neither. Poisoned operands are reported (R90); an entry that drops poison drops them, and the AtomicOp is aborted (R113; log entry
115). -/
def Bridge.hostAtomic (b : Bridge) (r : HostAtomic) : Bridge :=
  match b.hostMatch r.ap r.addr with
  | none => b.refuseRead r.ap 0 r.tag .unsupported
  | some (fn, bar, off) =>
    let b := if r.poisoned then b.aer r.ap fn aerPoison else b
    if !b.fnAnswers r.ap fn || !atomicSize r.kind r.size then b.refuseRead r.ap fn r.tag .unsupported
    else match b.lookupHost r.ap fn bar off r.size with
      | none => b.refuseRead r.ap fn r.tag .unsupported
      | some x =>
        if x.get entEN = 0 then (b.catMiss true r.addr 0 r.ap).refuseRead r.ap fn r.tag .unsupported
        else if x.get entSPACE ≠ 0 then b.refuseRead r.ap fn r.tag .unsupported
        else if r.poisoned && x.dropsPoison then (b.poisonDrop x r.addr).refuseRead r.ap fn r.tag .completerAbort
        else
          let p := x.get entPORT
          let native := b.get (.merPortStat p) Fld.merPortStat_NATIVE_ATOMIC = 1
          let resv := b.get (.merPortStat p) Fld.merPortStat_RESERVATIONS = 1
          if b.merReady p && !native && !resv then
            ((b.bump (.ordAtomicStat r.ap) Fld.ordAtomicStat_ABORTED).raise .ord 2).refuseRead r.ap fn r.tag .completerAbort
          else
            let useNative := native && b.get (.merPortCtrl p) Fld.merPortCtrl_ATOMIC_OFF = 0
            let b := b.bump (.ordAtomicStat r.ap)
              (if useNative then Fld.ordAtomicStat_NATIVE else Fld.ordAtomicStat_LOOPED)
            let (id, b) := b.fresh
            let (jid, b) := b.fresh
            let t := ((runs (x.get entORDER) x.off (x.off + r.size)).head?.getD (x.off, 0)).1
            let j0 := b.pieceJob x.route (.hostRead id) (.hostFn r.ap fn) jid x.off (x.off + r.size) t (.read r.size) 0 false
            let ops := if r.kind = .cas then targetOrder j0 r.cmp ++ targetOrder j0 r.val else targetOrder j0 r.val
            let j : Job := { j0 with
              op := if useNative then .atomic (atomicOp r.kind r.size) ops r.poisoned else .rload r.size
              mark := if useNative then 2 else 1 }
            let rec_ : HostReadRec :=
              { id := id, ap := r.ap, fn := fn, tag := r.tag, kind := .atomic r.kind r.size r.cmp r.val r.poisoned 0, idx := x.idx,
                gen := x.get entGEN, off := x.off, len := r.size, ro := false, t0 := b.tick, jobs := [j], left := 0,
                answered := [], data := [], poison := false, err := none }
            { b with hostReads := b.hostReads ++ [rec_] }

/-! The tag ledger and completions (R81 to R85). -/

/-- Free a ledger entry; it is not given out before the next tick (R85). -/
def Bridge.freeLedger (b : Bridge) (i : Nat) : Bridge :=
  { b with ledger := b.ledger.filter (fun e => e.idx ≠ i)
           freed := b.freed.filter (fun x => x.tick = b.tick) ++ [⟨4, i, b.tick⟩] }

/-- Bytes that a ledger entry's request asked for; a flushing read asks for none. -/
def LedgerEntry.asked (e : LedgerEntry) : Nat := match e.job.op with | .read n => n | _ => 0

/-- The function of an Aperture that a 16-bit Requester ID names: VF k has PF0's routing ID plus k (R73); any other ID is taken for
PF0's. -/
def Bridge.ridFn (b : Bridge) (ap rid : Nat) : Nat :=
  let k := (rid + 65536 - b.cfgGet ap 0 .routingId) % 65536
  if k ≤ b.totalVfs ap then k else 0

/-- A completion whose tag names a free entry (R85). -/
def Bridge.unexpected (b : Bridge) (c : HostCpl) : Bridge :=
  let b := (b.bump (.aptUnexpCpl c.ap) Fld.aptUnexpCpl_COUNT).life (12 + c.ap)
  (b.raise (.apt c.ap) 1).aer c.ap (b.ridFn c.ap c.rid) aerUnexpected

/-- A completion from the host (R84, R85, R90): late, unexpected, or for an entry that is held. An entry whose quarantine window
has ended is free. -/
def Bridge.hostCompletion (b : Bridge) (c : HostCpl) : Bridge :=
  let flit := b.get (.aptLinkEff c.ap) Fld.aptLinkEff_FLIT = 1
  match b.ledger.find? (fun e => e.ap = c.ap && b.ledgerTag e.ap e.idx = c.tag && (flit || e.job.fn = b.ridFn c.ap c.rid)) with
  | none => b.unexpected c
  | some e =>
    if e.quarantined && e.until_ ≤ b.tick then (b.freeLedger e.idx).unexpected c
    else if e.quarantined then
      let w := wmk [(Fld.aptLateLast_TAG, c.tag), (Fld.aptLateLast_RID, c.rid), (Fld.aptLateLast_TICK, b.tick),
        (Fld.aptLateLast_VALID, 1)]
      let b := ((b.bump (.aptLateCpl c.ap) Fld.aptLateCpl_COUNT).put (.aptLateLast c.ap) w).life (8 + c.ap)
      (b.raise (.apt c.ap) 0).record 0x03 (.apt c.ap) e.job.owner (some c.ap) w 0
    else if c.ecrcBad && b.cfgGet c.ap e.job.fn .ecrcCheckEnable = 1 then ((b.aer c.ap e.job.fn aerEcrc).freeLedger e.idx).finish e.job (.err .ecrc)
    else match c.status with
      | .ur => (b.freeLedger e.idx).finish e.job (.err .unsupported)
      | .ca => (b.freeLedger e.idx).finish e.job (.err .completerAbort)
      | .sc =>
        let b := if c.poisoned then b.aer c.ap e.job.fn aerPoison else b
        let got := e.got ++ c.data
        let bad := e.bad || c.poisoned
        if e.asked ≤ got.length then (b.freeLedger e.idx).finish e.job (.ok (got.take e.asked) bad)
        else { b with ledger := b.ledger.map (fun f => if f.idx = e.idx then { f with got := got, bad := bad } else f) }

/-- The completion timeout of a ledger entry: abandoned, quarantined, reported (R67, R83, R90). -/
def Bridge.cplTimedOut (b : Bridge) (i : Nat) : Bridge :=
  match b.ledger.find? (fun e => e.idx = i && !e.quarantined) with
  | none => b
  | some e =>
    if b.tick < e.issued + b.cplTimeout e.ap then b else
    ((b.quarantineLedger (fun f => f.idx = i)).aer e.ap e.job.fn aerTimeout).finish e.job (.err .completionTimeout)

/-- The end of a quarantine window (R85). -/
def Bridge.ledgerWindowEnd (b : Bridge) (i : Nat) : Bridge :=
  match b.ledger.find? (fun e => e.idx = i && e.quarantined) with
  | none => b
  | some e => if b.tick < e.until_ then b else b.freeLedger i

/-! Bus Master Enable (R86). -/

/-- Abandon the ledger entries that `p` selects: quarantined, their requests end with `c` (R83). -/
def Bridge.abandon (b : Bridge) (p : LedgerEntry → Bool) (c : Cause) : Bridge :=
  let l := b.ledger.filter (fun e => !e.quarantined && p e)
  l.foldl (fun (b : Bridge) e => b.finish e.job (.err c)) (b.quarantineLedger p)

/-- Bus Master Enable of a function is cleared (R86): its reads are quarantined, what it has not issued fails but for
buffered posted writes, its unsent messages are pending again. -/
def Bridge.bmeClear (b : Bridge) (ap fn : Nat) : Bridge :=
  let b := b.cfgPut ap fn .busMaster 0
  let b := b.abandon (fun e => e.ap = ap && e.job.fn = fn) .masterDisabled
  let mine := fun (j : Job) => j.port = ap && j.fn = fn && j.origin ≠ .hostWrite
  let gone := b.reqs.filter mine
  let b := { b with reqs := b.reqs.filter (fun j => !mine j) }
  let b := gone.foldl (fun (b : Bridge) j =>
    match j.origin with
    | .message v => { b with pendVec := if b.pendVec.contains ⟨ap, fn, v⟩ then b.pendVec else b.pendVec ++ [⟨ap, fn, v⟩] }
    | _ => b.finish j (.err .masterDisabled)) b
  b.raise (.apt ap) 2

/-- Bus Master Enable is set: pending vectors that nothing else holds are issued (R80, R86). -/
def Bridge.bmeSet (b : Bridge) (ap fn : Nat) : Bridge :=
  (b.cfgPut ap fn .busMaster 1).issuePending ap fn false (b.pendVec.length + 1)

/-! Interrupt methods and masks (R75 to R80). -/

/-- Clear every bit of the director's interrupt status (R79, R468). -/
def Bridge.clearIntPend (b : Bridge) (ap : Nat) : Bridge :=
  (List.range 32).foldl (fun (b : Bridge) w => b.put (.idIntPend ap w) 0) b

/-- A function's MSI-X and MSI enables are written (R79): when the method changes, what was pending is issued once under the
new one. Vectors pending as INTx status bits move too. -/
def Bridge.changeMethod (b : Bridge) (ap fn : Nat) (msixEn msiEn : Bool) : Bridge :=
  let old := b.irqMethod ap fn
  let set := fun (b : Bridge) => (b.cfgPut ap fn .msixEnable (bit msixEn)).cfgPut ap fn .msiEnable (bit msiEn)
  let b' := set b
  let new := b'.irqMethod ap fn
  if new = old then b' else
  let intx := if old = 1 then (List.range 2048).filter (fun v => wbit (b.raw (.idIntPend ap (v / 64))) (v % 64)) else []
  let b := if old = 1 then b'.clearIntPend ap else b'
  let b := { b with pendVec := b.pendVec ++ (intx.map (fun v => (⟨ap, fn, v⟩ : PendVec))).filter (fun p => !b.pendVec.contains p) }
  if new = 0 then b else
  b.issuePending ap fn true (b.pendVec.length + 1)

/-- Something is unmasked: pending vectors that nothing holds any more are issued once (R78). -/
def Bridge.unmask (b : Bridge) (ap fn : Nat) (u : Unmask) : Bridge :=
  let b := match u with
    | .entry v =>
      let e := { b.msixEntry ap fn v with masked := false }
      { b with msix := listPut (fun x => x.ap = ap && x.fn = fn && x.v = v) e b.msix }
    | .functionMask => b.cfgPut ap fn .functionMask 0
    | .msi m => b.cfgPut ap fn .msiMask (b.cfgGet ap fn .msiMask &&& (2 ^ 32 - 1 - 2 ^ (m % 32)))
  b.issuePending ap fn false (b.pendVec.length + 1)

/-- Write the 8 bytes of a function's MSI-X table at a table offset, of which `lo` and `hi` say which halves (R461). -/
def Bridge.tableWrite (b : Bridge) (ap fn off : Nat) (w : Word) (lo hi : Bool) : Bridge :=
  let v := off / 16
  if b.vectors ap fn ≤ v then b else
  let e := b.msixEntry ap fn v
  let keep := fun (old : Word) => wmk [(⟨0, 32⟩, if lo then wget w ⟨0, 32⟩ else wget old ⟨0, 32⟩),
    (⟨32, 32⟩, if hi then wget w ⟨32, 32⟩ else wget old ⟨32, 32⟩)]
  let e' := if off % 16 < 8 then { e with addr := (keep (BitVec.ofNat 64 e.addr)).toNat }
    else { e with data := wget (keep (wmk [(⟨0, 32⟩, e.data)])) ⟨0, 32⟩,
                  masked := if hi then wbit w 32 else e.masked }
  let b := { b with msix := listPut (fun x => x.ap = ap && x.fn = fn && x.v = v) e' b.msix }
  if e.masked && !e'.masked then b.unmask ap fn (.entry v) else b

/-! Function tree settings (R72, R73). -/

/-- A write of NumVFs (R73). -/
def Bridge.setNumVfs (b : Bridge) (ap n : Nat) : Bridge :=
  if b.cfgGet ap 0 .vfEnable = 0 && n ≤ b.totalVfs ap then b.cfgPut ap 0 .numVfs n else b

/-- The end that TARGET_BASE plus the field size may reach in a space (R106). -/
def Bridge.spaceEnd (b : Bridge) (sp : Nat) : Nat :=
  match sp with
  | 0 | 5 => 2 ^ 52
  | 1 => 2 ^ 40
  | 2 => (b.part.sizeMib - b.logMib) * 2 ^ 20
  | 3 => 16777216
  | _ => 2 ^ 64

/-- The entries that a BAR2 region's fields use: PF0's own run, or the fields of every instance of the Aperture. -/
def Bridge.resizeEntries (b : Bridge) (ap : Nat) (vfBar : Bool) : List Nat :=
  let n := 2 ^ b.region (if vfBar then slotVf ap 2 else slotPf ap 2) regFC
  if vfBar then (b.liveVis.filter (fun v => b.viAp v = ap)).flatMap (fun v => (List.range n).map (fun k => b.viGrant v + 1 + k))
  else (List.range n).map (fun k => b.region (slotPf ap 2) regFIRST + k)

/-- The sizes that a resizable BAR advertises (R72): those of its almanac mask with fields of 4 KiB to 1 TiB. -/
def Bridge.sizeMask (b : Bridge) (ap : Nat) (vf : Bool) : Nat :=
  let k := if vf then slotVf ap 2 else slotPf ap 2
  let fc := b.region k regFC
  let mask := b.cfgGet ap 0 (if vf then .vfBarSize 2 else .barSize 2)
  (List.range 64).foldl (fun n i =>
    if b.regionOn k && mask.testBit i && fc + 12 ≤ i && i ≤ fc + 40 then n + 2 ^ i else n) 0

/-- A host writes a BAR2 size, as its log2 (R72, R120). -/
def Bridge.resizeBar (b : Bridge) (ap : Nat) (vfBar : Bool) (size : Nat) : Bridge :=
  let k := if vfBar then slotVf ap 2 else slotPf ap 2
  let fc := b.region k regFC
  let on := if vfBar then b.cfgGet ap 0 .vfMse = 1 else b.cfgGet ap 0 .memorySpace = 1
  if on then b.bump (.aptFnEvents ap) Fld.aptFnEvents_RESIZE_REFUSED
  else if !(b.sizeMask ap vfBar).testBit size then b
  else
    let b := b.set (.catRegion k) regFS (size - fc)
    let past := (b.resizeEntries ap vfBar).filter (fun i =>
      b.ent i entEN = 1 && b.spaceEnd (b.ent i entSPACE) < (b.raw (.catEntry i 1)).toNat + 2 ^ (size - fc))
    let b := past.foldl (fun (b : Bridge) i => b.disableEntry i) b
    if past = [] then b else b.raise .cat 3

/-! Configuration space (R65, R67, R69, R70, R73, R76, R151, R433). -/

/-- A word of the Prasol locator (R70). -/
def Bridge.locator (b : Bridge) (ap fn off : Nat) : Nat :=
  let vi := if fn = 0 then none else b.viOf ap fn
  let w : Word := match off / 4 with
    | 0 => wmk [(⟨0, 16⟩, 0x000B), (⟨16, 4⟩, 1)]
    | 1 => wmk [(⟨0, 16⟩, 0x0051), (⟨16, 4⟩, 1), (⟨20, 12⟩, 0x020)]
    | 2 => wmk [(⟨8, 8⟩, if fn = 0 then 26 else 16), (⟨16, 2⟩, ap), (⟨18, 1⟩, bit (ap = 0 && fn = 0)),
        (⟨19, 1⟩, b.get .ifvPairCfg Fld.ifvPairCfg_ENABLE)]
    | 5 => wmk [(⟨0, 16⟩, b.part.code), (⟨16, 8⟩, Config.dieRev.toNat)]
    | 6 => wmk [(⟨0, 4⟩, b.mode), (⟨4, 1⟩, b.get .almStatus Fld.almStatus_SEALED), (⟨5, 1⟩, bit (b.mode = 3))]
    | 7 => wmk [(⟨0, 11⟩, vi.getD 0), (⟨31, 1⟩, bit vi.isSome)]
    | _ => 0
  w.toNat

/-- Device Control fields of PF0 that govern its VFs (R65). -/
def fromPf0 : CfgField → Bool
  | .maxPayload | .maxReadReq | .roEnable | .idoEnable | .idoCplEnable | .extTagEnable | .tag10Enable | .tag14Enable
  | .cplTimeout => true
  | _ => false

/-- What a capability field of function `fn` reads (R63, R65, R67, R91); those of options that no row of R63 lists read 0. -/
def CapField.value (fn : Nat) : CapField → Nat
  | .maxPayloadSupported => 512
  | .cplTimeoutRanges => 1
  | .atomicComplete32 | .atomicComplete64 | .atomicComplete128 => 1
  | .tphRequester | .ecrcGenerate | .ecrcCheck | .ari | .flr | .aerMultiHeader | .tlpPrefixLog => 1
  | .pasidWidth => if fn = 0 then 20 else 0
  | .marginTimingSteps => if fn = 0 then 32 else 0
  | .marginVoltageSteps => if fn = 0 then 64 else 0
  | .marginMaxTiming => if fn = 0 then 50 else 0
  | .marginLeftRight | .marginUpDown | .marginSampleCount => bit (fn = 0)
  | .cplTimeoutDisable | .atomicRequester | .steeringTable | .pasidExecute | .pasidPrivileged | .ats | .pageRequest | .ide
  | .marginErrorSampler => 0

/-- Four bytes of a function's configuration space, as the capability chain gives them at first (R36, R69): the locator stands
behind the last extended capability, or behind an empty header when there is none. -/
def Bridge.cfgSpace (b : Bridge) (ap fn off : Nat) : Nat :=
  let loc := Config.locatorOffset
  let rs : List (List Byte) := match b.alm.inForce with
    | some g => (g.records 0x0003).filter (fun r => (un r 5 1).testBit (bit (fn ≠ 0)))
    | none => []
  if loc ≤ off && off < loc + 32 then b.locator ap fn (off - loc)
  else match rs.find? (fun r => un r 6 2 ≤ off && off < un r 6 2 + (r.length - 8)) with
    | some r =>
      let w := un r (8 + (off - un r 6 2)) 4
      if un r 4 1 = 1 && off = un r 6 2 && w / 2 ^ 20 = 0 then w + loc * 2 ^ 20 else w
    | none => if off = 0x100 then loc * 2 ^ 20 else 0

/-- An identity field from the almanac's identity record (R491); a VF's own IDs read all ones as the standard provides. -/
def Bridge.identity (b : Bridge) (fn : Nat) (f : CfgField) : Nat :=
  match b.alm.inForce with
  | none => 0
  | some g =>
    let r := (g.records 0x0004).headD []
    match f with
    | .vendorId => if fn = 0 then un r 0 2 else 0xFFFF
    | .deviceId => if fn = 0 then un r 2 2 else 0xFFFF
    | .vfDeviceId => un r 4 2
    | .subsystemVendor => un r 6 2
    | .subsystemId => un r 8 2
    | .classCode => un r 10 3
    | .revision => un r 13 1
    | _ => 0

/-- What a read of a configuration field returns. -/
def Bridge.cfgRead (b : Bridge) (ap fn : Nat) (f : CfgField) : Nat :=
  match f with
  | .locator off => b.locator ap fn off
  | .msixTableSize => b.vectors ap fn - 1
  | .barSize 2 => b.sizeMask ap false
  | .vfBarSize 2 => b.sizeMask ap true
  | .routingId => (b.cfgGet ap 0 .routingId + fn) % 65536
  | .cap c => CapField.value fn c
  | .space off => b.cfgSpace ap fn (off / 4 * 4)
  | .initialVfs => b.totalVfs ap
  | .vendorId => if b.mode = 3 then 0x1FA7 else b.identity fn f
  | .deviceId => if b.mode = 3 then 0x74FF else b.identity fn f
  | .classCode => if b.mode = 3 then 0x088000 else b.identity fn f
  | .revision | .subsystemVendor | .subsystemId | .vfDeviceId => if b.mode = 3 then 0 else b.identity fn f
  | .msiPending =>
    if b.irqMethod ap fn = 2 then
      (b.pendVec.filter (fun p => p.ap = ap && p.fn = fn)).foldl
        (fun n p => n ||| 2 ^ (p.v % max 1 (b.cfgGet ap fn .msiVectors))) 0
    else 0
  | f => if fromPf0 f then b.cfgGet ap 0 f else b.cfgGet ap fn f

/-- The first level-8 rule of R432 that a completion timeout breaks. -/
def Bridge.nestBroken (b : Bridge) (t : Nat) : Bool := t ≤ b.ladder 4 || t ≤ 16 * b.ladder 2 || t ≤ b.ladder 3

/-- PF0's Completion Timeout Value takes a value; BAR_LIMIT is derived again where it must be (R67, R151). -/
def Bridge.putCplTimeout (b : Bridge) (ap enc : Nat) : Bridge :=
  let b := b.cfgPut ap 0 .cplTimeout (enc % 16)
  let t := b.cplTimeout ap
  let r := Reg.ordAptCfg ap
  let keep := b.overridden.contains (r, 8) && b.get r Fld.ordAptCfg_BAR_LIMIT < t
  if keep then b
  else ({ b with overridden := b.overridden.filter (fun p => p ≠ (r, 8)) }).set r Fld.ordAptCfg_BAR_LIMIT (9 * t / 10)

/-- A write of PF0's Completion Timeout Value: a nesting rule that it breaks is reported (R67, R433). -/
def Bridge.setCplTimeout (b : Bridge) (ap enc : Nat) : Bridge :=
  let b := b.putCplTimeout ap enc
  let t := b.cplTimeout ap
  if t < b.ladder 8 && b.nestBroken t then (b.raise .flt 1).record 0x11 .flt none (some ap) (BitVec.ofNat 64 (enc % 16)) 8 else b

/-- Sizes that Device Control can hold. -/
def payloadSizes : List Nat := [128, 256, 512]
def readSizes : List Nat := [128, 256, 512, 1024, 2048, 4096]

/-- A write of a configuration field that has no effect beyond its value, or has one that this layer gives. -/
def Bridge.cfgWrite (b : Bridge) (ap fn : Nat) (f : CfgField) (v : Nat) : Bridge :=
  let pf := fn = 0
  match f with
  | .busMaster => if v % 2 = b.cfgGet ap fn .busMaster then b else if v % 2 = 1 then b.bmeSet ap fn else b.bmeClear ap fn
  | .memorySpace => if pf then b.cfgPut ap 0 f (v % 2) else b
  | .intxDisable => b.cfgPut ap fn f (v % 2)
  | .maxPayload => if pf && payloadSizes.contains v then b.cfgPut ap 0 f v else b
  | .maxReadReq => if pf && readSizes.contains v then b.cfgPut ap 0 f v else b
  | .roEnable | .idoEnable | .idoCplEnable | .extTagEnable | .tag10Enable | .tag14Enable | .pasidEnable =>
    if pf then b.cfgPut ap 0 f (v % 2) else b
  | .pmState => if pf then b.cfgPut ap 0 f (v % 4) else b
  | .l1ssControl | .flitLogControl => if pf then b.cfgPut ap 0 f (v % 2 ^ 32) else b
  | .routingId => if pf then b.cfgPut ap 0 f (v % 65536) else b
  | .cplTimeout => if pf then b.setCplTimeout ap v else b
  | .tphEnable | .ecrcGenEnable | .ecrcCheckEnable => b.cfgPut ap fn f (v % 2)
  | .aerUncSeverity => b.cfgPut ap fn f (v % 2 ^ 32)
  | .aerUncStatus | .aerCorStatus => b.cfgPut ap fn f (b.cfgGet ap fn f &&& (2 ^ 32 - 1 - v % 2 ^ 32))
  | .msixEnable => b.changeMethod ap fn (v % 2 = 1) (b.cfgGet ap fn .msiEnable = 1)
  | .msiEnable => b.changeMethod ap fn (b.cfgGet ap fn .msixEnable = 1) (v % 2 = 1)
  | .functionMask => if v % 2 = 0 then b.unmask ap fn .functionMask else b.cfgPut ap fn f 1
  | .msiVectors => if [1, 2, 4, 8, 16, 32].contains v then b.cfgPut ap fn f v else b
  | .msiAddr => b.cfgPut ap fn f (v % 2 ^ 64)
  | .msiData => b.cfgPut ap fn f (v % 2 ^ 32)
  | .msiMask => (b.cfgPut ap fn f (v % 2 ^ 32)).issuePending ap fn false (b.pendVec.length + 1)
  | .bar n => if pf && (n = 0 || n = 2 || n = 4) then
      let k := slotPf ap n
      let size := if n = 0 then 2 ^ 26 else if n = 4 then 2 ^ 16 else b.regionSize k
      if n = 2 && !b.regionOn k then b else b.cfgPut ap 0 f (v % 2 ^ 64 / size * size)
    else b
  | .vfBar n => if pf && (n = 0 || n = 2) then
      let size := if n = 0 then 2 ^ 16 else b.regionSize (slotVf ap n)
      if n = 2 && !b.regionOn (slotVf ap n) then b else b.cfgPut ap 0 f (v % 2 ^ 64 / size * size)
    else b
  | .barSize 2 => if pf then b.resizeBar ap false v else b
  | .vfBarSize 2 => if pf then b.resizeBar ap true v else b
  | .numVfs => if pf then b.setNumVfs ap v else b
  | .vfEnable | .vfMse => if pf then b.cfgPut ap 0 f (v % 2) else b
  | .aerClear => b.cfgPut ap fn .aerHeaders 0
  | _ => b

/-! Lane margining (R91, R92). -/

/-- The cells of an eye map that a margining point reads, both rows or columns of its centre (R92). -/
def marginCells : MarginPoint → List (Nat × Nat)
  | .left s => [(63, 32 - s), (64, 32 - s)]
  | .right s => [(63, 31 + s), (64, 31 + s)]
  | .up s => [(63 + s, 31), (63 + s, 32)]
  | .down s => [(64 - s, 31), (64 - s, 32)]

/-- The count that a lane's eye map answers: the worst of its eyes. -/
def Lane.marginCount (l : Lane) (p : MarginPoint) : Nat :=
  (l.maps.flatMap (fun m => (marginCells p).map (fun c => cell m c.1 c.2))).foldl max 0

/-- The LNE_ numbers of the first `w` lanes of an Aperture's link, in the order of its lane map (R324, R325); in Bare those of the
loader function (R424). -/
def Bridge.hostLanes (b : Bridge) (a w : Nat) : List Nat :=
  match b.alm.inForce.bind (·.lane 0 a) with
  | some r => (List.range w).map (fun n => un r 1 1 + (if un r 5 1 % 2 = 1 then un r 2 1 - 1 - n else n))
  | none => List.range w

/-- The lanes that a host link carries in state `st` at widths `w` and, narrowed, `l0p` (R95, R403). -/
def Bridge.hostActive (b : Bridge) (a st w l0p : Nat) : List Nat :=
  if st = 4 then b.hostLanes a l0p else if [3, 5, 6].contains st then b.hostLanes a w else []

/-- A lane margining command on a trained lane of the Aperture (R91, R92). From the seeing monitor, it waits for a scan when the
map is older than 1 ms; while LNE_SEE_CFG.EN is 0 it goes on waiting until one completes (DESIGN CHOICE, log entry 116). -/
def Bridge.marginCmd (b : Bridge) (ap lane : Nat) (p : MarginPoint) (measured : Nat) : Bridge :=
  if !b.apTrained ap || !(b.hostLanes ap (b.get (.aptLinkEff ap) Fld.aptLinkEff_WIDTH)).contains lane then b
  else if b.get (.aptMarginCfg ap) Fld.aptMarginCfg_SOURCE = 1 || !b.part.seeing then b.emit (.margin ap lane measured)
  else
    let l := b.lane lane
    if l.mapValid && (b.tick - l.scanTick) % 2 ^ 31 ≤ 50000 then b.emit (.margin ap lane (l.marginCount p))
    else b.putLane { l with margins := l.margins ++ [(ap, p)] }

end Sys2Proof.Machine
end

