-- ==== Sys2Proof/Machine/Operands.lean ====
section
/-!
DEFINITION. The operand forms of the commands: the writers of control space (R4, R465), channel slots (R153, R154),
barrier registers (R150) and logbook ports (R240, R242), each decoded to what it names.
-/
namespace Sys2Proof

/-- The bank of a writer: bank a for the director of AP a, bank 4 for the service port (R465). -/
def Writer.bank : Writer → Nat
  | .svc => 4
  | .dir a => a

/-- WRITER of BLK_REJECT (R455). -/
def Writer.code : Writer → Nat
  | .svc => 0
  | .dir a => a + 1

/-- Whether a writer may write device-global registers: the chief director or the board controller (R4). -/
def Writer.chief : Writer → Bool
  | .svc => true
  | .dir a => decide (a = 0)

/-- Whether a writer may act for Aperture `a` (R93, R213). -/
def Writer.mayAct (w : Writer) (a : Nat) : Bool := w.chief || decide (w = .dir a)

end Sys2Proof

namespace Sys2Proof.Machine

open Sys2Proof

/-- The block that records a rejected write to an offset: the identity block for the span of a fused Aperture (R452). -/
def Bridge.rejectBlk (b : Bridge) (off : Nat) : Blk :=
  match Blk.ofOffset off with
  | .apt a => if b.part.apertures ≤ a then .id else .apt a
  | k => k

/-- The status that the service port reports of its last write (R466). -/
def Bridge.svcMark (b : Bridge) (w : Writer) (err : Bool) : Bridge :=
  if w = .svc then { b with eng := { b.eng with svcErr := err } } else b

/-- A rejected control-space write (R455, R457). -/
def Bridge.rejectBy (b : Bridge) (w : Writer) (off : Nat) (half : Bool) (reason : Nat) : Bridge :=
  (b.svcMark w true).reject (b.rejectBlk off) off half reason w.code 0

/-- Whether a write's byte enables reach only bits [63:32] (R455). -/
def onlyHigh (be : BitVec 8) : Bool := be.toNat % 16 = 0 && be ≠ 0

/-- A rejected write of VF `vf` through its BAR0, at a BAR0 offset (R455). -/
def Bridge.rejectVf (b : Bridge) (k : Blk) (vf off reason : Nat) : Bridge := b.reject k off false reason 5 vf

/-- The channel that a selection names: slot `j` of a VF's instance, or a channel number below 8,192 (R153, R154). -/
def Bridge.chanOf (b : Bridge) : ChanSel → Option Nat
  | .slot ap vf j =>
    match b.viOf ap vf with
    | some v => if j < b.viChannels v then some (b.viFirstCh v + j) else none
    | none => none
  | .chan _ c => if c < 8192 then some c else none

/-- Report a rejected channel access at an offset of the slot, or of the channel's registers (R153, R455). -/
def Bridge.rejectChan (b : Bridge) (s : ChanSel) (slotOff ctlOff reason : Nat) : Bridge :=
  match s with
  | .slot _ vf j => b.rejectVf .fnd vf (0x80 * j + slotOff) reason
  | .chan w _ => b.rejectBy w ctlOff false reason

/-- The function whose barrier registers are used (R150). -/
def barFn : BarSel → Nat × Nat
  | .vf ap vf => (ap, vf)
  | .pf0 _ ap => (ap, 0)

/-- The queue that a port access names; a slot beyond the instance's queues names none (R240). -/
def Bridge.portQueue (b : Bridge) (p : PortSel) : Option Nat :=
  match p.src with
  | .vf ap vf =>
    match b.viOf ap vf with
    | some v => if p.idx < b.viQueues v then some (b.viFirstLq v + p.idx) else none
    | none => none
  | _ => if p.idx < 4096 then some p.idx else none

/-- Who makes a port access, as BLK_REJECT names it (R455). -/
def portSelWho (p : PortSel) : PortWho :=
  match p.src with
  | .vf _ vf => ⟨5, vf, 0x4000 + 0x200 * p.idx, false⟩
  | .hostFn .. => ⟨6, 0, 4096 * p.idx, false⟩
  | .meridian .. => ⟨6, 1, 4096 * p.idx, false⟩
  | .transit _ => ⟨6, 2, 4096 * p.idx, false⟩
  | .finder _ => ⟨6, 3, 4096 * p.idx, false⟩
  | .bridge | .tirq _ => ⟨6, 0, 4096 * p.idx, true⟩

end Sys2Proof.Machine
end

