-- ==== Sys2Proof/Machine/Catalogue.lean ====
section
/-!
DEFINITION. Catalogue commits (R105 to R116) and the checks they share with live patches.
-/
namespace Sys2Proof.Machine

open Sys2Proof

/-- Whether the function tree of the almanac in force enables an Aperture (R30). -/
def Bridge.apEnabled (b : Bridge) (a : Nat) : Bool :=
  a < b.part.apertures && (match b.alm.inForce with | some g => g.apEnabled a | none => false)

/-- Region slots whose records name an index range. -/
def rangedSlots : List Nat :=
  (List.range 12) ++ (List.range 96).map (· + 32)

/-- The region slot whose index range holds entry `i` (R100). -/
def Bridge.slotOfEntry (b : Bridge) (i : Nat) : Option Nat :=
  rangedSlots.find? (fun k => b.regionOn k && b.region k regFIRST ≤ i && i < b.region k regFIRST + 2 ^ b.region k regFC)

/-- The live instance in whose grant entry `i` lies. -/
def Bridge.grantOf (b : Bridge) (i : Nat) : Option Nat :=
  b.liveVis.find? (fun v => b.viGrant v ≤ i && i < b.viGrant v + b.grantLen (b.viAp v))

/-- Where an entry stands: its region kind, the region's port, and log2 of its field size. An index of nobody has kind
15. -/
structure EntryPlace where
  kind : Nat
  port : Nat
  fs : Nat
  grant : Option Nat
  deriving DecidableEq, Repr

/-- The place of entry `i`. -/
def Bridge.place? (b : Bridge) (i : Nat) : EntryPlace :=
  match b.slotOfEntry i with
  | some k => ⟨b.region k regKIND, b.region k regPORT, b.region k regFS, none⟩
  | none =>
    match b.grantOf i with
    | some v =>
      if i = b.viGrant v then ⟨3, b.viAp v, 16, some v⟩ else ⟨4, b.viAp v, b.region (slotVf (b.viAp v) 2) regFS, some v⟩
    | none => ⟨15, 0, 0, none⟩

/-- A field of the image's first word. -/
def ig (ws : List Word) (f : Fld) : Nat := wget (ws.getD 0 0) f

/-- Step 1 of R115: who may commit (R102, R107). -/
def commitAuth (w : Writer) (p : EntryPlace) : Bool :=
  match p.kind with
  | 1 | 4 => w.mayAct p.port
  | 5 | 6 | 7 => w.chief
  | _ => false

/-- The ORDER test of R109: ORDER NONE is refused for Transit, ADDR_INV for every other target. -/
def orderOk (ws : List Word) (kind : Nat) : Bool :=
  if ig ws entSPACE = 1 || kind = 6 then ig ws entORDER ≠ 0 else ig ws entORDER ≠ 3

/-- Step 2 of R115: fields within their encodings (R105, R111), ORDER aside. -/
def fieldsOk (ws : List Word) : Bool :=
  let w0 := ws.getD 0 0
  let sp := ig ws entSPACE
  !wbit w0 7 && !wbit w0 15 && !wbit w0 31 && wget w0 ⟨60, 4⟩ = 0 && ig ws entWIDTH ≠ 3 && ig ws entERRMAP ≠ 3 &&
    !(ig ws entDIRECTOR = 1 && ig ws entOWNER ≠ 0) && (sp = 0 || sp = 4 || sp = 8 || ig ws entPORT = 0) &&
    wget (ws.getD 1 0) ⟨0, 12⟩ = 0 && wget (ws.getD 2 0) ⟨20, 44⟩ = 0 && !(ig ws entCLASS = 1 && ig ws entWIDTH = 0)

/-- Step 3: target spaces and the region kinds they accept (R106). -/
def spaceOk (ws : List Word) (p : EntryPlace) : Bool :=
  let port := ig ws entPORT
  match ig ws entSPACE with
  | 0 => p.kind = 1 || p.kind = 4 || p.kind = 6 || (p.kind = 5 && port ≠ p.port)
  | 1 => p.kind = 1 || p.kind = 4 || p.kind = 5
  | 2 => (p.kind = 1 || p.kind = 5 || p.kind = 6) && ig ws entDIRECTOR = 1
  | 3 => p.kind = 1 || p.kind = 4 || p.kind = 5 || p.kind = 6
  | 4 => p.kind = 5 || p.kind = 6 || (p.kind = 7 && port = p.port)
  | 5 => p.kind = 1 || p.kind = 4
  | _ => false

/-- First MiB of the archive's open area (R469). -/
def Bridge.openFirst (b : Bridge) : Nat := if b.get .ifvPairCfg Fld.ifvPairCfg_ENABLE = 1 then 72 else 8

/-- Step 4: spans and target ports (R106, R469). -/
def Bridge.rangeOk (b : Bridge) (ws : List Word) (p : EntryPlace) : Bool :=
  let base := (ws.getD 1 0).toNat
  let sp := ig ws entSPACE
  let port := ig ws entPORT
  base + 2 ^ p.fs ≤ b.spaceEnd sp && (sp ≠ 2 || b.openFirst * 2 ^ 20 ≤ base) &&
    (sp ≠ 0 || (port < b.part.merPorts && b.merEnabled port)) && (sp ≠ 4 || b.apEnabled port)

/-- Step 5: ownership (R107); the SPACE 0x3 and 0x4 parts only for an enabled image. -/
def Bridge.ownerOk (b : Bridge) (ws : List Word) (p : EntryPlace) : Bool :=
  let dir := ig ws entDIRECTOR = 1
  let owner := ig ws entOWNER
  let base := (ws.getD 1 0).toNat
  (match p.grant with | some v => !dir && owner = v | none => p.kind ≠ 1 || dir) &&
  (ig ws entEN = 0 ||
    (match ig ws entSPACE with
     | 3 => dir || (b.viLive owner && b.viFirstLq owner ≤ base / 4096 && 
        (base + 2 ^ p.fs + 4095) / 4096 ≤ b.viFirstLq owner + b.viQueues owner)
     | 4 =>
        if dir then ig ws entRIDFN ≤ b.totalVfs (ig ws entPORT)
        else b.viLive owner && ig ws entPORT = b.viAp owner && ig ws entRIDFN = b.viVf owner
     | _ => true))

/-- Step 7: a commit that changes OWNER or DIRECTOR of an entry owned by a live instance (R107). -/
def Bridge.ownerInUse (b : Bridge) (i : Nat) (ws : List Word) (p : EntryPlace) : Bool :=
  b.ent i entDIRECTOR = 0 && b.viLive (b.ent i entOWNER) && (b.ent i entEN = 1 || p.grant = some (b.ent i entOWNER)) &&
    (ig ws entDIRECTOR = 1 || ig ws entOWNER ≠ b.ent i entOWNER)

/-- The checks of R115 after step 1, in order: 0 or the code of the first rule broken. -/
def Bridge.imageCheck (b : Bridge) (i : Nat) (ws : List Word) (p : EntryPlace) : Nat :=
  let en := ig ws entEN = 1
  if !fieldsOk ws || (en && !orderOk ws p.kind) then 2
  else if en && !spaceOk ws p then 3
  else if en && !b.rangeOk ws p then 4
  else if !b.ownerOk ws p then 5
  else if en && ig ws entDIRECTOR = 0 && !b.viLive (ig ws entOWNER) then 6
  else if b.ownerInUse i ws p then 7
  else 0

/-- The code of a commit by writer `w` (R115); an index beyond the catalogue belongs to nobody. -/
def Bridge.commitCheck (b : Bridge) (w : Writer) (i : Nat) (ws : List Word) : Nat :=
  let p := b.place? i
  if !commitAuth w p then 1 else b.imageCheck i ws p

/-- Apply an image: GEN advances by 1 (R115). The bank of an enabled entry is open from then on (R403). -/
def Bridge.applyEntry (b : Bridge) (i : Nat) (ws : List Word) : Bridge :=
  let b' := b.putEntry i (wput (ws.getD 0 0) entGEN (b.ent i entGEN + 1) :: ws.drop 1)
  if ig ws entEN = 1 then b'.openNow [60 + i / 4096] else b'

/-- CAT_COMMIT_STATUS of a bank (R124). -/
def Bridge.commitStatus (b : Bridge) (n i code : Nat) (done : Bool) : Bridge :=
  b.put (.catCommitStatus n) (wmk [(Fld.catCommitStatus_INDEX, i), (Fld.catCommitStatus_CODE, code),
    (Fld.catCommitStatus_GEN, b.ent i entGEN), (Fld.catCommitStatus_DONE, bit done)])

/-- The image staged in a writer's bank (R115). -/
def Bridge.staged (b : Bridge) (n : Nat) : List Word := (List.range 4).map (fun k => b.raw (.catStage n k))

/-- The instance whose reset or destroy holds a commit to entry `i` (R218). -/
def Bridge.commitHolder (b : Bridge) (i : Nat) : Option Nat :=
  match b.grantOf i with
  | some v => if 2 ≤ b.viState v then some v else none
  | none => none

/-- Entries enabled now, by the register file. -/
def Bridge.enabledEntries (b : Bridge) : List Nat :=
  b.regs.filterMap (fun p => match p.1 with
    | .catEntry i 0 => if wget p.2 entEN = 1 then some i else none
    | _ => none)

/-- Whether an enabled SPACE 0x2 field ends beyond archive MiB `m` (R469). -/
def Bridge.archiveBeyond (b : Bridge) (m : Nat) : Bool :=
  b.enabledEntries.any (fun i => b.ent i entSPACE = 2 &&
    m * 2 ^ 20 < (b.raw (.catEntry i 1)).toNat + 2 ^ (b.place? i).fs)

end Sys2Proof.Machine
end

