-- ==== Sys2Proof/Machine/RegRules.lean ====
section
/-!
DEFINITION. Who may write a register, which values it takes, and how its expert fields derive (R4, R11, R54, R93, R183,
R264, R455 to R457, R462).
-/
namespace Sys2Proof.Machine

open Sys2Proof

/-! Authority. -/

/-- Registers that any director writes: the banked ones that every director has, and the TINT doorbells (R115, R213,
R314, R465). -/
def Reg.shared : Reg → Bool
  | .catStage .. | .catCommit _ | .catCommitStatus _ | .catDrain _ | .viCmd _ | .viCreateA _ | .viCreateB _ | .viCmdStatus _
  | .lneEyeSel _ | .lneEyeHdr _ | .lneEyeRow .. | .trnTintSet | .trnTintClr => true
  | _ => false

/-- Registers that the board controller alone writes (R318's preamble, R442). -/
def Reg.svcOnly : Reg → Bool
  | .trnSvcCmd | .trnSvcData | .fltQuarCtrl => true
  | _ => false

/-- The Aperture whose director may write a register beside the chief director and the board controller (R93, R183, R264,
R458). -/
def Bridge.directorOf (b : Bridge) : Reg → Option Nat
  | .blkId (.apt a) | .blkVer (.apt a) | .blkCtrl (.apt a) | .blkStatus (.apt a) | .blkReject (.apt a) | .blkEvent (.apt a)
  | .blkEventEn (.apt a) | .aptLinkEff a | .aptLedgerCfg a | .aptLedgerUse a | .aptLateCpl a | .aptLateLast a
  | .aptUnexpCpl a | .aptMarginCfg a | .aptIntReissue a | .aptFnEvents a | .idEventRoute a | .idIntPend a _
  | .ordBarrier a | .ordBarrierEng a | .ordBarrierDome a | .ordBarrierSys a | .ordBarStatus a | .ordAptCfg a | .ordPbUse a
  | .ordAtomicStat a | .ordDiscard a | .dspAptCfg a | .dspSchedCmd a | .logFaultLq a | .viPool a _ => some a
  | .dspSchedShadow y _ | .dspSchedActive y _ => some (y / 2)
  | .viEntry v | .viRes v | .viCtrl v | .dspViShare v | .dspViBucket v _ | .dspViFill v _ =>
    if b.viLive v then some (b.viAp v) else none
  | .fndChCtrl c | .fndChCmd c | .fndChStatus c | .fndChProgress c | .fndChFaultAddr c | .fndChFaultInfo c | .fndShadow c _
  | .fndActive c _ => (b.chanOwner c).map b.viAp
  | .logQIrq q => (b.queueOwner q).map b.viAp
  | _ => none

/-- Whether a writer may write a register (R4). -/
def Bridge.authorised (b : Bridge) (w : Writer) (r : Reg) : Bool :=
  match w with
  | .svc => true
  | .dir a => !r.svcOnly && (a = 0 || r.shared || b.directorOf r = some a)

/-! Field changes. -/

/-- The field of a table row. -/
def Field.fld (f : Field) : Fld := ⟨f.lo, f.len⟩

/-- The whole value that a write forms with the halves it does not cover unchanged (R462). -/
def mergeHalves (old v : Word) (lo hi : Bool) : Word := (v &&& halfMask lo hi) ||| (old &&& ~~~ halfMask lo hi)

/-- Whether a field's written value differs from its present one. -/
def Field.changed (f : Field) (old new : Word) : Bool := wget old f.fld ≠ wget new f.fld

/-- The value that the register file takes from a write of the halves `lo`, `hi`: RW and RWL fields take the written
value, W1C and W1S fields clear and set, the others stay (R11). -/
def Reg.stored (r : Reg) (raw v : Word) (lo hi : Bool) : Word :=
  r.fields.foldl (fun w f => match f.acc with
    | .rw | .rwl => wput w f.fld (wget (mergeHalves raw v lo hi) f.fld)
    | .w1c => w &&& ~~~ (v &&& halfMask lo hi &&& f.fld.mask)
    | .w1s => w ||| (v &&& halfMask lo hi &&& f.fld.mask)
    | _ => w) raw

/-! Values. -/

/-- Whether a change of a field to an illegal value is asked for. -/
def bad (old new : Word) (f : Fld) (ok : Nat → Bool) : Bool := wget old f ≠ wget new f && !ok (wget new f)

/-- Whether a command field, judged whenever its half is written, holds a value that is refused. -/
def badCmd (new : Word) (f : Fld) (half : Bool) (ok : Nat → Bool) : Bool := half && !ok (wget new f)

/-- Eyes of a lane (R334): 3 under PAM4, 1 under NRZ. Host lanes run PAM4 at 64 GT/s and above. -/
def Bridge.laneEyes (b : Bridge) (i : Nat) : Nat :=
  if i < 32 then
    (if (List.range 4).any (fun a => 6 ≤ b.get (.aptLinkEff a) Fld.aptLinkEff_RATE &&
      (match b.alm.inForce with
       | some g => (match g.lane 0 a with | some r => un r 1 1 ≤ i && i < un r 1 1 + un r 2 1 | none => false)
       | none => false)) then 3 else 1)
  else if 2 ≤ b.get (.lneLaneStat i) Fld.lneLaneStat_RATE then 3 else 1

/-- Whether a write asks for a value outside its range (reason ILLEGAL_VALUE). `lo` and `hi` say which halves it covers. -/
def Bridge.illegal (b : Bridge) (r : Reg) (old new : Word) (lo hi : Bool) : Bool :=
  match r with
  | .idEventRoute a => bad old new Fld.idEventRoute_VECTOR (· < b.vectors a 0)
  | .almFlashCfg => bad old new Fld.almFlashCfg_SPEED (· ≤ 2)
  | .almShelfAddr => bad old new Fld.almShelfAddr_OFFSET (· % 8 = 0)
  | .almApplyLimit => bad old new Fld.almApplyLimit_TICKS (fun n => 50000 ≤ n && n ≤ 50000000 && b.ladder 7 < n)
  | .almCmd => badCmd new Fld.almCmd_CMD lo (fun n => 1 ≤ n && n ≤ 6)
  | .aptLedgerCfg _ => bad old new Fld.aptLedgerCfg_QUOTA (fun n => 64 ≤ n && n ≤ 16384)
  | .aptMarginCfg _ => bad old new Fld.aptMarginCfg_SOURCE (fun n => b.part.seeing || n = 1)
  | .ordBarrier _ => badCmd new Fld.ordBarrier_SCOPE lo (· ≤ 2)
  | .ordAptCfg a => bad old new Fld.ordAptCfg_BAR_LIMIT (fun n => 500 ≤ n && n < b.cplTimeout a)
  | .fndChCmd _ => badCmd new Fld.fndChCmd_CMD lo (fun n => 1 ≤ n && n ≤ 5)
  | .fndChCtrl _ => bad old new Fld.fndChCtrl_HOME_DOME
      (fun n => n < b.part.domes && b.get (.pwrDomPol n) Fld.pwrDomPol_POLICY ≠ 3)
  | .dspSegCfg => bad old new Fld.dspSegCfg_SEG_LOG2 (fun n => 12 ≤ n && n ≤ 16)
  | .dspAptCfg _ => bad old new Fld.dspAptCfg_DIR_WEIGHT (1 ≤ ·)
  | .dspDomeCfg _ => bad old new Fld.dspDomeCfg_DEPTH (fun n => 1 ≤ n && n ≤ 8) ||
      bad old new Fld.dspDomeCfg_CH_WINDOW (fun n => 1 ≤ n && n ≤ 512)
  | .dspSchedShadow _ _ => (List.range 4).any (fun k => wget new ⟨16 * k + 14, 2⟩ = 3)
  | .dspViShare _ => bad old new Fld.dspViShare_WEIGHT (1 ≤ ·)
  | .dspViBucket _ _ => bad old new Fld.dspViBucket_RATE (· ≤ 512000) ||
      bad old new Fld.dspViBucket_DEPTH_KIB (fun n => 4 ≤ n && n ≤ 16384)
  | .dspGuideCfg _ => bad old new Fld.dspGuideCfg_THRESHOLD (1 ≤ ·) || bad old new Fld.dspGuideCfg_LEAD (· ≤ 5000)
  | .viCmd _ => badCmd new Fld.viCmd_OP lo (fun n => 1 ≤ n && n ≤ 3)
  | .viCtrl _ => bad old new Fld.viCtrl_SELF_POLICY (· ≤ 2) || bad old new Fld.viCtrl_WEDGE_MS (1 ≤ ·)
  | .logSpillCfg => bad old new Fld.logSpillCfg_DIRECTOR_MIB (· ≤ 8192)
  | .logQGeom _ => bad old new Fld.logQGeom_CAP_LOG2 (fun n => 7 ≤ n && n ≤ 27) ||
      bad old new Fld.logQGeom_STALL (· ≤ 200) ||
      bad old new Fld.logQGeom_UNREAD (fun n => n = 0 || (50 ≤ n && n ≤ 50000000)) ||
      bad old new Fld.logQGeom_MIRROR (· ≤ 2)
  | .merPortCtrl _ => bad old new Fld.merPortCtrl_RETRY_LIMIT (1 ≤ ·) || bad old new Fld.merPortCtrl_RETRY_GAP (1 ≤ ·)
  | .trnTgtCfg => bad old new Fld.trnTgtCfg_TGT_WAIT (fun n => 1 ≤ n && n < b.ladder 1) ||
      bad old new Fld.trnTgtCfg_DELAYED_HOLD (fun n => 50 ≤ n && n ≤ 5000000)
  | .trnMasterCfg => bad old new Fld.trnMasterCfg_RETRY_LIMIT (1 ≤ ·) || bad old new Fld.trnMasterCfg_RETRY_GAP (1 ≤ ·)
  | .trnSvcCmd =>
      let op := wget new Fld.trnSvcCmd_OP
      hi && (op = 3 || (op ≠ 0 && wget new Fld.trnSvcCmd_ADDR % 8 ≠ 0))
  | .trnIrqRoute _ => old ≠ new && wget new Fld.trnIrqRoute_LEVEL = 1 && wget new Fld.trnIrqRoute_REPEAT_US = 0
  | .trnTintCfg _ => bad old new Fld.trnTintCfg_SOURCE (· ≤ 1)
  | .lneHealthCfg => bad old new Fld.lneHealthCfg_LOS_TICKS (fun n => 1 ≤ n && n ≤ 50000) ||
      bad old new Fld.lneHealthCfg_MR_LIMIT (1 ≤ ·)
  | .lneSeeCfg _ => bad old new Fld.lneSeeCfg_DWELL_LOG2 (fun n => 6 ≤ n && n ≤ 15)
  | .lneEyeSel _ => 71 < wget new Fld.lneEyeSel_LANE || b.laneEyes (wget new Fld.lneEyeSel_LANE) ≤ wget new Fld.lneEyeSel_EYE
  | .ifvLinkCtrl k => bad old new Fld.ifvLinkCtrl_WIDTH_CAP (fun n => [1, 2, 4, 8, 16].contains n &&
        n ≤ (if k = 4 then b.part.ifvLanes else b.get (.merPortGeom k) Fld.merPortGeom_WIDTH)) ||
      bad old new Fld.ifvLinkCtrl_DOWN_HOLD (50 ≤ ·)
  | .ifvLinkCmd _ => badCmd new Fld.ifvLinkCmd_CMD lo (1 ≤ ·)
  | .ifvPairCtrl => bad old new Fld.ifvPairCtrl_HB_LOSS (fun n => 50 ≤ n && n ≤ 5000) ||
      bad old new Fld.ifvPairCtrl_FENCE (fun n => b.ladder 11 + 50000 < n)
  | .ifvPairCmd => badCmd new Fld.ifvPairCmd_CMD lo (fun n => n = 1 || n = 2)
  | .pwrModeCmd => badCmd new Fld.pwrModeCmd_CMD lo (fun n => 1 ≤ n && n ≤ 4)
  | .pwrDimCfg => bad old new Fld.pwrDimCfg_DIM_IDLE (fun n => 5000 ≤ n && n ≤ 50000000)
  | .pwrSidCal => bad old new Fld.pwrSidCal_REF (· ≤ 9) || bad old new Fld.pwrSidCal_PERIOD_MS (fun n => 10 ≤ n && n ≤ 60000)
  | .pwrDomeClk _ => bad old new Fld.pwrDomeClk_GATE_IDLE (32 ≤ ·)
  | .eyeSel _ => eyeCount b.part (wget new Fld.eyeSel_STRUCT) ≤ wget new Fld.eyeSel_INDEX
  | _ => false

/-- Whether the state of a register forbids a write that changes it (reason STATE). -/
def Bridge.stateForbids (b : Bridge) (r : Reg) (old new : Word) (hi : Bool) : Bool :=
  match r with
  | .fndShadow c _ => 2 ≤ b.chShadow c
  | .dspSchedShadow y _ => b.get (.dspSchedCmd (y / 2)) (if y % 2 = 0 then Fld.dspSchedCmd_PEND_TO else Fld.dspSchedCmd_PEND_FROM) = 1
  | .dspViShare v | .dspViBucket v _ | .viCtrl v => !b.viLive v
  | .logSpillCfg =>
    let d := wget new Fld.logSpillCfg_DIRECTOR_MIB
    wget old Fld.logSpillCfg_DIRECTOR_MIB < d &&
      b.archiveBeyond (b.part.sizeMib - (b.logMib - wget old Fld.logSpillCfg_DIRECTOR_MIB + d))
  | .logFaultLq _ => wget new Fld.logFaultLq_EN = 1 && (b.queueOwner (wget new Fld.logFaultLq_QUEUE)).isSome
  | .logQGeom q =>
    let x := b.queue q
    (b.queueOwner q).isSome || x.packets ≠ [] || x.opn.isSome || b.isFaultLq q
  | .trnSvcCmd => hi && wget new Fld.trnSvcCmd_OP ≠ 0 && b.get .trnSvcCmd Fld.trnSvcCmd_BUSY = 1
  | _ => false

/-- The first reason that rejects a write of a register's halves, 0 when none does (R456, R457). -/
def Bridge.rejectReason (b : Bridge) (w : Writer) (r : Reg) (v : Word) (lo hi : Bool) : Nat :=
  let old := b.readReg [] r
  let new := mergeHalves old v lo hi
  let some_ := fun (p : Field → Bool) => r.fields.any (fun f => f.changed old new && p f)
  if b.mode = 11 && !(r = .fltQuarCtrl || (match r with | .eyeSel _ => true | _ => false)) then 1
  else if b.mode = 3 && !r.block.inBare then 2
  else if !b.authorised w r || (r = .pwrModeCmd && lo && w ≠ .svc && 3 ≤ wget new Fld.pwrModeCmd_CMD) then 5
  else if some_ (fun f => f.acc = .ro || f.acc = .rc) then 6
  else if r.fused b.part then 7
  else if some_ (fun f => f.expert && f.acc = .rw) && b.get (.blkCtrl r.block) Fld.blkCtrl_EXPERT_EN = 0 then 8
  else if some_ (fun f => f.acc = .rwl) && b.get .almStatus Fld.almStatus_SEALED = 1 then 9
  else if b.stateForbids r old new hi then 10
  else if b.illegal r old new lo hi then 11
  else 0

/-! Expert fields. -/

/-- The derived values of a register's expert fields (R54). -/
def Bridge.derive (b : Bridge) (r : Reg) : List (Fld × Nat) :=
  match r with
  | .almFlashCfg =>
    let s := b.get r Fld.almFlashCfg_SPEED
    [(Fld.almFlashCfg_DUMMY, if s = 0 then 20 else if s = 1 then 10 else 8), (Fld.almFlashCfg_DQS_EN, bit (s ≤ 1))]
  | .aptMarginCfg _ => [(Fld.aptMarginCfg_SOURCE, bit (!b.part.seeing))]
  | .ordAptCfg a => [(Fld.ordAptCfg_BAR_LIMIT, 9 * b.cplTimeout a / 10)]
  | .dspDomeCfg _ => [(Fld.dspDomeCfg_DEPTH, 4), (Fld.dspDomeCfg_CH_WINDOW, 64)]
  | .dspGuideCfg _ => [(Fld.dspGuideCfg_LEAD, 25)]
  | .merPortCtrl _ => [(Fld.merPortCtrl_RETRY_LIMIT, 8), (Fld.merPortCtrl_RETRY_GAP, 25)]
  | .trnTgtCfg => [(Fld.trnTgtCfg_TGT_WAIT, min 255 (b.ladder 1 / 2))]
  | .trnMasterCfg => [(Fld.trnMasterCfg_RETRY_LIMIT, 8), (Fld.trnMasterCfg_RETRY_GAP, 16)]
  | .lneSeeCfg _ => [(Fld.lneSeeCfg_DWELL_LOG2, 10), (Fld.lneSeeCfg_OPEN_THRESH, 0)]
  | .ifvLinkCtrl _ => [(Fld.ifvLinkCtrl_DOWN_HOLD, 5000)]
  | .ifvPairCtrl => [(Fld.ifvPairCtrl_HB_LOSS, 250), (Fld.ifvPairCtrl_FENCE, b.ladder 11 + 500000)]
  | .pwrDomeClk _ => [(Fld.pwrDomeClk_DIV, 0), (Fld.pwrDomeClk_GATE_IDLE, 256)]
  | _ => []

/-- Derive again the expert fields of a register that are not overridden. -/
def Bridge.rederive (b : Bridge) (r : Reg) : Bridge :=
  b.sets r ((b.derive r).filter (fun p => !b.overridden.contains (r, p.1.lo)))

/-- Mark the expert fields that a write has changed as overridden, then derive the rest again (R54). -/
def Bridge.override (b : Bridge) (r : Reg) (old new : Word) : Bridge :=
  let l := (r.fields.filter (fun f => f.expert && f.acc = .rw && f.changed old new)).map (fun f => (r, f.lo))
  ({ b with overridden := b.overridden ++ l.filter (fun x => !b.overridden.contains x) }).rederive r

/-- Clearing EXPERT_EN of a block: every override goes, every expert field derives again (R54). -/
def Bridge.clearExpert (b : Bridge) (k : Blk) : Bridge :=
  let mine := b.overridden.filter (fun p => p.1.block = k)
  mine.foldl (fun (b : Bridge) p => b.rederive p.1)
    { b with overridden := b.overridden.filter (fun p => p.1.block ≠ k) }

end Sys2Proof.Machine
end

