-- ==== Sys2Proof/Machine/Delta.lean ====
section
/-!
DEFINITION. The delta log of the kept page (R49 to R51), and the sending of write-through changes to the partner (R377,
R381).
-/
namespace Sys2Proof.Machine

open Sys2Proof

/-- Bytes of the delta log (R48). -/
def deltaSpace : Nat := 450560

/-- The item that the one record of a type 0x03 record's body describes (R491). -/
def sectKey (t : Nat) (body : List Byte) : Option Nat :=
  match bodyRecords t body with | some (r :: _) => liveKey t r | _ => none

/-- The register halves that the one record of a type 0x03 record's body sets and that kept register writes can set again (R50,
R51): offset and half mask. A pool partition and rate limits also act on later CREATEs, so no register write supersedes them. -/
def sectHalves (t : Nat) (body : List Byte) : List (Nat × Nat) :=
  match bodyRecords t body with
  | some (r :: _) => match t with
    | 0x0105 => [((Reg.logQGeom (un r 0 2)).offset, 3)]
    | 0x0106 => [((Reg.dspGuideCfg (un r 0 1)).offset, 1)]
    | _ => []
  | _ => []

/-- Whether record `r` is superseded by a later record `x` alone (R51). -/
def supersedes (r x : DeltaRec) : Bool :=
  match r, x with
  | .catEntry i _, .catEntry k _ => i = k
  | .sect t s, .sect u w => t = u && (sectKey t s).isSome && sectKey t s = sectKey u w
  | .create _ _ _ res, .destroy v _ => wget res ⟨0, 11⟩ = v
  | _, _ => false

/-- Halves that the later type 0x01 records of `l` write at an offset. -/
def laterHalves (off : Nat) (l : List DeltaEntry) : Nat :=
  l.foldl (fun n e => match e.body with | .regWrite o h _ => if o = off then n ||| h else n | _ => n) 0

/-- Whether a record stays, given the records after it: a CREATE goes with the DESTROY that ends it, and so does that
DESTROY, which `pairs` counts. -/
def compactGo : List DeltaEntry → List DeltaEntry
  | [] => []
  | e :: l =>
    let rest := compactGo l
    match e.body with
    | .mark => rest
    | .regWrite off half _ => if laterHalves off l &&& half = half then rest else e :: rest
    | .sect t body =>
      let hs := sectHalves t body
      if l.any (fun x => supersedes (.sect t body) x.body) ||
        (hs ≠ [] && hs.all (fun p => laterHalves p.1 l &&& p.2 = p.2)) then rest else e :: rest
    | .create .. =>
      match rest.find? (fun x => supersedes e.body x.body) with
      | some d => rest.filter (fun x => x.seq ≠ d.seq)
      | none => e :: rest
    | r => if l.any (fun x => supersedes r x.body) then rest else e :: rest

/-- Append a record under the next sequence number. -/
def Kept.push (k : Kept) (r : DeltaRec) : Kept :=
  { k with log := k.log ++ [⟨k.nextSeq, true, r⟩], nextSeq := (k.nextSeq + 1) % 2 ^ 31 }

/-- Compact the delta log and write one compaction mark as its last record (R51). -/
def Bridge.compact (b : Bridge) : Bridge :=
  { b.openDom 95 with kept := ({ b.kept with log := compactGo b.kept.log }).push .mark }

/-! Mirroring. -/

/-- Payload words of a CHANGE; the start of a reset carries the VI and the trigger (log entry 13). -/
def changeWords (seq : Nat) : MirrorChange → List Word
  | .delta r => deltaImage seq true r
  | .resetStart v t => [wmk [(⟨0, 11⟩, v), (⟨16, 3⟩, t)]]

/-- Send queued changes while fewer than 64 are unacknowledged and no resync is in progress (R374, R377). -/
def Bridge.sendChanges (b : Bridge) : Nat → Bridge
  | 0 => b
  | fuel + 1 =>
    let p := b.eng.pair
    match p.queued with
    | [] => b
    | (c, a) :: rest =>
      if 64 ≤ p.outgoing.length || b.get .ifvPairStat Fld.ifvPairStat_RESYNCING = 1 then b else
      let seq := (p.txSeq + 1) % 2 ^ 32
      let p := { p with queued := rest, txSeq := seq, outgoing := p.outgoing ++ [(⟨seq, b.tick, c, a⟩ : OutChange)] }
      Bridge.sendChanges (({ b with eng := { b.eng with pair := p } }).sendMirror (mirrorPacket 2 seq (changeWords seq c))) fuel

/-- Give a write-through change to the mirror engine; `action` is the command that takes effect at the ACK. -/
def Bridge.mirror (b : Bridge) (c : MirrorChange) (action : Option Instr) : Bridge :=
  let p := b.eng.pair
  let b := { b with eng := { b.eng with pair := { p with queued := p.queued ++ [(c, action)] } } }
  b.sendChanges 64

/-- A change that takes effect at once: one made during a resync goes to the partner after it, in order of commit (R374). -/
def Bridge.mirrorLater (b : Bridge) (c : MirrorChange) : Bridge :=
  if b.get .ifvPairStat Fld.ifvPairStat_RESYNCING = 1 then b.mirror c none else b

/-! The delta log. -/

/-- Append a delta record (R49, R51), for the partner too during a resync: compaction at 75 % of the space, overflow when a record does
not fit. -/
def Bridge.appendDelta (b : Bridge) (r : DeltaRec) : Bridge :=
  let b := b.mirrorLater (.delta r)
  if !b.alm.recording then b else
  let fits := fun (b : Bridge) => b.kept.deltaBytes + 8 * deltaWords r ≤ deltaSpace
  let b := if fits b then b else b.compact
  if !fits b then
    ({ b.set .almStatus Fld.almStatus_DELTA_OVERFLOW 1 with
      alm := { b.alm with recording := false }, kept := { b.kept with overflow := true } }).raise .alm Config.deltaOverflowBit.val
  else
    let b := { b with kept := b.kept.push r }
    if 3 * deltaSpace ≤ 4 * b.kept.deltaBytes then b.compact else b

end Sys2Proof.Machine
end

