-- ==== Sys2Proof/Machine/Instances.lean ====
section
/-!
DEFINITION. Instances (R211 to R231): creation, the reset sequence, destruction, and function-level resets (R87 to R89).
-/
namespace Sys2Proof.Machine

open Sys2Proof

/-! Creation. -/

/-- The lowest start of a run of `n` numbers below `top` that meets none of the intervals (R211). -/
def lowestRun (busy : List (Nat × Nat)) (top n : Nat) : Option Nat :=
  let fits := fun s => s + n ≤ top && busy.all (fun p => s + n ≤ p.1 || p.2 ≤ s)
  ((0 :: busy.map (·.2)).filter fits).foldl (fun acc s => match acc with | none => some s | some t => some (min s t)) none

/-- The CREATE results of commands that wait for the partner's ACK. -/
def Bridge.creating (b : Bridge) : List (Word × Word × Word × Word) :=
  (b.eng.pair.outgoing.map (fun x => (x.change, x.action)) ++ b.eng.pair.queued).filterMap (fun x => match x with
    | (.delta (.create c a d r), some _) => some (c, a, d, r)
    | _ => none)

/-- VI_ENTRY of an instance from a CREATE record (R50, R233, R235). -/
def createEntry (c a r : Word) : Word :=
  wmk [(Fld.viEntry_VALID, 1), (Fld.viEntry_STATE, 1), (Fld.viEntry_APERTURE, wget c Fld.viCmd_APERTURE),
    (Fld.viEntry_VF, wget c Fld.viCmd_VF), (Fld.viEntry_FIRST_CH, wget r ⟨16, 13⟩),
    (Fld.viEntry_CHANNELS, wget a Fld.viCreateA_CHANNELS), (Fld.viEntry_GRANT_FIRST, wget r ⟨32, 16⟩)]

/-- VI_RES of an instance from a CREATE record. -/
def createRes (a d : Word) : Word :=
  wmk [(Fld.viRes_FIRST_LQ, wget a Fld.viCreateA_FIRST_LQ), (Fld.viRes_QUEUES, wget a Fld.viCreateA_QUEUES),
    (Fld.viRes_LEDGER_QUOTA, wget a Fld.viCreateA_LEDGER_QUOTA), (Fld.viRes_VECTORS, wget d Fld.viCreateB_VECTORS),
    (Fld.viRes_SPILL_MIB, wget d Fld.viCreateB_SPILL_MIB)]

/-- Every instance that holds numbers: live, in reserve, or in a CREATE under way: VI, VI_ENTRY, VI_RES. -/
def Bridge.holders (b : Bridge) : List (Nat × Word × Word) :=
  b.liveVis.map (fun v => (v, b.raw (.viEntry v), b.raw (.viRes v))) ++ b.eng.reserve.map (fun r => (r.v, r.entry, r.res))
    ++ b.creating.map (fun x => (wget x.2.2.2 ⟨0, 11⟩, createEntry x.1 x.2.1 x.2.2.2, createRes x.2.1 x.2.2.1))

/-- Channels that are taken, as intervals. -/
def Bridge.busyChannels (b : Bridge) : List (Nat × Nat) :=
  b.holders.map (fun h => (wget h.2.1 Fld.viEntry_FIRST_CH, wget h.2.1 Fld.viEntry_FIRST_CH + wget h.2.1 Fld.viEntry_CHANNELS))

/-- Catalogue entries that are taken or belong to a region record (R101). -/
def Bridge.busyEntries (b : Bridge) : List (Nat × Nat) :=
  (rangedSlots.filter b.regionOn).map (fun k => (b.region k regFIRST, b.region k regFIRST + 2 ^ b.region k regFC)) ++
  b.holders.map (fun h => (wget h.2.1 Fld.viEntry_GRANT_FIRST,
    wget h.2.1 Fld.viEntry_GRANT_FIRST + b.grantLen (wget h.2.1 Fld.viEntry_APERTURE)))

/-- The home range (R211, R372). -/
def Bridge.homeRange (b : Bridge) : Nat × Nat :=
  if b.get .ifvPairCfg Fld.ifvPairCfg_ENABLE = 1 then
    (b.get .ifvPairCfg Fld.ifvPairCfg_HOME_FIRST, b.get .ifvPairCfg Fld.ifvPairCfg_HOME_LAST)
  else (0, b.part.vis - 1)

/-- The lowest free VI number of the home range. -/
def Bridge.freeVi (b : Bridge) : Option Nat :=
  let h := b.homeRange
  let used := b.holders.map (·.1)
  (firstFree (fun v => used.contains v) (h.2 + 1 - h.1) h.1).filter (· ≤ h.2)

/-- What a pool of an Aperture still has (R212). -/
def Bridge.poolLeft (b : Bridge) (a k : Nat) : Nat :=
  let inFlight := (b.creating.filter (fun x => wget x.1 Fld.viCmd_APERTURE = a)).foldl
    (fun n x => n + b.holds a k (createEntry x.1 x.2.1 x.2.2.2) (createRes x.2.1 x.2.2.1)) 0
  b.get (.viPool a k) Fld.viPool_SIZE - (b.poolUsed a k + inFlight)

/-- Whether a queue range is taken: owned, a director's fault logbook, or beyond LQ 4,095 (R214). -/
def Bridge.queuesTaken (b : Bridge) (first n : Nat) : Bool :=
  0 < n && (4096 < first + n ||
    b.holders.any (fun h => rangesMeet (first, first + n)
      (wget h.2.2 Fld.viRes_FIRST_LQ, wget h.2.2 Fld.viRes_FIRST_LQ + wget h.2.2 Fld.viRes_QUEUES)) ||
    (List.range n).any (fun k => b.isFaultLq (first + k)))

/-- Whether a dome may be a home dome (R214, R404). -/
def Bridge.homeOk (b : Bridge) (d : Nat) : Bool := d < b.part.domes && b.get (.pwrDomPol d) Fld.pwrDomPol_POLICY ≠ 3

/-- Whether a pool partition is in force (R31). -/
def Bridge.partitioned (b : Bridge) : Bool := match b.alm.inForce with | some g => g.has 0x0102 | none => false

/-- The checks of a CREATE after authority, in the order of R214: the numbers obtained, or the code. `want` gives recorded
numbers that are taken when they are free (R220). -/
def Bridge.createNumbers (b : Bridge) (ap vf : Nat) (a d : Word) (want : Option (Nat × Nat × Nat)) : (Nat × Nat × Nat) ⊕ Nat :=
  let ch := wget a Fld.viCreateA_CHANNELS
  let qs := wget a Fld.viCreateA_QUEUES
  let lq := wget a Fld.viCreateA_FIRST_LQ
  let led := wget a Fld.viCreateA_LEDGER_QUOTA
  let vec := wget d Fld.viCreateB_VECTORS
  let spill := wget d Fld.viCreateB_SPILL_MIB
  let used := b.holders.map (·.1)
  let v? := match want with
    | some (v, _, _) => if used.contains v || v < b.homeRange.1 || b.homeRange.2 < v then b.freeVi else some v
    | none => b.freeVi
  let free := fun (busy : List (Nat × Nat)) (top n s : Nat) => s + n ≤ top && busy.all (fun p => s + n ≤ p.1 || p.2 ≤ s)
  let pick := fun (busy : List (Nat × Nat)) (top n : Nat) (w : Option Nat) =>
    match w with | some s => if free busy top n s then some s else lowestRun busy top n | none => lowestRun busy top n
  if !b.partitioned then .inr 10
  else if 128 < ch || 16 < qs || led = 0 || 16384 < led || vec = 0 || 2048 < vec || 8192 < spill || vf = 0 ||
      b.totalVfs ap < vf || !b.apEnabled ap || !b.homeOk (wget a Fld.viCreateA_HOME_DOME) then .inr 2
  else if b.holders.any (fun h => wget h.2.1 Fld.viEntry_APERTURE = ap && wget h.2.1 Fld.viEntry_VF = vf) then .inr 3
  else match v? with
    | none => .inr 4
    | some v =>
      if b.poolLeft ap 0 = 0 then .inr 4
      else if b.poolLeft ap 1 < ch || b.poolLeft ap 2 < b.grantLen ap || b.poolLeft ap 3 < qs || b.poolLeft ap 4 < led ||
          b.poolLeft ap 5 < vec || b.poolLeft ap 6 < spill then .inr 5
      else match pick b.busyChannels 8192 ch (want.map (fun w => w.2.1)),
          pick b.busyEntries 65536 (b.grantLen ap) (want.map (fun w => w.2.2)) with
        | some c, some g => if b.queuesTaken lq qs then .inr 7 else .inl (v, c, g)
        | _, _ => .inr 6

/-- What the register file holds for a channel goes back to reset, its register sets with it: nothing left by a previous owner
remains (R215). -/
def Bridge.clearChannel (b : Bridge) (c : Nat) : Bridge :=
  let sets := (List.range 8).flatMap (fun w => [Reg.fndShadow c w, .fndActive c w])
  let b := ([Reg.fndChStatus c, .fndChProgress c, .fndChFaultAddr c, .fndChFaultInfo c] ++ sets).foldl
    (fun (b : Bridge) r => b.put r (r.resetValue b.part)) b
  { b with eng := { b.eng with chans := b.eng.chans.filter (fun x => x.c ≠ c) } }

/-- The MSI-X table of a function goes back to reset and its pending bits clear (R215 step 5). -/
def Bridge.clearMsix (b : Bridge) (ap fn : Nat) : Bridge :=
  { b with msix := b.msix.filter (fun e => !(e.ap = ap && e.fn = fn))
           pendVec := b.pendVec.filter (fun p => !(p.ap = ap && p.fn = fn)) }

/-- The shares of an instance from the almanac's rate-limits record (R215 step 6, R31): VI_SHARE and the bucket word. -/
def Bridge.recordShares (b : Bridge) (v : Nat) : Word × Word :=
  let share := fun (w p : Nat) => wmk [(Fld.dspViShare_WEIGHT, w), (Fld.dspViShare_PRIO_CEIL, p)]
  let bucket := fun (r d : Nat) => wmk [(Fld.dspViBucket_RATE, r), (Fld.dspViBucket_DEPTH_KIB, d)]
  match b.alm.inForce with
  | some g => match g.find 0x0104 (fun r => un r 0 2 = v) with
    | some (_, r) => (share (un r 2 1) (un r 3 1), bucket (un r 4 4) (un r 8 4 / 1024))
    | none => (share 1 7, bucket 0 16384)
  | none => (share 1 7, bucket 0 16384)

/-- Load an instance's shares, both buckets full, nothing pending. -/
def Bridge.loadShares (b : Bridge) (v : Nat) (share b0 b1 : Word) : Bridge :=
  let b := ((b.put (.dspViShare v) share).put (.dspViBucket v 0) b0).put (.dspViBucket v 1) b1
  { b with eng := { b.eng with
      buckets := b.eng.buckets.filter (fun p => p.1 / 2 ≠ v)
      sharePend := b.eng.sharePend.filter (fun p => p.1 / 2 ≠ v) } }

/-- Queues of an instance. -/
def Bridge.viQueueList (b : Bridge) (v : Nat) : List Nat := (List.range (b.viQueues v)).map (· + b.viFirstLq v)

/-- Channels of an instance. -/
def Bridge.viChanList (b : Bridge) (v : Nat) : List Nat := (List.range (b.viChannels v)).map (· + b.viFirstCh v)

/-- Write and enable the VF BAR0 entry of an instance: GEN advances (R102, R215 step 1). -/
def Bridge.writeBar0 (b : Bridge) (v : Nat) : Bridge :=
  let i := b.viGrant v
  b.putEntry i [wput (ownEntry 7 0 v false) entGEN (b.ent i entGEN + 1), 0, 0, 0]

/-- The effect of a successful CREATE (R215). -/
def Bridge.createAt (b : Bridge) (v : Nat) (entry res : Word) (home : Nat) : Bridge :=
  let b := (b.put (.viEntry v) entry).put (.viRes v) res
  let b := (List.range (b.grantLen (b.viAp v) - 1)).foldl (fun (b : Bridge) k => b.disableEntry (b.viGrant v + 1 + k)) (b.writeBar0 v)
  let b := (b.viChanList v).foldl (fun (b : Bridge) c =>
    (b.clearChannel c).put (.fndChCtrl c) (wmk [(Fld.fndChCtrl_HOME_DOME, home), (Fld.fndChCtrl_HOP_LIMIT, 65535)])) b
  let b := (b.viQueueList v).foldl (fun (b : Bridge) q => b.flushQueue q) b
  let b := b.clearMsix (b.viAp v) (b.viVf v)
  let s := b.recordShares v
  let b := b.loadShares v s.1 s.2 s.2
  let b := b.put (.viCtrl v) (wmk [(Fld.viCtrl_SELF_POLICY, 0), (Fld.viCtrl_WEDGE_MS, 100)])
  { b with eng := { b.eng with resets := b.eng.resets.filter (fun p => p.1 ≠ v) } }

/-- VI_CMD_STATUS of a bank; DONE raises CMD_DONE (R233, R232). -/
def Bridge.viStatus (b : Bridge) (n code v : Nat) : Bridge :=
  (b.put (.viCmdStatus n) (wmk [(Fld.viCmdStatus_CODE, code), (Fld.viCmdStatus_VI, v), (Fld.viCmdStatus_DONE, 1)])).raise .vi 0

/-- A command has begun in a bank: DONE reads 0 until it ends. -/
def Bridge.viBegin (b : Bridge) (n v : Nat) : Bridge := b.put (.viCmdStatus n) (wmk [(Fld.viCmdStatus_VI, v)])

/-- Apply a CREATE record with its numbers, and record it (R49, R215, R220). -/
def Bridge.createApply (b : Bridge) (c a d r : Word) (log : Bool) : Bridge :=
  let b := b.createAt (wget r ⟨0, 11⟩) (createEntry c a r) (createRes a d) (wget a Fld.viCreateA_HOME_DOME)
  if log then b.appendDelta (.create c a d r) else b

/-! The reset sequence. -/

/-- Whether a reset or destroy of an instance is in progress. -/
def Bridge.inst? (b : Bridge) (v : Nat) : Option Inst := b.eng.insts.find? (fun x => x.v = v)

/-- Write a reset in progress. -/
def Bridge.putInst (b : Bridge) (x : Inst) : Bridge :=
  { b with eng := { b.eng with insts := listPut (fun y => y.v = x.v) x b.eng.insts } }

/-- The channel for which a request was made. -/
def Origin.chan : Origin → Option Nat
  | .seg c _ _ | .table c _ _ | .segFlush c _ _ | .descriptor c | .checkStore c | .crec c => some c
  | _ => none

/-- Whether a request is one of instance `v`: it goes through an entry that the instance owns, or one of its channels made it. -/
def Bridge.jobOf (b : Bridge) (v : Nat) (j : Job) : Bool :=
  j.owner = some v ||
  (match j.origin with
    | .up id => b.ups.any (fun u => u.id = id && b.entOwner u.idx = some v)
    | o => (match o.chan with | some c => b.viFirstCh v ≤ c && c < b.viFirstCh v + b.viChannels v | none => false))

/-- Whether a request is a read of instance `v` that a reset squashes (R226 step 3). -/
def Bridge.squashes (b : Bridge) (v : Nat) (j : Job) : Bool :=
  b.jobOf v j && !j.op.isWrite && (match j.origin with | .up _ => true | o => o.chan.isSome)

/-- Remove from every place where a request waits the jobs that `p` selects. -/
def Bridge.dropJobs (b : Bridge) (p : Job → Bool) : Bridge :=
  let kept := fun (o : Option Job) => match o with | some j => !p j | none => true
  { b with
    reqs := b.reqs.filter (fun j => !p j)
    archReqs := b.archReqs.filter (fun r => kept r.job)
    eng := { b.eng with
      merPorts := b.eng.merPorts.map (fun x => { x with waiting := x.waiting.filter (fun j => !p j) })
      logWait := b.eng.logWait.filter (fun j => !p j)
      queues := b.eng.queues.map (fun q => (q.1, { q.2 with
        stalled := q.2.stalled.filter (fun x => kept x.job), blocked := q.2.blocked.filter (fun x => kept x.job) }))
      trn := { b.eng.trn with queue := b.eng.trn.queue.filter (fun t => !p t.job || t.done ≠ 0) } } }

/-- Steps 1 to 3 of a reset: the channels of the instance become IDLE with empty shadows, its outstanding reads are
squashed, upstream readers get the ERRMAP answer (R181, R191, R226). What its channels still have outstanding reports to nobody; a
write to the host counts as drained when it is issued, and no flushing read follows it. -/
def Bridge.squash (b : Bridge) (v : Nat) : Bridge :=
  let b := (b.viChanList v).foldl (fun (b : Bridge) c =>
    ({ b with eng := { b.eng with chans := b.eng.chans.filter (fun x => x.c ≠ c) } }).sets (.fndChStatus c)
      [(Fld.fndChStatus_STATE, 0), (Fld.fndChStatus_SHADOW, 0)]) b
  let b := (b.dropJobs (b.squashes v)).quarantineLedger (fun e => b.squashes v e.job)
  let b := { b with proving := b.proving.filter (fun j => !b.jobOf v j) }
  let b := b.mapJobs (fun j => if b.jobOf v j && j.origin.chan.isSome then { j with origin := .dead } else j)
  (b.ups.filter (fun u => !u.write && b.entOwner u.idx = some v)).foldl
    (fun (b : Bridge) u => b.answerUp { u with err := some .masterDisabled } (some v)) b

/-- The writes that a reset drains: those of the VF's posting-buffer entries, issued finder writes and upstream writes
through the instance's entries; a host write that has been issued counts as drained (R226 step 4). -/
def Bridge.toDrain (b : Bridge) (v : Nat) : List Nat :=
  let mine := fun (j : Job) => b.jobOf v j || j.src = .hostFn (b.viAp v) (b.viVf v)
  ((b.writes.filter mine).map (·.id)).filter (fun i => !b.proving.any (fun j => j.id = i))

/-- The writes of a reset that are not drained yet, each once. -/
def Bridge.undrained (b : Bridge) (x : Inst) : List Job :=
  (b.writes.filter (fun j => x.draining.contains j.id && !b.proving.any (fun k => k.id = j.id))).foldr
    (fun (j : Job) l => if l.any (fun k => k.id = j.id) then l else j :: l) []

/-- Start a reset of a live instance with a trigger (R225, R226): absorbed into one in progress (R218), which a squash by
failover makes its own and which completes an absorbed function-level reset. `bank` is the bank
whose VI_CMD_STATUS reports its end. -/
def Bridge.startReset (b : Bridge) (v trigger : Nat) (bank : Option Nat) : Bridge :=
  match b.inst? v with
  | some x =>
    if trigger = 5 && x.trigger ≠ 5 then b.putInst { x with destroyHeld := true, destroyBanks := x.destroyBanks ++ bank.toList }
    else if trigger = 6 && x.trigger ≠ 5 then b.putInst { x with trigger := 6, banks := x.banks ++ bank.toList }
    else if trigger = 1 || trigger = 2 then b.putInst { x with flrs := x.flrs ++ [trigger] }
    else b.putInst { x with banks := x.banks ++ bank.toList }
  | none =>
    let b := b.set (.viEntry v) Fld.viEntry_STATE (if trigger = 5 then 3 else 2)
    let d := b.toDrain v
    (b.squash v).putInst { v := v, trigger := trigger, start := b.tick, abandoned := 0, draining := d, flrs := [], banks := bank.toList,
                           destroyBanks := [], destroyHeld := false, heldCommits := [] }

/-- Give a write up at a drain deadline (R227): it leaves the posting buffer and whatever it waits in; what comes of it later
concerns nobody, and an agent that sent it has its answer now (R275). -/
def Bridge.giveUp (b : Bridge) (j : Job) : Bridge :=
  let waits := b.pbs.any (fun e => e.kind = .waiting && e.job.id = j.id)
  let b := if waits then b.pbDiscard (fun e => e.kind = .waiting && e.job.id = j.id) else b.freePb j.id
  let b := (b.dropJobs (fun k => k.id = j.id)).mapJobs (fun k => if k.id = j.id then { k with origin := .dead } else k)
  match j.origin with | .up _ => b.finish j (.err .tgtFault) | _ => b

/-- A write abandoned at the drain deadline (R227). -/
def Bridge.abandonWrite (b : Bridge) (v : Nat) (j : Job) : Bridge :=
  let b := b.record 0x0A .vi (some v) (some (b.viAp v)) (BitVec.ofNat 64 j.addr) (packIdx j.idx j.gen j.space j.port)
  (b.giveUp j).raise .vi 4

/-- The entries that an instance owns: in its grant, or with its number as OWNER (R107). An entry whose word is all zeros names
VI 0. -/
def Bridge.entriesOf (b : Bridge) (v : Nat) : List Nat :=
  let grant := (List.range (b.grantLen (b.viAp v))).map (· + b.viGrant v)
  let own := fun (i : Nat) => b.ent i entDIRECTOR = 0 && b.ent i entOWNER = v && !grant.contains i
  let others := if v = 0 then (List.range 65536).filter own
    else b.regs.filterMap (fun p => match p.1 with | .catEntry i 0 => if own i then some i else none | _ => none)
  grant ++ others

/-- The deepest function-level reset that a reset performs: its own trigger or an absorbed one (0: none). -/
def Inst.flr (x : Inst) : Nat :=
  if x.trigger = 2 || x.flrs.contains 2 then 2 else if x.trigger = 1 || x.flrs.contains 1 then 1 else 0

/-- Raise FLR_DONE when a function-level reset of the Aperture is over (R89). -/
def Bridge.flrDone (b : Bridge) (ap trigger : Nat) : Bridge :=
  if trigger = 1 then b.raise (.apt ap) 3
  else if trigger = 2 && !b.eng.insts.any (fun x => x.flr = 2 && b.viAp x.v = ap) && !b.eng.pfFlrs.any (fun x => x.ap = ap) then
    b.raise (.apt ap) 3
  else b

/-- The posting-buffer entries of PF0 of an Aperture (R89). -/
def Bridge.pf0Writes (b : Bridge) (ap : Nat) : List Job :=
  (b.pbs.filter (fun e => e.ap = ap && e.fn = 0 && e.kind ≠ .barrier)).map (·.job)

/-- A function-level reset of PF0 goes on (R89, R148): at the drain deadline what has not drained is given up; when its entries have
drained, or none were there, the reset is over but for those of the instances. -/
def Bridge.pf0Drain (b : Bridge) (x : PfFlr) : Bridge :=
  let left := (b.pf0Writes x.ap).filter (fun j => x.draining.contains j.id)
  let late : Bool := decide (x.start + b.ladder 11 - 5000 ≤ b.tick)
  let b := if late then left.foldl (fun (b : Bridge) j => b.giveUp j) b else b
  if left = [] || late then
    ({ b with eng := { b.eng with pfFlrs := b.eng.pfFlrs.filter (fun y => y ≠ x) } }).flrDone x.ap 2
  else b

/-- Go on with every function-level reset of a PF0. -/
def Bridge.pf0Drains (b : Bridge) : Bridge := b.eng.pfFlrs.foldl (fun (b : Bridge) x => b.pf0Drain x) b

/-- Return a destroyed instance's resources (R217): its shares read what the almanac gives its number (R209), and the ledger
entries that are still quarantined charge no quota. -/
def Bridge.remove (b : Bridge) (v : Nat) : Bridge :=
  let b := (b.put (.viEntry v) 0).put (.viRes v) 0
  let b := b.put (.viCtrl v) (Reg.resetValue b.part (.viCtrl v))
  let s := b.recordShares v
  let b := b.loadShares v s.1 s.2 s.2
  { b with
    ledger := b.ledger.map (fun e => if e.job.owner = some v then { e with charged := false } else e)
    eng := { b.eng with
      resets := b.eng.resets.filter (fun p => p.1 ≠ v)
      pair := { b.eng.pair with adopted := b.eng.pair.adopted.filter (· ≠ v) } } }

/-- Apply a commit that its checks allow, with its delta record (R49, R115). -/
def Bridge.commitApply (b : Bridge) (n i : Nat) (ws : List Word) : Bridge :=
  ((b.applyEntry i ws).appendDelta (.catEntry i ws)).commitStatus n i 0 true

/-- A commit takes effect now, or in Paired mode after the partner's acknowledgement (R25, R116). -/
def Bridge.commitEffect (b : Bridge) (w : Writer) (i : Nat) (ws : List Word) : Bridge :=
  if b.mirrors then (b.commitStatus w.bank i 0 false).mirror (.delta (.catEntry i ws)) (some (.catCommit w i))
  else b.commitApply w.bank i ws

/-- Add or replace a reserve instance. -/
def Bridge.putReserve (b : Bridge) (r : Reserve) : Bridge :=
  { b with eng := { b.eng with reserve := listPut (fun x => x.v = r.v) r b.eng.reserve } }

/-- The CREATE record of a live instance (R50). -/
def Bridge.createRec (b : Bridge) (v : Nat) : DeltaRec :=
  .create (wmk [(Fld.viCmd_OP, 1), (Fld.viCmd_APERTURE, b.viAp v), (Fld.viCmd_VI, v), (Fld.viCmd_VF, b.viVf v)])
    (wmk [(Fld.viCreateA_CHANNELS, b.viChannels v), (Fld.viCreateA_QUEUES, b.viQueues v), (Fld.viCreateA_FIRST_LQ, b.viFirstLq v),
      (Fld.viCreateA_HOME_DOME, b.get (.fndChCtrl (b.viFirstCh v)) Fld.fndChCtrl_HOME_DOME),
      (Fld.viCreateA_LEDGER_QUOTA, b.get (.viRes v) Fld.viRes_LEDGER_QUOTA)])
    (wmk [(Fld.viCreateB_VECTORS, b.viVectors v), (Fld.viCreateB_SPILL_MIB, b.get (.viRes v) Fld.viRes_SPILL_MIB)])
    (wmk [(⟨0, 11⟩, v), (⟨16, 13⟩, b.viFirstCh v), (⟨32, 16⟩, b.viGrant v)])

/-- A handback is over when no adopted instance is left (R389). -/
def Bridge.handedBack (b : Bridge) : Bridge :=
  if b.eng.pair.handing && b.eng.pair.adopted = [] then
    ({ b with eng := { b.eng with pair := { b.eng.pair with handing := false } } }).raise .ifv 15
  else b

/-- An instance squashed by failover returns to reserve with the given images (R375, R386, R389). In a handback it is sent
to its home bridge; HANDBACK_DONE follows the last. -/
def Bridge.toReserve (b : Bridge) (v : Nat) (images : List (Nat × List Word)) : Bridge :=
  let rec_ := b.createRec v
  let r : Reserve :=
    { v := v, entry := b.raw (.viEntry v), res := b.raw (.viRes v), ctrl := b.raw (.viCtrl v), share := b.raw (.dspViShare v),
      buckets := [b.raw (.dspViBucket v 0), b.raw (.dspViBucket v 1)], images := images, ckpts := [], logs := [], packets := [] }
  let b := (b.set (.catEntry (b.viGrant v) 0) entEN 0).putReserve r
  let b := b.remove v
  if !b.eng.pair.handing then b else (if b.mirrors then b.mirror (.delta rec_) none else b.mirrorLater (.delta rec_)).handedBack

/-- Steps 5 to 7 of a reset, and what was held for its end (R218, R226, R231). -/
def Bridge.finishReset (b : Bridge) (x : Inst) : Bridge :=
  let v := x.v
  let ap := b.viAp v
  let vf := b.viVf v
  let b := { b with eng := { b.eng with insts := b.eng.insts.filter (fun y => y.v ≠ v) } }
  let b := (b.viQueueList v).foldl (fun (b : Bridge) q => b.flushQueue q) b
  let images := ((b.entriesOf v).filter (fun i => b.ent i entEN = 1 && i ≠ b.viGrant v)).map (fun i => (i, b.entry i))
  let b := (b.entriesOf v).foldl (fun (b : Bridge) i => b.disableEntry i) b
  let b := if x.trigger = 5 then b else b.set (.catEntry (b.viGrant v) 0) entEN 1
  let b := if x.flr ≠ 0 || x.trigger = 7 || x.trigger = 5 then b.clearMsix ap vf
    else { b with pendVec := b.pendVec.filter (fun p => !(p.ap = ap && p.fn = vf)) }
  let ticks := b.tick - x.start
  let b := b.put .viLastReset (wmk [(Fld.viLastReset_VI, v), (Fld.viLastReset_TRIGGER, x.trigger),
    (Fld.viLastReset_ABANDONED, min x.abandoned 65535), (Fld.viLastReset_TICKS, ticks)])
  let b := ({ b.set (.viEntry v) Fld.viEntry_STATE 1 with
    eng := { b.eng with resets := alPut v (min 65535 (alGet 0 v b.eng.resets + 1)) b.eng.resets } }).life 7
  let b := (b.raise .vi 1).record 0x09 .vi (some v) (some ap) (wmk [(⟨0, 3⟩, x.trigger), (⟨32, 32⟩, ticks)])
    (BitVec.ofNat 64 x.abandoned)
  let b := if x.trigger = 1 || x.flrs.contains 1 then b.flrDone ap 1 else b
  let b := if x.flr = 2 then b.flrDone ap 2 else b
  if x.trigger = 5 then
    let b := ((b.remove v).appendDelta (.destroy v ap)).handedBack
    let b := x.heldCommits.foldl (fun (b : Bridge) c => b.commitStatus c.1.bank c.2.1 6 true) b
    x.banks.foldl (fun (b : Bridge) n => b.viStatus n 0 v) b
  else
    let b := x.heldCommits.foldl (fun (b : Bridge) c => b.commitEffect c.1 c.2.1 c.2.2) b
    let b := x.banks.foldl (fun (b : Bridge) n => b.viStatus n 0 v) b
    if x.destroyHeld then
      let b := b.startReset v 5 none
      match b.inst? v with
      | some y => b.putInst { y with banks := x.destroyBanks }
      | none => b
    else if x.trigger = 6 then b.toReserve v images else b

/-- The end of a reset's drain (R226): nothing happens while a write is undrained. -/
def Bridge.resetDrained (b : Bridge) (v : Nat) : Bridge :=
  match b.inst? v with
  | some x => if b.undrained x = [] then b.finishReset x else b
  | none => b

/-- The drain deadline, L less 100 µs after the trigger (R227). -/
def Bridge.drainDeadline (b : Bridge) (v : Nat) : Bridge :=
  match b.inst? v with
  | none => b
  | some x =>
    if b.tick < x.start + b.ladder 11 - 5000 then b else
    let l := b.undrained x
    (l.foldl (fun (b : Bridge) j => b.abandonWrite v j) b).putInst
      { x with draining := [], abandoned := x.abandoned + l.length }

/-! Function-level resets and Aperture link events. -/

/-- Restore a function's configuration registers (R88, R89); what a load has set stays. BAR_LIMIT follows the completion timeout
that is in force then (R151). -/
def Bridge.restoreCfg (b : Bridge) (ap fn : Nat) : Bridge :=
  let keep := fun (f : CfgField) => match f with
    | .vendorId | .deviceId | .classCode | .revision | .subsystemVendor | .subsystemId | .msixTableSize | .totalVfs
    | .barSize _ | .vfBarSize _ | .vfDeviceId | .routingId => true
    | _ => false
  let b := { b with cfg := b.cfg.filter (fun p => !(p.1.ap = ap && p.1.fn = fn) || keep p.1.field) }
  if fn = 0 then b.putCplTimeout ap (b.cfgGet ap 0 .cplTimeout) else b

/-- Restore every function of an Aperture, with its MSI-X table. -/
def Bridge.restoreAll (b : Bridge) (ap : Nat) : Bridge :=
  let fns := (b.cfg.filter (fun p => p.1.ap = ap)).map (fun p => p.1.fn) ++ (b.msix.filter (fun e => e.ap = ap)).map (fun e => e.fn)
  (0 :: fns).eraseDups.foldl (fun (b : Bridge) fn => (b.restoreCfg ap fn).clearMsix ap fn) b

/-- Instances of an Aperture. -/
def Bridge.visOf (b : Bridge) (ap : Nat) : List Nat := b.liveVis.filter (fun v => b.viAp v = ap)

/-- Abandon what is outstanding under a function's Requester ID: function-level reset (R83). -/
def Bridge.abandonFn (b : Bridge) (ap fn : Nat) : Bridge :=
  b.abandon (fun e => e.ap = ap && e.job.fn = fn) .masterDisabled

end Sys2Proof.Machine
end

