-- ==== Sys2Proof/Machine/Mirror.lean ====
section
/-!
DEFINITION. The pair (R371 to R392): reserve, journal, resync, heartbeat decisions, isolation, yield and adoption.
-/
namespace Sys2Proof.Machine

open Sys2Proof

def Bridge.putPair (b : Bridge) (p : Pair) : Bridge := { b with eng := { b.eng with pair := p } }

/-- Change the mode (R394): MODE_CHANGE is raised. -/
def Bridge.setMode (b : Bridge) (m : Nat) : Bridge :=
  if b.mode = m then b else (b.set .pwrMode Fld.pwrMode_MODE m).raise .pwr 0

def Bridge.paired (b : Bridge) : Bool := b.get .ifvPairCfg Fld.ifvPairCfg_ENABLE = 1
def Bridge.pairId (b : Bridge) : Nat := b.get .ifvPairCfg Fld.ifvPairCfg_PAIR_ID
def Bridge.pst (b : Bridge) (f : Fld) : Nat := b.get .ifvPairStat f

/-- A PAIR fault record (R437). -/
def Bridge.pairRecord (b : Bridge) (ap : Option Nat) : Bridge :=
  b.record 0x0E .ifv none ap (wmk [(⟨0, 3⟩, b.pst Fld.ifvPairStat_LAST_CAUSE)])
    (wmk [(⟨0, 11⟩, b.eng.pair.adopted.length), (⟨16, 16⟩, b.get .ifvMirrorStat Fld.ifvMirrorStat_UNCONFIRMED)])

/-! Reserve. -/

/-- Merge a half-masked write into a word. -/
def mergeHalf (old : Word) (half : Nat) (v : Word) : Word := mergeHalves old v (half.testBit 0) (half.testBit 1)

/-- Apply one change of the partner to the reserve (R375, R378). Kept writes that concern no reserve instance change
nothing here. -/
def Bridge.applyReserve (b : Bridge) (c : MirrorChange) : Bridge :=
  let upd := fun (p : Reserve → Bool) (f : Reserve → Reserve) =>
    { b with eng := { b.eng with reserve := b.eng.reserve.map (fun r => if p r then f r else r) } }
  match c with
  | .delta (.create k a d res) =>
    let v := wget res ⟨0, 11⟩
    let entry := createEntry k a res
    let s := b.recordShares v
    let b := (List.range (wget a Fld.viCreateA_CHANNELS)).foldl (fun (b : Bridge) j =>
      (b.clearChannel (wget res ⟨16, 13⟩ + j)).put (.fndChCtrl (wget res ⟨16, 13⟩ + j))
        (wmk [(Fld.fndChCtrl_HOME_DOME, wget a Fld.viCreateA_HOME_DOME), (Fld.fndChCtrl_HOP_LIMIT, 65535)])) b
    b.putReserve { v := v, entry := entry, res := createRes a d, ctrl := wmk [(Fld.viCtrl_WEDGE_MS, 100)], share := s.1,
                   buckets := [s.2, s.2], images := [], ckpts := [], logs := [], packets := [] }
  | .delta (.destroy v _) => { b with eng := { b.eng with reserve := b.eng.reserve.filter (fun r => r.v ≠ v) } }
  | .delta (.catEntry i ws) =>
    let b := upd (fun r => wget r.entry Fld.viEntry_GRANT_FIRST ≤ i &&
        i < wget r.entry Fld.viEntry_GRANT_FIRST + b.grantLen (wget r.entry Fld.viEntry_APERTURE))
      (fun r => { r with images := listPut (fun x => x.1 = i) (i, ws) r.images })
    if b.eng.reserve.any (fun r => r.images.any (fun x => x.1 = i)) then
      b.putEntry i (wput (wput (ws.getD 0 0) entEN 0) entGEN (b.ent i entGEN) :: ws.drop 1) else b
  | .delta (.regWrite off half w) =>
    match Reg.ofOffset 4 off with
    | some (.dspViShare v) => upd (fun r => r.v = v) (fun r => { r with share := mergeHalf r.share half w })
    | some (.dspViBucket v x) => upd (fun r => r.v = v) (fun r =>
        { r with buckets := r.buckets.set x (mergeHalf (r.buckets.getD x 0) half w) })
    | some (.viCtrl v) => upd (fun r => r.v = v) (fun r => { r with ctrl := mergeHalf r.ctrl half w })
    | some (.fndChCtrl c) => b.put (.fndChCtrl c) (mergeHalf (b.raw (.fndChCtrl c)) half w)
    | some (.logQGeom q) => b.put (.logQGeom q) (mergeHalf (b.raw (.logQGeom q)) half w)
    | _ => b
  | _ => b

/-- Apply pending changes up to a CONFIRM, in sequence order (R378). -/
def Bridge.applyConfirm (b : Bridge) (confirm : Nat) : Bridge :=
  let (now, later) := b.eng.pair.pendingIn.partition (fun x => x.1 ≤ confirm)
  let b := b.putPair { b.eng.pair with pendingIn := later, rxConfirm := confirm }
  now.foldl (fun (b : Bridge) x => b.applyReserve x.2) b

/-- Send an ACK (R381). -/
def Bridge.sendAck (b : Bridge) (seq code : Nat) : Bridge :=
  b.sendMirror (mirrorPacket 3 0 [wmk [(⟨0, 32⟩, seq), (⟨32, 8⟩, code)]])

/-- Ask the archive to write the mirror journal, at rank 2 (R16, R379). -/
def Bridge.journal (b : Bridge) (x : JournalItem) : Bridge :=
  let (id, b) := b.fresh
  let r : ArchReq := { id := id, rank := 2, t0 := b.tick, job := none, user := 2, arg := 0 }
  let b := { (b.needDom 81).needDom 82 with archReqs := b.archReqs ++ [r] }
  b.putPair { b.eng.pair with journal := b.eng.pair.journal ++ [(id, x)] }

/-- Mark journal records bad or good again (R435). -/
def Bridge.markBad (b : Bridge) (good : Bool) (l : List Nat) : Bridge :=
  let rest := b.eng.pair.badRecords.filter (fun n => !l.contains n)
  b.putPair { b.eng.pair with badRecords := if good then rest else rest ++ l }

/-- Store a checkpoint record in the journal (R379). -/
def Bridge.storeCkpt (b : Bridge) (l : List CkptChan) : Bridge :=
  let mine := fun (r : Reserve) => l.filter (fun (c : CkptChan) => c.vi = r.v)
  { b with eng := { b.eng with reserve := b.eng.reserve.map (fun r =>
      { r with ckpts := (mine r).foldl (fun acc c => listPut (fun x => x.channel = c.channel) c acc) r.ckpts }) } }

/-- Store mirrored logbook pointers in the journal. -/
def Bridge.storePtr (b : Bridge) (p : LogPtr) : Bridge :=
  { b with eng := { b.eng with reserve := b.eng.reserve.map (fun r =>
      let lq := wget r.res Fld.viRes_FIRST_LQ
      if lq ≤ p.queue && p.queue < lq + wget r.res Fld.viRes_QUEUES then
        { r with logs := listPut (fun x => x.queue = p.queue) p r.logs } else r) } }

/-- A journal write has been taken: the change is pending and acknowledged, the record is in force. A record that could not
be read back is marked bad (R378, R435). -/
def Bridge.journalled (b : Bridge) (id : Nat) (good : Bool) : Bridge :=
  match b.eng.pair.journal.find? (fun x => x.1 = id) with
  | none => b
  | some (_, x) =>
    let b := b.putPair { b.eng.pair with journal := b.eng.pair.journal.filter (fun y => y.1 ≠ id) }
    match x with
    | .change seq c =>
      (b.putPair { b.eng.pair with pendingIn := b.eng.pair.pendingIn ++ [(seq, c)] }).sendAck seq 0
    | .ckpt l => (b.storeCkpt l).markBad good (l.map (·.channel))
    | .ptr p => (b.storePtr p).markBad good [8192 + p.queue]

/-- The partner's check of a CREATE (R376): 0, or VF_BUSY, NO_RUN or POOL. The PAIR_ID 0 bridge's own unacknowledged CREATE
wins. -/
def Bridge.reserveCheck (b : Bridge) (k a d res : Word) : Nat :=
  let held := b.liveVis.map (fun v => (v, b.raw (.viEntry v), b.raw (.viRes v))) ++ b.eng.reserve.map (fun r => (r.v, r.entry, r.res))
  let own := if b.pairId = 0 then b.holders.drop held.length else []
  let e := createEntry k a res
  let r := createRes a d
  let ap := wget k Fld.viCmd_APERTURE
  let span := fun (w : Word) (f : Fld) (n : Nat) => (wget w f, wget w f + n)
  let clash := fun (h : Nat × Word × Word) =>
    h.1 = wget res ⟨0, 11⟩ ||
    rangesMeet (span h.2.1 Fld.viEntry_FIRST_CH (wget h.2.1 Fld.viEntry_CHANNELS)) (span e Fld.viEntry_FIRST_CH (wget e Fld.viEntry_CHANNELS)) ||
    rangesMeet (span h.2.1 Fld.viEntry_GRANT_FIRST (b.grantLen (wget h.2.1 Fld.viEntry_APERTURE))) (span e Fld.viEntry_GRANT_FIRST (b.grantLen ap)) ||
    rangesMeet (span h.2.2 Fld.viRes_FIRST_LQ (wget h.2.2 Fld.viRes_QUEUES)) (span r Fld.viRes_FIRST_LQ (wget r Fld.viRes_QUEUES))
  let sameVf := fun (h : Nat × Word × Word) =>
    wget h.2.1 Fld.viEntry_APERTURE = ap && wget h.2.1 Fld.viEntry_VF = wget k Fld.viCmd_VF
  if held.any sameVf then 3
  else if held.any clash || own.any (fun h => clash h || sameVf h) then 6
  else if (List.range 7).any (fun kd => b.get (.viPool ap kd) Fld.viPool_SIZE < b.poolUsed ap kd + b.holds ap kd e r) then 5
  else 0

/-! Making reserve instances live. -/

/-- Write a squashed completion record and advance SEQ (R387 step 4). The record and the vector follow the channel's active
set as this bridge holds it. -/
def Bridge.squashRecord (b : Bridge) (c v seq progress : Nat) : Bridge :=
  let b := b.set (.fndChStatus c) Fld.fndChStatus_SEQ seq
  let b := b.set (.fndChProgress c) Fld.fndChProgress_BYTES progress
  let words := (b.crecWords c v 3).set 2 0
  let side := b.raw (.fndActive c 6)
  let b := if b.act c 3 Fld.fndSetCtrl_CREC_EN = 0 then b else
    match b.sideOf v side 32 with
    | .inr m => b.missed m
    | .inl t => (b.sendCrec c v t words).1
  let b := if b.act c 3 Fld.fndSetCtrl_IRQ_EN = 1 then
    b.raiseVector (b.viAp v) (b.viVf v) (b.act c 3 Fld.fndSetCtrl_VECTOR) else b
  b.sets (.fndChStatus c) [(Fld.fndChStatus_STATE, 0), (Fld.fndChStatus_SHADOW, 0), (Fld.fndChStatus_SEQ, seq + 1)]

/-- Store a mirrored packet in the queue of an adopted instance (R261, R379): it overwrites as R247 says, and what lies before the
read position `pos` has been read. Positions count from the queue's empty start. Whether the packet was truncated no mirror packet
says (R381): the flag is free (log entry 104). -/
def Bridge.adoptPacket (b : Bridge) (q pos : Nat) (ws : List Word) : Bridge :=
  let read := min ws.length (pos - ((b.queue q).writePos + 1))
  let (b, ok) := b.makeRoom q (ws.length + 1) ((b.queue q).packets.length + 1)
  let (w, b) := b.draw
  if ok then (b.pushPacket q ⟨ws, read, wbit w 0⟩ (ws.length + 1)).putQueue q
      ((b.pushPacket q ⟨ws, read, wbit w 0⟩ (ws.length + 1)).queue q).prune
  else b.countLost q (bit (read < ws.length)) (ws.length - read)

/-- Set up a queue of an adopted instance by its MIRROR class (R261). A bad record says nothing of it. -/
def Bridge.adoptQueue (b : Bridge) (r : Reserve) (q : Nat) : Bridge :=
  let b := b.putQueue q Queue.empty
  let mirror := b.get (.logQGeom q) Fld.logQGeom_MIRROR
  match (if mirror = 0 || b.eng.pair.badRecords.contains (8192 + q) then none else r.logs.find? (fun p => p.queue = q)) with
  | some p =>
    let b := b.put (.logQLost q) (wmk [(Fld.logQLost_PACKETS, p.lostPackets), (Fld.logQLost_WORDS, p.lostWords)])
    if mirror = 2 then (r.packets.filter (fun x => x.1 = q)).foldl (fun (b : Bridge) x => b.adoptPacket q p.readPos x.2) b else b
  | none =>
    let b := b.put (.logQLost q) 0
    if mirror = 2 then (r.packets.filter (fun x => x.1 = q)).foldl (fun (b : Bridge) x => b.adoptPacket q 0 x.2) b else b

/-- Make a reserve instance live (R387 steps 3 to 5). A channel whose record is bad is squashed with PROGRESS 0 (R435). -/
def Bridge.makeLive (b : Bridge) (r : Reserve) : Bridge :=
  let v := r.v
  let b := { b with eng := { b.eng with reserve := b.eng.reserve.filter (fun x => x.v ≠ v) } }
  let b := (b.put (.viEntry v) (wput r.entry Fld.viEntry_STATE 1)).put (.viRes v) r.res
  let b := (b.put (.viCtrl v) r.ctrl).writeBar0 v
  let b := r.images.foldl (fun (b : Bridge) x => b.applyEntry x.1 x.2) b
  let b := b.loadShares v r.share (r.buckets.getD 0 0) (r.buckets.getD 1 0)
  let b := (b.viChanList v).foldl (fun (b : Bridge) c => b.clearChannel c) (b.clearMsix (b.viAp v) (b.viVf v))
  let b := r.ckpts.foldl (fun (b : Bridge) c =>
    if b.eng.pair.badRecords.contains c.channel then b.squashRecord c.channel v c.seq 0
    else if c.state = 0 then b.set (.fndChStatus c.channel) Fld.fndChStatus_SEQ c.seq
    else b.squashRecord c.channel v c.seq c.progress) b
  (b.viQueueList v).foldl (fun (b : Bridge) q => b.adoptQueue r q) b

/-! Adoption, isolation and yield. -/

/-- Whether R384 would adopt: link down and heartbeat lost; the PAIR_ID 0 bridge only after FENCE, the PAIR_ID 1 bridge only
when TCLK is not seen. -/
def Bridge.ifvDown (b : Bridge) : Bool := b.get (.ifvLinkStat 4) Fld.ifvLinkStat_STATE ≤ 1
def Bridge.bothLost (b : Bridge) : Bool := b.ifvDown && b.pst Fld.ifvPairStat_HB_ALIVE = 0

def Bridge.wouldAdopt (b : Bridge) : Bool :=
  b.paired && b.bothLost && (b.mode = 6 || b.mode = 8 || b.mode = 10) && b.pst Fld.ifvPairStat_YIELDED = 0 &&
  (b.pst Fld.ifvPairStat_FORMED = 1 || b.eng.reserve ≠ []) &&
  (if b.pairId = 0 then
      match b.eng.pair.fenceStart with | some t => t + b.get .ifvPairCtrl Fld.ifvPairCtrl_FENCE ≤ b.tick | none => false
    else b.pst Fld.ifvPairStat_TCLK_SEEN = 0)

/-- Take Transit arbitration (R316). -/
def Bridge.takeTransit (b : Bridge) : Bridge :=
  (b.sets .trnBusCfg [(Fld.trnBusCfg_ARBITER, 1), (Fld.trnBusCfg_SLOT1, 0)]).raise .trn 4

/-- Adoption (R387). Every step's effect comes with its start, the modes M7 and then M8 with it. -/
def Bridge.adopt (b : Bridge) : Bridge :=
  let b := ((b.setMode 7).raise .ifv 10).pairRecord none
  let b := if b.pairId = 1 then b.takeTransit else b
  let lost := b.eng.pair.pendingIn.length
  let b := b.putPair { b.eng.pair with pendingIn := [], journal := [] }
  let b := b.set .ifvMirrorStat Fld.ifvMirrorStat_UNCONFIRMED (min lost 65535)
  let rs := sortBy (·.v) b.eng.reserve
  let mine := b.homeRange
  let b := rs.foldl (fun (b : Bridge) r => b.makeLive r) b
  let b := b.putPair { b.eng.pair with
    adopted := b.eng.pair.adopted ++ (rs.map (·.v)).filter (fun v => v < mine.1 || mine.2 < v), fenceStart := none }
  let b := b.sets .ifvPairStat [(Fld.ifvPairStat_FORMED, 0), (Fld.ifvPairStat_LAST_CAUSE, 1)]
  ((((b.setMode 8).raise .ifv 11).life 26).pairRecord none)

/-- Isolation (R385), which a link that goes down during a resync brings too. In Service only RETURN changes (R402). -/
def Bridge.isolate (b : Bridge) : Bridge :=
  let b := if b.mode = 10 then b.set .pwrMode Fld.pwrMode_RETURN 8 else b.setMode 8
  let b := b.sets .ifvPairStat [(Fld.ifvPairStat_ISOLATED, 1), (Fld.ifvPairStat_LAST_CAUSE, 2), (Fld.ifvPairStat_RESYNCING, 0)]
  (b.raise .ifv 7).pairRecord none

/-- Yield (R386): every instance is reset with trigger 6 and returns to reserve as its reset ends. -/
def Bridge.yield_ (b : Bridge) : Bridge :=
  let b := if b.mode = 10 then b.set .pwrMode Fld.pwrMode_RETURN 8 else b.setMode 8
  let b := b.liveVis.foldl (fun (b : Bridge) v => b.startReset v 6 none) b
  let b := b.sets .ifvPairStat [(Fld.ifvPairStat_YIELDED, 1), (Fld.ifvPairStat_LAST_CAUSE, 3)]
  (b.raise .ifv 12).pairRecord none

/-- Adopt, or raise ADOPT_READY when a command is awaited (R387). -/
def Bridge.adoptOrReady (b : Bridge) : Bridge :=
  if b.get .ifvPairCtrl Fld.ifvPairCtrl_AUTO_ADOPT = 1 then b.adopt else b.raise .ifv 9

/-- The decisions of R384, after an event that may change its conditions. A link that comes up while the heartbeat is lost raises
HB_LOST as the loss does on a link that is up. -/
def Bridge.pairDecide (b : Bridge) : Bridge :=
  if !b.paired || b.mode < 5 || b.mode = 9 || b.mode = 11 then b else
  let mute := b.bothLost
  let b := if b.pst Fld.ifvPairStat_MUTED = 1 && !b.ifvDown && b.pst Fld.ifvPairStat_HB_ALIVE = 0 then b.raise .ifv 8 else b
  let b := b.set .ifvPairStat Fld.ifvPairStat_MUTED (bit mute)
  let b := b.putPair { b.eng.pair with
    fenceStart := if mute then some (b.eng.pair.fenceStart.getD b.tick) else none }
  if !b.ifvDown then b
  else
    let b := if b.mirrors || b.pst Fld.ifvPairStat_RESYNCING = 1 then b.isolate else b
    if !mute then b
    else if b.pairId = 1 && b.pst Fld.ifvPairStat_TCLK_SEEN = 1 then
      (if b.pst Fld.ifvPairStat_YIELDED = 1 then b else b.yield_)
    else if b.wouldAdopt then b.adoptOrReady else b

/-! Forming the pair. -/

/-- The stream of a resync: what each live instance is (R374), then RESYNC_END. -/
def Bridge.sendResync (b : Bridge) : Bridge :=
  let recs := b.liveVis.flatMap (fun v =>
    [b.createRec v] ++
    ((b.entriesOf v).filter (fun i => (b.entry i).any (· ≠ 0) && i ≠ b.viGrant v)).map (fun i => DeltaRec.catEntry i (b.entry i)) ++
    [DeltaRec.regWrite (Reg.dspViShare v).offset 3 (b.raw (.dspViShare v)),
     DeltaRec.regWrite (Reg.dspViBucket v 0).offset 3 (b.raw (.dspViBucket v 0)),
     DeltaRec.regWrite (Reg.dspViBucket v 1).offset 3 (b.raw (.dspViBucket v 1)),
     DeltaRec.regWrite (Reg.viCtrl v).offset 3 (b.raw (.viCtrl v))] ++
    (b.viQueueList v).map (fun q => DeltaRec.regWrite (Reg.logQGeom q).offset 3 (b.raw (.logQGeom q))))
  let b := recs.foldl (fun (b : Bridge) r =>
    let seq := (b.eng.pair.txSeq + 1) % 2 ^ 32
    (b.putPair { b.eng.pair with txSeq := seq }).sendMirror (mirrorPacket 2 seq (deltaImage seq true r))) b
  let seq := (b.eng.pair.txSeq + 1) % 2 ^ 32
  let p := { b.eng.pair with
    txSeq := seq, resyncSent := false, resyncGot := false, ckptSent := [], ptrSent := []
    outgoing := b.eng.pair.outgoing.filter (fun x => x.change ≠ .delta .mark) ++ [(⟨seq, b.tick, .delta .mark, none⟩ : OutChange)] }
  (b.putPair p).sendMirror (mirrorPacket 7 seq [])

/-- The bridges enter Paired when both RESYNC_ENDs have been acknowledged (R374); in Service only RETURN changes (R402, log entry
131). -/
def Bridge.resyncDone (b : Bridge) : Bridge :=
  if b.eng.pair.resyncSent && b.eng.pair.resyncGot && b.pst Fld.ifvPairStat_RESYNCING = 1 then
    let b := b.sets .ifvPairStat [(Fld.ifvPairStat_RESYNCING, 0), (Fld.ifvPairStat_ISOLATED, 0)]
    let b := if b.mode = 8 then b.setMode 6
      else if b.mode = 10 && b.get .pwrMode Fld.pwrMode_RETURN = 8 then b.set .pwrMode Fld.pwrMode_RETURN 6 else b
    (b.raise .ifv 14).sendChanges 64
  else b

/-- A HELLO is received (R373, R389). One that shows that the partner holds none of this bridge's instances ends a yield (R386). -/
def Bridge.hello (b : Bridge) (h : Hello) : Bridge :=
  if !b.paired then b else
  let home := b.homeRange
  let fits := h.part = b.part.code && h.pairId ≠ decide (b.pairId = 1) && (h.homeLast < home.1 || home.2 < h.homeFirst)
  if !fits then
    ((b.sets .ifvPairStat [(Fld.ifvPairStat_FORMED, 0), (Fld.ifvPairStat_LAST_CAUSE, 4)]).raise .ifv 7).pairRecord none
  else
    let b := if h.holdsPartner then b else
      (b.eng.reserve.filter (fun r => home.1 ≤ r.v && r.v ≤ home.2)).foldl (fun (b : Bridge) r => b.makeLive r)
        (b.set .ifvPairStat Fld.ifvPairStat_YIELDED 0)
    let b := (b.sets .ifvPairStat [(Fld.ifvPairStat_FORMED, 1), (Fld.ifvPairStat_RESYNCING, 1)]).raise .ifv 6
    b.sendResync

/-- A CHANGE is received (R374, R376, R378, R389): part of a resync is applied to the reserve; a CREATE of a home instance
that this bridge holds in reserve is a handback, which ends a yield (R386); anything else is checked, journalled and then acknowledged. -/
def Bridge.change (b : Bridge) (seq : Nat) (c : MirrorChange) : Bridge :=
  if !b.paired then b
  else if b.pst Fld.ifvPairStat_RESYNCING = 1 && !b.eng.pair.resyncGot then b.applyReserve c
  else match c with
    | .delta (.create k a d res) =>
      let home := b.homeRange
      let v := wget res ⟨0, 11⟩
      match b.eng.reserve.find? (fun r => r.v = v && home.1 ≤ v && v ≤ home.2) with
      | some r =>
        let b := ((b.makeLive r).sendAck seq 0).set .ifvPairStat Fld.ifvPairStat_YIELDED 0
        if b.eng.reserve.any (fun x => home.1 ≤ x.v && x.v ≤ home.2) then b else b.raise .ifv 15
      | none =>
        let code := b.reserveCheck k a d res
        if code = 0 then b.journal (.change seq c) else b.sendAck seq code
    | _ => b.journal (.change seq c)

/-- A mirrored packet of a FULL queue arrives (R261, R379): it joins the reserve queue. -/
def Bridge.logpkt (b : Bridge) (q : Nat) (ws : List Word) : Bridge :=
  { b with eng := { b.eng with reserve := b.eng.reserve.map (fun r =>
      let lq := wget r.res Fld.viRes_FIRST_LQ
      if lq ≤ q && q < lq + wget r.res Fld.viRes_QUEUES then { r with packets := r.packets ++ [(q, ws)] } else r) } }

/-- RETRACT: pending changes from a sequence on are discarded (R378). -/
def Bridge.retract (b : Bridge) (seq : Nat) : Bridge :=
  b.putPair { b.eng.pair with
    pendingIn := b.eng.pair.pendingIn.filter (fun x => x.1 < seq)
    journal := b.eng.pair.journal.filter (fun x => match x.2 with | .change s _ => s < seq | _ => true) }

/-- What a checkpoint says of channel `c` of instance `v` (R377). -/
def Bridge.ckptOf (b : Bridge) (v c : Nat) : CkptChan :=
  ⟨c, v, b.chState c, b.get (.fndChStatus c) Fld.fndChStatus_SEQ, b.get (.fndChProgress c) Fld.fndChProgress_BYTES⟩

/-- Channels that one CKPT packet takes: its length field has 12 bits (R381). -/
def ckptMax : Nat := 2046

/-- CKPT packets for channels, at least one. -/
def Bridge.sendCkpts (b : Bridge) (l : List CkptChan) : Nat → Bridge
  | 0 => b
  | fuel + 1 =>
    let b := b.sendMirror (mirrorPacket 4 0 (BitVec.ofNat 64 b.eng.pair.lastApplied :: (l.take ckptMax).flatMap ckptWords))
    if l.drop ckptMax = [] then b else Bridge.sendCkpts b (l.drop ckptMax) fuel

/-- The checkpoint batch (R377, R378, R381): CONFIRM, the channels of live instances and the pointers of POINTERS queues that changed
since the last one. Nothing is sent where nothing changed. -/
def Bridge.sendCheckpoint (b : Bridge) : Bridge :=
  let all := b.liveVis.flatMap (fun v => (b.viChanList v).map (b.ckptOf v))
  let fresh : CkptChan → Bool := fun c => match b.eng.pair.ckptSent.find? (fun x => x.channel = c.channel) with
    | some x => x ≠ c
    | none => c ≠ ⟨c.channel, c.vi, 0, 0, 0⟩
  let cs := all.filter fresh
  let ptrs := ((b.liveVis.flatMap (fun v => b.viQueueList v)).filter (fun q => b.get (.logQGeom q) Fld.logQGeom_MIRROR = 1)).map b.logPtr
  let ps := ptrs.filter (fun p => !b.eng.pair.ptrSent.contains p)
  if cs = [] && ps = [] && b.eng.pair.confirmSent = b.eng.pair.lastApplied then b else
  let sent := b.eng.pair.ckptSent.filter (fun x => !cs.any (fun c => c.channel = x.channel)) ++ cs
  let b := b.sendCkpts cs (cs.length + 1)
  let b := ps.foldl (fun (b : Bridge) p => b.sendMirror (mirrorPacket 6 0 (logPtrWords p))) b
  b.putPair { b.eng.pair with ckptSent := sent, ptrSent := ptrs, confirmSent := b.eng.pair.lastApplied }

/-- HANDBACK (R389): each adopted instance is reset with trigger 6, its transfers ended by squashed records. -/
def Bridge.handback (b : Bridge) : Bridge :=
  let l := b.eng.pair.adopted.filter (fun v => b.viLive v)
  let b := b.putPair { b.eng.pair with handing := decide (l ≠ []) }
  l.foldl (fun (b : Bridge) v =>
    let b := ((b.viChanList v).filter (fun c => b.chState c ≠ 0)).foldl (fun (b : Bridge) c =>
      b.squashRecord c v (b.get (.fndChStatus c) Fld.fndChStatus_SEQ) (b.get (.fndChProgress c) Fld.fndChProgress_BYTES)) b
    b.startReset v 6 none) b

end Sys2Proof.Machine
end

