-- ==== Sys2Proof/Machine/Links.lean ====
section
/-!
DEFINITION. The reliable link layer (R344 to R366): acknowledgement, replay, credits, training, retrain and link down.
-/
namespace Sys2Proof.Machine

open Sys2Proof

/-! Lanes of a link. -/

/-- The lane map record of link `k` in the almanac in force. -/
def Bridge.linkRec (b : Bridge) (k : Nat) : Option (List Byte) :=
  match b.alm.inForce with
  | some g => if k = 4 then g.lane 2 0 else g.lane 1 k
  | none => none

/-- The LNE_ number of lane `n` of link `k` (R324, R325). -/
def Bridge.linkLane (b : Bridge) (k n : Nat) : Nat :=
  match b.linkRec k with
  | some r => (if k = 4 then 64 else 32) + un r 1 1 + (if un r 5 1 % 2 = 1 then un r 2 1 - 1 - n else n)
  | none => 72

/-- Width that the lane map gives a link. -/
def Bridge.linkWidth (b : Bridge) (k : Nat) : Nat := match b.linkRec k with | some r => un r 2 1 | none => 0

/-- Links that the almanac provides: enabled Meridian ports, and Ifevin under pair enable (R267, R344, R403). -/
def Bridge.linkExists (b : Bridge) (k : Nat) : Bool :=
  if k = 4 then b.part.ifvLanes ≠ 0 && b.paired && b.linkWidth 4 ≠ 0 else b.merEnabled k

/-- Identity of this end (R344). -/
def Bridge.identLocal (b : Bridge) (k : Nat) : Nat := if k = 4 then b.pairId else b.get (.merPortGeom k) Fld.merPortGeom_RANK

def Bridge.linkState (b : Bridge) (k : Nat) : Nat := b.get (.ifvLinkStat k) Fld.ifvLinkStat_STATE
def Bridge.lset (b : Bridge) (k : Nat) (l : List (Fld × Nat)) : Bridge := b.sets (.ifvLinkStat k) l
def Bridge.replayTicks (b : Bridge) (k : Nat) : Nat := b.get (.ifvLinkTmo k) Fld.ifvLinkTmo_REPLAY_TICKS
def Bridge.creditTicks (b : Bridge) (k : Nat) : Nat := b.get (.ifvLinkTmo k) Fld.ifvLinkTmo_CREDIT_TICKS

/-- The widest that a link may run at this end (R360). -/
def Bridge.widthCap (b : Bridge) (k : Nat) : Nat := min (b.linkWidth k) (b.get (.ifvLinkCtrl k) Fld.ifvLinkCtrl_WIDTH_CAP)

/-- Send a CONTROL flit (R349): a RETRAIN_REQ asks for the widest width. -/
def Bridge.control (b : Bridge) (k op : Nat) (lanes : BitVec 16) : Bridge :=
  b.putFlit k 2 0 31 [controlWord op (b.identLocal k) (if op = 2 then b.widthCap k else 0) lanes]

/-- Credits that the bridge grants at link-up (R272): posted header and data, non-posted header and data. -/
def Bridge.grants (b : Bridge) (k : Nat) : List Nat :=
  if k = 4 then [0, 0, 0, 0] else
  let n := if b.get (.merPortGeom k) Fld.merPortGeom_WIDTH = 16 then 2 else 1
  let s := b.get (.merPortGeom k) Fld.merPortGeom_CREDIT_SPLIT
  [512 * n * s / 8, 1024 * n * s / 8, 512 * n - 512 * n * s / 8, 1024 * n - 1024 * n * s / 8]

/-- READY of a Meridian port: the least credits are advertised; each change raises PORT_READY (R272). -/
def Bridge.portReady (b : Bridge) (k : Nat) (ready : Bool) : Bridge :=
  if 4 ≤ k || b.merReady k = ready then b
  else (b.set (.merPortStat k) Fld.merPortStat_READY (bit ready)).raise .mer 0

/-- Bring READY up when the agent has advertised the least credits, what its port has already spent of them included (R272). -/
def Bridge.checkReady (b : Bridge) (k : Nat) : Bridge :=
  let told := fun (n : Nat) => (b.link k).farGranted.getD n 0
  if k < 4 && b.linkUp k && 4 ≤ told 0 && 4 ≤ told 1 && 2 ≤ told 2 && 1 ≤ told 3 then b.portReady k true else b

/-- The bridge's own CAPS (R279). -/
def Bridge.capsPacket (b : Bridge) (k : Nat) : Packet :=
  { type := 5, tag := 0, len := 7, op := 1, data := wbytes (wmk [(⟨0, 1⟩, 1), (⟨1, 1⟩, 1),
    (⟨2, 3⟩, b.get (.merPortGeom k) Fld.merPortGeom_GRANULE_LOG2 - 7), (⟨8, 8⟩, 1)]) }

/-- Send what waits at a link: its CAPS first, then, once the port is READY, completions (R272, R279, R354). -/
def Bridge.linkFlush (b : Bridge) (k : Nat) : Bridge :=
  let p := b.capsPacket k
  let b := if (b.link k).capsDue && b.linkTakes k p then (b.putLink { b.link k with capsDue := false }).putPacket k p else b
  if b.portSends k then b.sendOwed k (b.link k).owed.length else b

/-! Link down. -/

/-- The Meridian answer to a link down (R289): outstanding requests fail and their tags are quarantined, completions owed
are dropped, READY ends. -/
def Bridge.merLinkDown (b : Bridge) (k : Nat) : Bridge :=
  let t := b.ladder 4
  let mine := fun (e : MerTag) => e.port = k && !e.quarantined
  let failed := (b.eng.merTags.filter mine).map (·.job)
  let b := { b with
    ups := b.ups.filter (fun u => match u.sender with | .mer p .. => p ≠ k | _ => true)
    barriers := b.barriers.filter (fun x => !(x.form = 3 && x.ap = k))
    eng := { b.eng with merTags := b.eng.merTags.map (fun e =>
      if mine e then { e with quarantined := true, until_ := b.tick + t, resendAt := none } else e) } }
  let b := b.putMerPort { b.merPort k with rx := [], caps := none }
  let b := b.sets (.merPortStat k) [(Fld.merPortStat_CAPS_SEEN, 0), (Fld.merPortStat_NATIVE_ATOMIC, 0),
    (Fld.merPortStat_RESERVATIONS, 0)]
  failed.foldl (fun (b : Bridge) j => b.finish j (.err .merTimeout)) (b.portReady k false)

/-- Mark the lanes of a link in LNE_LANE_STAT. -/
def Bridge.markLanes (b : Bridge) (k : Nat) (lanes : BitVec 16) (rate : Nat) : Bridge :=
  (List.range (b.linkWidth k)).foldl (fun (b : Bridge) n =>
    (b.laneOn (b.linkLane k n) (lanes.getLsbD n)).set (.lneLaneStat (b.linkLane k n)) Fld.lneLaneStat_RATE rate) b

/-- A link goes down (R366): while flits flow it says so. `quiet` is the DOWN of Dimmed entry (R397), which is not counted or reported. -/
def Bridge.linkDown (b : Bridge) (k cause : Nat) (quiet : Bool := false) : Bridge :=
  if b.linkState k = 0 then b else
  let l := b.link k
  let b := if b.linkUp k && [1, 2, 3, 4, 5, 7, 8].contains cause then b.control k 4 0 else b
  let b := b.putLink { l with
    buf := [], downAt := b.tick, nak := false, nakSeen := none, partialWords := [], reqSent := none, ackAt := none,
    creditWait := [], pauseLanes := 0, capsDue := false, owed := [] }
  let b := (b.lset k [(Fld.ifvLinkStat_STATE, 0), (Fld.ifvLinkStat_DOWN_CAUSE, cause), (Fld.ifvLinkStat_LANES, 0),
    (Fld.ifvLinkStat_WIDTH, 0)]).markLanes k 0 0
  let b := if quiet then b else
    let b := ((b.bump (.ifvLinkCnt k) Fld.ifvLinkCnt_DOWNS).life (20 + k)).raise .ifv 1
    b.record 0x0F .ifv none none (wmk [(⟨0, 3⟩, k), (⟨4, 4⟩, cause)]) (b.raw (.ifvLinkCnt k))
  if k < 4 then b.merLinkDown k else (b.putPair { b.eng.pair with tx := [] }).pairDecide

/-! Replay. -/

/-- Send again every unacknowledged flit from sequence `seq` on (R356). Further NAKs naming `seq` are ignored for one replay-timer
period from here (R353); the replay timer runs on (R355, R364). A counted replay joins the error-rate window, whose 32nd takes the
link down (R364, R365). -/
def Bridge.replay (b : Bridge) (k seq : Nat) (counted : Bool) : Bridge :=
  let l := b.link k
  let fs := l.buf.dropWhile (fun f => f.seq ≠ seq)
  if fs = [] then b else
  let b := fs.foldl (fun (b : Bridge) f => b.putFlit k 0 f.seq f.first f.words) b
  let b := b.bump (.ifvLinkCnt k) Fld.ifvLinkCnt_REPLAYS
  let b := b.putLink { b.link k with nakSeen := some (seq, b.tick) }
  if !counted then b else
  let start := l.windowStart + (b.tick - l.windowStart) / 50000 * 50000
  let n := (if start = l.windowStart then b.get (.ifvLinkStat k) Fld.ifvLinkStat_WINDOW_REPLAYS else 0) + 1
  let b := (b.putLink { b.link k with windowStart := start }).lset k [(Fld.ifvLinkStat_WINDOW_REPLAYS, n)]
  if 32 ≤ n then b.linkDown k 1 else b

/-- Apply an ACK: every held flit up to it is acknowledged; the replay timer restarts (R352, R355). -/
def Bridge.takeAck (b : Bridge) (k ack : Nat) : Bridge :=
  let l := b.link k
  if l.buf.any (fun f => f.seq = ack) then
    b.putLink { l with buf := (l.buf.dropWhile (fun f => f.seq ≠ ack)).drop 1, replayFrom := b.tick }
  else b

/-- Apply a NAK (R353): replay from ACK + 1, unless a replay from the same flit began within one replay-timer period. -/
def Bridge.takeNak (b : Bridge) (k ack : Nat) : Bridge :=
  let seq := (ack + 1) % 4096
  let l := b.link k
  let again := match l.nakSeen with | some (s, t) => s = seq && b.tick < t + b.replayTicks k | none => false
  if again || !l.buf.any (fun f => f.seq = seq) then b
  else b.replay k seq true

/-- Apply a credit counter (R357, R358). -/
def Bridge.takeCredit (b : Bridge) (k csel cval : Nat) : Bridge :=
  let l := b.link k
  let moved := l.farGranted.getD csel 0 ≠ cval
  let b := b.putLink { l with
    farGranted := l.farGranted.set csel cval
    creditWait := if moved then l.creditWait.filter (fun p => p.1 ≠ csel) else l.creditWait }
  b.checkReady k

/-- What every good flit carries (R346, R352, R353, R357). -/
def Bridge.goodFlit (b : Bridge) (k : Nat) (h : FlitHdr) (corrected : Bool) : Bridge :=
  let b := if corrected then b.bump (.ifvLinkCnt k) Fld.ifvLinkCnt_FEC_CORRECTED else b
  let b := ((b.takeAck k h.ack).takeCredit k h.csel h.cval).linkFlush k
  if h.nak then b.takeNak k h.ack else b

/-! Packets in flits. -/

/-- Operand bytes of an ATOMIC's payload (R278). -/
def atomicPayload (op : Nat) : Nat := [0, 4, 8, 4, 8, 8, 16, 32].getD op 0

/-- Words of the packet that a header word begins (R268, R269, R381). -/
def packetLen (k : Nat) (w : Word) : Nat :=
  if k = 4 then max 1 (wget w ⟨4, 12⟩) else
  let len := wget w ⟨16, 8⟩ + 1
  let bytes := match wget w ⟨0, 4⟩ with | 1 | 3 | 9 => len | 4 => atomicPayload (wget w ⟨43, 5⟩) | 5 => 8 | _ => 0
  2 + wget w ⟨28, 1⟩ + (bytes + 7) / 8

/-- The packet that words spell (R268). -/
def packetOf (ws : List Word) : Packet :=
  let w := ws.getD 0 0
  let pe := wget w ⟨28, 1⟩
  let len := wget w ⟨16, 8⟩
  let n := match wget w ⟨0, 4⟩ with | 1 | 3 | 9 => len + 1 | 4 => atomicPayload (wget w ⟨43, 5⟩) | 5 => 8 | _ => 0
  { type := wget w ⟨0, 4⟩, tag := wget w ⟨4, 12⟩, len := len, cls := wbit w 24, mark := wget w ⟨25, 2⟩, poison := wbit w 27,
    pasid := if pe = 1 then some (wget (ws.getD 2 0) ⟨0, 20⟩) else none, vi := wget w ⟨29, 11⟩, resp := wget w ⟨40, 3⟩,
    op := wget w ⟨43, 5⟩, dir := wbit w 48, addr := wget (ws.getD 1 0) ⟨0, 52⟩,
    data := (bytesOfWords (ws.drop (2 + pe))).take n,
    rsvd := wget w ⟨49, 15⟩ ≠ 0 || wget (ws.getD 1 0) ⟨52, 12⟩ ≠ 0 || (pe = 1 && wget (ws.getD 2 0) ⟨20, 44⟩ ≠ 0) ||
      ((bytesOfWords (ws.drop (2 + pe))).drop n).any (· ≠ 0) }

/-- Cut words at packet boundaries, up to pad words: whole packets, and the words of one that goes on in the next flit. -/
def cutPackets (k : Nat) : Nat → List Word → List (List Word) × List Word
  | 0, ws => ([], ws)
  | fuel + 1, ws =>
    match ws with
    | [] => ([], [])
    | w :: _ =>
      if w = BitVec.allOnes 64 then ([], [])
      else if ws.length < packetLen k w then ([], ws)
      else let (ps, rest) := cutPackets k fuel (ws.drop (packetLen k w)); (ws.take (packetLen k w) :: ps, rest)

/-- Hand whole packets to the transaction layer: a Meridian port's receive list; the mirror engine, whose rows bring them
(R381). A mirror packet of an unknown kind is a protocol error. -/
def Bridge.deliver (b : Bridge) (k : Nat) (ps : List (List Word)) : Bridge :=
  if k < 4 then
    if ps = [] then b else b.putMerPort { b.merPort k with rx := (b.merPort k).rx ++ ps.map packetOf }
  else if ps.any (fun ws => !(1 ≤ wget (ws.getD 0 0) ⟨0, 4⟩ && wget (ws.getD 0 0) ⟨0, 4⟩ ≤ 8)) then b.linkDown 4 5
  else b

/-- Pass the packet words of an accepted flit on (R348). FIRST before the end of the packet in progress is a protocol error
(R366). -/
def Bridge.acceptWords (b : Bridge) (k first : Nat) (ws : List Word) : Bridge :=
  let l := b.link k
  let rest := match l.partialWords with | [] => 0 | w :: _ => packetLen k w - l.partialWords.length
  if (first < 30 && first < min rest 30) || first = 30 || (first = 31 && rest = 0 && ws.any (· ≠ BitVec.allOnes 64)) then
    b.linkDown k 5
  else
    let (ps, more) := cutPackets k 40 (l.partialWords ++ ws.take 30)
    (b.putLink { l with partialWords := more }).deliver k ps

/-- A good PAYLOAD flit (R351): accepted, or discarded as after a loss or as a duplicate. -/
def Bridge.payload (b : Bridge) (k : Nat) (h : FlitHdr) (ws : List Word) (corrected : Bool) : Bridge :=
  if b.linkState k ≠ 2 then b
  else if h.first = 30 then b.linkDown k 5
  else
    let b := b.goodFlit k h corrected
    if b.linkState k ≠ 2 then b else
    let l := b.link k
    let d := (h.seq + 4096 - l.expected) % 4096
    if d = 0 then
      let b := b.putLink { l with expected := (l.expected + 1) % 4096, nak := false, firstSeen := true }
      let b := if l.firstSeen then b else b.raise .ifv 0
      b.acceptWords k h.first ws
    else
      let b := b.bump (.ifvLinkCnt k) Fld.ifvLinkCnt_BAD_FLITS
      if d ≤ 2047 then b.putLink { b.link k with nak := true } else b

/-- An IDLE flit (R349). -/
def Bridge.idleFlit (b : Bridge) (k : Nat) (h : FlitHdr) (corrected : Bool) : Bridge :=
  if b.linkState k ≠ 2 then b else if h.first = 30 then b.linkDown k 5 else b.goodFlit k h corrected

/-- An uncorrectable flit or one with a bad CRC (R347, R353). -/
def Bridge.badFlit (b : Bridge) (k : Nat) : Bridge :=
  if b.linkState k ≠ 2 then b
  else (b.bump (.ifvLinkCnt k) Fld.ifvLinkCnt_BAD_FLITS).putLink { b.link k with nak := true }

/-! Training, pause and retrain. -/

/-- The training symbols of a phase on the lanes of a link (R359): in a pause, HOLD on the lanes that need no lock (R361). -/
def Bridge.trainSymbols (b : Bridge) (k n : Nat) : List Word :=
  (List.range (b.linkWidth k)).map (fun i =>
    trainingSymbol i (if b.linkState k = 3 && n < 3 && !(b.link k).pauseLanes.getLsbD i then 4 else n) (b.identLocal k)
      (b.get (.ifvLinkStat k) Fld.ifvLinkStat_RATE) (b.link k).usable
      (if n = 3 then b.get (.ifvLinkStat k) Fld.ifvLinkStat_WIDTH else b.widthCap k))

/-- Training symbols of a phase go out (R359). -/
def Bridge.phase (b : Bridge) (k n : Nat) : Bridge :=
  (b.putLink { b.link k with phase := n, phaseStart := b.tick }).emit (.training k (b.trainSymbols k n))

/-- A link begins to train from DOWN (R359). Its lane quads and controller open (R403). -/
def Bridge.startTraining (b : Bridge) (k : Nat) : Bridge :=
  if b.linkState k ≠ 0 || !b.linkExists k then b else
  let b := if k = 4 then (b.openDom 58).openDom 59 else b.openDom (54 + k)
  let b := (List.range (b.linkWidth k)).foldl (fun (b : Bridge) n =>
    let i := b.linkLane k n
    (b.openDom (if 64 ≤ i then 48 + (i - 64) / 4 else 40 + (i - 32) / 4)).set (.lneLaneStat i) Fld.lneLaneStat_FAILED 0) b
  let rate := match b.linkRec k with | some r => un r 4 1 | none => 1
  let b := b.putLink { b.link k with upAsked := false }
  (b.lset k [(Fld.ifvLinkStat_STATE, 1), (Fld.ifvLinkStat_RATE, rate), (Fld.ifvLinkStat_IDENT_LOCAL, b.identLocal k)]).phase k 0

/-- Stop the replay and credit timers for a pause or retrain (R364). -/
def Bridge.freeze (b : Bridge) (k : Nat) : Bridge := b.putLink { b.link k with frozen := b.tick }

/-- A pause begins (R361). A pause request during a retrain is absorbed (R362). -/
def Bridge.startPause (b : Bridge) (k : Nat) (lanes : BitVec 16) : Bridge :=
  if b.linkState k = 2 then
    (((b.freeze k).putLink { (b.freeze k).link k with pauseLanes := lanes }).lset k [(Fld.ifvLinkStat_STATE, 3)]).phase k 0
  else if b.linkState k = 3 then b.putLink { b.link k with pauseLanes := (b.link k).pauseLanes ||| lanes }
  else b

/-- Ask for a retrain (R362): RETRAIN_REQ goes out with the width asked. -/
def Bridge.requestRetrain (b : Bridge) (k : Nat) : Bridge :=
  if b.linkState k = 2 || b.linkState k = 3 then
    (b.putLink { b.link k with reqSent := some b.tick }).control k 2 (b.link k).usable
  else b

/-- Both ends run training from LOCK (R362). -/
def Bridge.startRetrain (b : Bridge) (k : Nat) : Bridge :=
  let b := if b.linkState k = 3 then b else b.freeze k
  let b := b.putLink { b.link k with reqSent := none, ackAt := some b.tick, pauseLanes := 0 }
  let b := (List.range (b.linkWidth k)).foldl (fun (b : Bridge) n => b.set (.lneLaneStat (b.linkLane k n)) Fld.lneLaneStat_FAILED 0) b
  ((b.lset k [(Fld.ifvLinkStat_STATE, 4)]).raise .ifv 2).phase k 0

/-- A RETRAIN_REQ is received (R362, R363): answered, unless this end's own request has precedence. -/
def Bridge.retrainReq (b : Bridge) (k : Nat) (c : CtlWord) : Bridge :=
  if b.linkState k ≠ 2 && b.linkState k ≠ 3 then b
  else if !([1, 2, 4, 8, 16].contains c.width) then b.linkDown k 5
  else
    let mine := b.identLocal k
    let ours := (b.link k).reqSent.isSome && (mine < c.ident || (mine = c.ident && k < 4))
    if ours then b else ((b.putLink { b.link k with asked := c.width }).control k 3 0).startRetrain k

/-- The widest usable width and its first lane (R360): an aligned group of usable lanes. -/
def chooseWidth (cap : Nat) (usable : BitVec 16) : Option (Nat × Nat) :=
  ([16, 8, 4, 2, 1].filter (· ≤ cap)).findSome? (fun w =>
    ((List.range (16 / w)).find? (fun g => (List.range w).all (fun n => usable.getLsbD (g * w + n)))).map (fun g => (w, g * w)))

/-- The lanes of a group. -/
def laneGroup (w first : Nat) : BitVec 16 := BitVec.ofNat 16 ((2 ^ w - 1) * 2 ^ first)

/-- Lanes of a link whose reference input is absent (R326, R328): they do not train. -/
def Bridge.unclocked (b : Bridge) (k : Nat) : BitVec 16 :=
  BitVec.ofNat 16 ((List.range (b.linkWidth k)).foldl (fun (m : Nat) n =>
    if b.eng.absentRefs.contains (b.linkLane k n / 8) then m + 2 ^ n else m) 0)

/-- Choose the width (R360), at most what the far end runs or has asked for (R349, R359): down with NO_WIDTH when no lane is usable; a
change raises WIDTH_CHANGE. -/
def Bridge.setWidth (b : Bridge) (k : Nat) (usable : BitVec 16) (far : Nat) : Bridge :=
  let usable := usable &&& ~~~ b.unclocked k
  let cap := min (b.widthCap k) (min far (b.link k).asked)
  let mask := laneGroup (b.linkWidth k) 0
  match chooseWidth cap (usable &&& mask) with
  | none => b.linkDown k 4
  | some (w, first) =>
    let old := b.get (.ifvLinkStat k) Fld.ifvLinkStat_WIDTH
    let b := b.putLink { b.link k with usable := usable, asked := 16 }
    let b := b.lset k [(Fld.ifvLinkStat_WIDTH, w), (Fld.ifvLinkStat_LANES, (laneGroup w first).toNat)]
    let b := b.markLanes k (laneGroup w first) (b.get (.ifvLinkStat k) Fld.ifvLinkStat_RATE)
    if old ≠ 0 && old ≠ w then b.raise .ifv 3 else b

/-- A HELLO of this bridge (R373, R381). -/
def Bridge.sendHello (b : Bridge) : Bridge :=
  b.sendMirror (mirrorPacket 1 0 [wmk [(⟨0, 16⟩, b.part.code), (⟨16, 1⟩, b.pairId), (⟨32, 11⟩, b.homeRange.1), (⟨48, 11⟩, b.homeRange.2)]])

/-- Flits flow: the scramblers are seeded (R345; log entry 117); a link that comes UP from training starts afresh, one that resumes
replays what it holds (R350, R357, R364). -/
def Bridge.linkGo (b : Bridge) (k : Nat) : Bridge :=
  let s := b.linkState k
  let l := { b.link k with symbols := 0, scrambled := 0 }
  let b := b.lset k [(Fld.ifvLinkStat_STATE, 2)]
  if s = 1 then
    let b := (b.putLink { l with
      buf := [], expected := 0, txNext := 0, nak := false, nakSeen := none, granted := b.grants k, consumed := [0, 0, 0, 0],
      farGranted := [0, 0, 0, 0], replayFrom := b.tick, windowStart := b.tick, firstSeen := false, partialWords := [],
      creditWait := [], reqSent := none, ackAt := none, pauseLanes := 0, capsDue := decide (k < 4), owed := [], csel := 0 }).lset k [(Fld.ifvLinkStat_WINDOW_REPLAYS, 0)]
    let b := (List.range (b.linkWidth k)).foldl (fun (b : Bridge) n => b.set (.lneLaneStat (b.linkLane k n)) Fld.lneLaneStat_LOL 0) b
    if k < 4 then b.linkFlush k else b.sendHello.pairDecide
  else
    let held := b.tick - l.frozen
    let b := b.putLink { l with
      replayFrom := l.replayFrom + held, creditWait := l.creditWait.map (fun p => (p.1, p.2 + held)), ackAt := none, pauseLanes := 0 }
    let b := if s = 4 then b.bump (.ifvLinkCnt k) Fld.ifvLinkCnt_RETRAINS else b
    let b := if s = 4 then (List.range (b.linkWidth k)).foldl (fun (b : Bridge) n =>
      if b.get (.lneLaneStat (b.linkLane k n)) Fld.lneLaneStat_ACTIVE = 1 then b.set (.lneLaneStat (b.linkLane k n)) Fld.lneLaneStat_LOL 0
      else b) b else b
    (match l.buf with
    | f :: _ => b.replay k f.seq false
    | [] => b).linkFlush k

/-- A training phase is done (R359, R360): LOCK gives identity and rate, DESKEW the usable lanes and the width, READY the
first flit. -/
def Bridge.phaseDone (b : Bridge) (k : Nat) (i : TrainInfo) : Bridge :=
  let s := b.linkState k
  if s = 0 || s = 2 then b else
  match (b.link k).phase with
  | 0 =>
    let b := b.lset k [(Fld.ifvLinkStat_IDENT_FAR, i.identFar)]
    if k = 4 && i.identFar = b.pairId then (b.raise .ifv 5).linkDown k 9
    else
      let b := if s = 1 then b.lset k [(Fld.ifvLinkStat_RATE, min (b.get (.ifvLinkStat k) Fld.ifvLinkStat_RATE) i.rateFar)] else b
      b.phase k 1
  | 1 => b.phase k 2
  | 2 =>
    let b := if s = 3 then b else b.setWidth k i.usable i.widthFar
    if b.linkState k = 0 then b else b.phase k 3
  | _ => if s = 3 && (List.range (b.linkWidth k)).any (fun n => (b.lane (b.linkLane k n)).mrStart.isSome) then b else b.linkGo k

/-- Bound of a training phase in ticks (R359). -/
def phaseBound (n : Nat) : Nat := [400, 1200, 200, 200].getD n 0

/-- A phase has run over its bound (R359, R362): a first training falls to the next lower rate, a pause asks for a retrain,
a retrain or 32 Gb/s goes down. -/
def Bridge.phaseTimeout (b : Bridge) (k : Nat) : Bridge :=
  let s := b.linkState k
  let l := b.link k
  if s = 0 || s = 2 || b.tick < l.phaseStart + phaseBound l.phase then b
  else if s = 3 then b.requestRetrain k
  else
    let rate := b.get (.ifvLinkStat k) Fld.ifvLinkStat_RATE
    if s = 1 && 1 < rate then (b.lset k [(Fld.ifvLinkStat_RATE, rate - 1)]).phase k 0 else b.linkDown k 3

/-- Retrain on a width cap, a command or a failed lane (R362). -/
def Bridge.retrain (b : Bridge) (k : Nat) : Bridge := b.requestRetrain k

/-- A tick of link `k`: while it is UP its transmitter sends lane symbols, with a filler group after every 8,192 (R329); one IDLE flit
stands for those of the tick, with the ACK and NAK state as it is (R349, R352; log entry 124). -/
def Bridge.linkTick (b : Bridge) (k : Nat) : Bridge :=
  if b.linkState k ≠ 2 then b else
  let b := b.putFlit k 1 0 31 []
  let (l, group) := (b.link k).symbolTick (b.get (.ifvLinkStat k) Fld.ifvLinkStat_RATE)
  if group then (b.putLink l).emit (.filler k fillerSymbol fillerLen) else b.putLink l

/-! Waiting for credits (R358). -/

/-- The credit kinds that a waiting packet lacks. -/
def lacking (l : Link) (p : Packet) : List Nat :=
  (if l.credit (pktKind p) = 0 then [pktKind p] else []) ++ (if l.credit (pktKind p + 1) < pktCredits p then [pktKind p + 1] else [])

/-- Keep the record of the kinds that packets wait for, with the tick each wait began. -/
def Bridge.markCredits (b : Bridge) (k : Nat) : Bridge :=
  let l := b.link k
  let kinds := if b.linkState k = 2 then ((b.merPort k).waiting.flatMap (fun j => lacking l (j.packet 0)) ++ (if l.capsDue then lacking l (b.capsPacket k) else []) ++
      (b.eng.merTags.filter (fun t => t.port = k && (match t.resendAt with | some d => d ≤ b.tick | none => false))).flatMap
        (fun t => lacking l (t.job.packet t.tag))).eraseDups else
    l.creditWait.map (·.1)
  let w := kinds.map (fun n => (n, alGet b.tick n l.creditWait))
  if w = l.creditWait then b else b.putLink { l with creditWait := w }

/-- Every Meridian port's waits for credits. -/
def Bridge.markAll (b : Bridge) : Bridge := (List.range 4).foldl (fun (b : Bridge) k => b.markCredits k) b

end Sys2Proof.Machine
end

