-- ==== Sys2Proof/Machine/Wake.lean ====
section
/-!
DEFINITION. Waking from Dimmed (R399), and what becomes of a request that arrives in each mode (R393, R396, R402, R441).
-/
namespace Sys2Proof.Machine

open Sys2Proof

/-- Catalogue banks that hold an enabled entry. -/
def Bridge.bankDomains (b : Bridge) : List Nat := (b.enabledEntries.map (fun i => 60 + i / 4096)).eraseDups

/-- Domains that the served modes need without waiting for work (R399, R403, R404), and those of a queue for which something waits,
a fault record of Dimmed among it (R438). -/
def Bridge.neededDomains (b : Bridge) : List Nat :=
  [87, 88, 93] ++ (List.range 4).filterMap (fun a => if b.apEnabled a then some (50 + a) else none) ++
  (List.range 4).filterMap (fun p => if b.merEnabled p then some (54 + p) else none) ++
  (if b.paired then [58, 59] else []) ++
  (if b.get .trnBusCfg Fld.trnBusCfg_ENABLE = 1 then [83, 84] else []) ++ b.bankDomains ++
  (b.eng.queues.filter (fun q => q.2.blocked ≠ [])).flatMap (fun q => queueDoms q.1) ++
  (List.range 96).filter (fun n => b.get (.pwrDomPol n) Fld.pwrDomPol_POLICY = 2)

/-- A wake source arrives (R399): the first is recorded, the domains reopen and the links that were UP train. A parked
bridge ignores it (R401). -/
def Bridge.startWake (b : Bridge) (src : Nat) : Bridge :=
  if b.mode ≠ 9 || b.get .pwrMode Fld.pwrMode_PARKED = 1 || b.eng.wakeStart.isSome then b else
  let b := (b.set .pwrMode Fld.pwrMode_WAKE_SRC src).raise .pwr 2
  let b := { b with eng := { b.eng with wakeStart := some b.tick } }
  let b := b.sets .arcStat [(Fld.arcStat_READY, 1), (Fld.arcStat_SELF_REFRESH, 0)]
  let b := b.neededDomains.foldl (fun (b : Bridge) n => b.openDom n) b
  (List.range 5).foldl (fun (b : Bridge) k =>
    if (b.link k).upBeforeDim then b.startTraining k else b) b

/-- Put a request at its source face until wake or release (R396, R399, R402). -/
def Bridge.holdCmd (b : Bridge) (i : Instr) : Bridge := { b with eng := { b.eng with held := b.eng.held ++ [i] } }

/-- A request `i` of a local source or of the host: served in the modes that serve traffic; held in Service; a wake source
`src` in Dimmed; not taken otherwise. -/
def Bridge.gate (b : Bridge) (i : Instr) (src : Nat) (serve : Bridge → Bridge) : Bridge :=
  if b.mode = 10 then b.holdCmd i
  else if b.mode = 9 then (if b.get .pwrMode Fld.pwrMode_PARKED = 1 then b else (b.startWake src).holdCmd i)
  else if 4 ≤ b.mode && b.mode ≤ 8 then serve b
  else b

/-- PERST_N is asserted: every block is held at its reset values (R418). -/
def Bridge.heldReset (b : Bridge) : Bool := b.mode = 2 && !b.pins.perstReleased

/-- Whether a writer can reach control space: a director by its Aperture, which the almanac enables, or by the loader
function's in Bare (R393, R424). -/
def Bridge.writerThere (b : Bridge) : Writer → Bool
  | .svc => true
  | .dir a => if b.mode = 3 then decide (a = 0) else b.apEnabled a

/-- A write to control space by writer `w` through a command row of its own, at register offset `off`: rejected in
Quarantine, and in Bare when the block is absent (R456); a director's waits in Service; a wake source in Dimmed (R399). -/
def Bridge.ctlGate (b : Bridge) (i : Instr) (w : Writer) (off : Nat) (serve : Bridge → Bridge) : Bridge :=
  if b.mode < 2 || b.heldReset || !b.writerThere w then b else
  let b := b.svcMark w false
  if b.mode = 11 then b.rejectBy w off false 1
  else if b.mode = 3 && !(Blk.ofOffset off).inBare then b.rejectBy w off false 2
  else if b.mode = 9 then
    (if b.get .pwrMode Fld.pwrMode_PARKED = 1 then b else (b.startWake (if w = .svc then 5 else 1)).holdCmd i)
  else if b.mode = 10 && w ≠ .svc then b.holdCmd i
  else serve b

end Sys2Proof.Machine
end

