-- ==== Sys2Proof/Machine/Shutters.lean ====
section
/-!
DEFINITION. The shutter domains that have work (R403, R404), and the two windows that run while nothing happens: a domain's
close delay and the Dimmed idle window (R395).
-/
namespace Sys2Proof.Machine

open Sys2Proof

/-- The lane quads of an Aperture with an active lane (R403): none in L1.1, L1.2, Disabled and Detect; those of the narrowed
width in L0p. -/
def Bridge.hostQuads (b : Bridge) (a : Nat) : List Nat :=
  let st := b.get (.aptLinkEff a) Fld.aptLinkEff_STATE
  if [0, 7, 8, 9].contains st then [] else
  let all := match b.alm.inForce.bind (·.lane 0 a) with | some r => un r 2 1 | none => 0
  let w := if st = 4 then b.get (.aptLinkEff a) Fld.aptLinkEff_L0P_WIDTH else all
  ((b.hostLanes a w).map (fun i => 32 + i / 4)).eraseDups

/-- The lane quads of link `k` with a lane in the link, or one that trains. -/
def Bridge.linkQuads (b : Bridge) (k : Nat) : List Nat :=
  let st := b.linkState k
  if st = 0 || !b.linkExists k then [] else
  let on := (List.range (b.linkWidth k)).filter (fun n => st = 1 || (b.get (.ifvLinkStat k) Fld.ifvLinkStat_LANES).testBit n)
  (on.map (fun n => let i := b.linkLane k n; if 64 ≤ i then 48 + (i - 64) / 4 else 40 + (i - 32) / 4)).eraseDups

/-- Whether a queue holds anything. -/
def Queue.idle (x : Queue) : Bool := x.packets = [] && x.opn.isNone && x.stalled = [] && x.blocked = []

/-- Domes that hold work: a segment on the run list or at a finder, or a ledger entry of one of its finders. -/
def Bridge.busyDomes (b : Bridge) : List Nat :=
  b.eng.chans.flatMap (fun x => x.segs.filterMap (fun s =>
    match s.st with | .waiting => some s.dome | _ => s.finder.map (· / 8))) ++
  b.ledger.filterMap (fun e => e.finder.map (· / 8))

/-- Whether an enabled lane of the seeing monitor is in L0 (R403). -/
def Bridge.seeingOn (b : Bridge) : Bool :=
  (List.range 5).any (fun k => b.linkState k = 2 && (List.range (b.linkWidth k)).any (fun n =>
    b.get (.lneSeeCfg (b.linkLane k n)) Fld.lneSeeCfg_EN = 1)) ||
  (List.range 4).any (fun a => b.get (.aptLinkEff a) Fld.aptLinkEff_STATE = 3 &&
    (b.hostLanes a (b.get (.aptLinkEff a) Fld.aptLinkEff_WIDTH)).any (fun i => b.get (.lneSeeCfg i) Fld.lneSeeCfg_EN = 1))

/-- Domains whose work is a standing condition: they open by themselves while it holds. -/
def Bridge.standing (b : Bridge) : List Nat :=
  (List.range 4).flatMap b.hostQuads ++ (List.range 5).flatMap b.linkQuads ++
  (if b.mode ≤ 4 then [95] else []) ++ (if 4 ≤ b.mode then [93] else []) ++
  (List.range 4).filterMap (fun a => if [0, 9].contains (b.get (.aptLinkEff a) Fld.aptLinkEff_STATE) then none else some (50 + a)) ++
  (List.range 4).filterMap (fun k => if b.linkState k ≠ 0 then some (54 + k) else none) ++
  (if b.paired then [58, 59] else []) ++
  (if b.get .trnBusCfg Fld.trnBusCfg_ENABLE = 1 then [83, 84] else []) ++
  (if (List.range 2).any (fun a => [1, 2, 3, 4, 5, 6].contains (b.get (.aptLinkEff a) Fld.aptLinkEff_STATE)) then [89] else []) ++
  (if (List.range 2).any (fun a => [1, 2, 3, 4, 5, 6].contains (b.get (.aptLinkEff (a + 2)) Fld.aptLinkEff_STATE)) then [90] else []) ++
  (if b.part.seeing && b.seeingOn then [91] else []) ++
  (List.range 96).filter (fun n => b.get (.pwrDomPol n) Fld.pwrDomPol_POLICY = 2)

/-- Domains that may not close now (R403, R404). -/
def Bridge.busyDomains (b : Bridge) : List Nat :=
  b.standing ++ b.busyDomes ++ [50, 51, 52, 53, 85, 86, 87, 88, 93] ++ b.bankDomains ++
  (b.eng.queues.filter (fun q => !q.2.idle)).flatMap (fun q => [76, 77 + q.1 / 1024]) ++
  (if b.archReqs ≠ [] then [81, 82] else []) ++
  b.eng.domHeld.flatMap (·.1) ++ b.eng.logWait.flatMap (fun j => queueDoms (j.addr / 4096)) ++
  b.pbs.map (fun e => 89 + e.ap / 2) ++
  (if b.eng.eyes.any (·.busy) then [92] else []) ++
  (if b.eng.chans.any (fun x => b.chState x.c ≠ 0 && b.act x.c 3 Fld.fndSetCtrl_CHECK ≠ 0) then [94] else []) ++
  (if b.almBusy then [95] else [])

/-- Open what stands in need, and restart the close delay of each open domain that has work, in the modes in which domains open and
close (R403, R404). -/
def Bridge.domMarks (b : Bridge) : Bridge :=
  if !((2 ≤ b.mode && b.mode ≤ 8) || b.mode = 10) || b.heldReset then b else
  let b := b.standing.foldl (fun (b : Bridge) n => b.openDom n) b
  let busy := b.busyDomains
  { b with eng := { b.eng with
      doms := b.eng.doms.map (fun d => if d.st = 2 && busy.contains d.n then { d with emptySince := b.tick } else d) } }

/-- The start of the window in which every reason of R395 has been absent. -/
def Bridge.dimMark (b : Bridge) : Bridge :=
  { b with eng := { b.eng with dimSince := if b.dimBlock = 0 then some (b.eng.dimSince.getD b.tick) else none } }

/-- Settle, keep the waits for credits and the idle windows. Every command of a serving mode ends with it. -/
def Bridge.settled (b : Bridge) (m : List Host.Cell) : Bridge :=
  if b.mode = 11 then b else ((b.settle m).pf0Drains.markAll).domMarks.dimMark

end Sys2Proof.Machine
end

