-- ==== Sys2Proof/Machine/Meridian.lean ====
section
/-!
DEFINITION. The Meridian transaction layer (R267 to R292, R492): an agent's requests, its completions, timeouts and tags.
-/
namespace Sys2Proof.Machine

open Sys2Proof

/-! Errors. -/

/-- MER_ERR_LAST of a port (R293). -/
def Bridge.merLast (b : Bridge) (p tag type kind : Nat) : Bridge :=
  b.put (.merErrLast p) (wmk [(Fld.merErrLast_TAG, tag), (Fld.merErrLast_TYPE, type), (Fld.merErrLast_KIND, kind),
    (Fld.merErrLast_TICK, b.tick), (Fld.merErrLast_VALID, 1)])

/-- A MERIDIAN fault record with the port's MER_ERR_LAST (R437). -/
def Bridge.merRecord (b : Bridge) (p : Nat) : Bridge :=
  b.record 0x0C .mer none none (b.raw (.merErrLast p)) (BitVec.ofNat 64 p)

/-- A protocol error (R287): 2 malformed, 3 free tag, 4 unfit completion. -/
def Bridge.protoError (b : Bridge) (p : Nat) (k : Packet) (kind : Nat) : Bridge :=
  (((b.bump (.merErrCnt p) Fld.merErrCnt_PROTO).merLast p k.tag k.type kind).raise .mer 1).merRecord p

/-! Well-formed packets (R268 to R270, R278, R280, R281). -/

/-- The MARK values that a type may carry. -/
def markOk (k : Packet) : Bool :=
  k.mark = 0 || (!k.cls && ((k.mark = 1 && (k.type = 0 || k.type = 2)) ||
    (k.mark = 2 && (k.type = 1 || k.type = 3 || k.type = 4))))

/-- Operand size of an ATOMIC. -/
def atomicOperand (op : Nat) : Nat := [0, 4, 8, 4, 8, 4, 8, 16].getD op 0

/-- Whether a request packet is well formed for its row's type. -/
def pktOk (k : Packet) (type : Nat) : Bool :=
  k.type = type && markOk k && k.resp = 0 && k.len < 256 && k.tag < 4096 && k.addr < 2 ^ 52 && k.vi < 2048 &&
  !(k.dir && k.vi ≠ 0) && !k.rsvd &&
  (match type with
   | 0 | 2 => k.op = 0 && k.data = []
   | 1 | 3 => k.op = 0 && k.data.length = k.len + 1
   | 4 => 1 ≤ k.op && k.op ≤ 7 && k.data.length = atomicPayload k.op && k.len + 1 = atomicPayload k.op &&
       k.addr % atomicOperand k.op = 0
   | 5 => k.op ≤ 1 && k.data.length = 8 && k.len = 7 && k.tag = 0
   | _ => k.op ≤ 2 && k.data = [])

/-! Intake. -/

/-- The first packet of a list that equals `k` goes. -/
def takeFirst (k : Packet) : List Packet → List Packet
  | [] => []
  | x :: l => if x = k then l else x :: takeFirst k l

/-- The transaction layer takes a packet: its receive room is granted again, but for completions (R271, R357). -/
def Bridge.intake (b : Bridge) (p : Nat) (k : Packet) : Bridge :=
  let b := b.putMerPort { b.merPort p with rx := takeFirst k (b.merPort p).rx }
  if 8 ≤ k.type then b else
  let l := b.link p
  let add := fun (g : List Nat) (i n : Nat) => g.set i ((g.getD i 0 + n) % 65536)
  b.putLink { l with granted := add (add l.granted (pktKind k) 1) (pktKind k + 1) (pktCredits k) }

/-- An agent's packet on a port whose link is up is served, held or a wake source (R399, R402). -/
def Bridge.fromAgent (b : Bridge) (i : Instr) (p : Nat) (k : Packet) (serve : Bridge → Bridge) : Bridge :=
  b.gate i 2 (fun b => if p < 4 && b.linkUp p then serve (b.intake p k) else b)

/-- Where an agent's request leads (R103, R121): the translation, or nothing after the miss has been answered with UNMAPPED and
counted. A request that crosses a 4 KiB boundary of an enabled field is no miss, but is answered in the same way (R104). -/
def Bridge.upLookup (b : Bridge) (p : Nat) (k : Packet) (n : Nat) : Bridge × Option Xlat :=
  let miss := fun (b : Bridge) => (b.answerMer p k.tag k.vi k.dir 3 none false, none)
  match b.lookup (slotMer p (k.addr / 2 ^ 48)) (k.addr % 2 ^ 48) n with
  | none => miss (b.catMiss false k.addr 1 p)
  | some x =>
    if !b.entOpen x.idx then miss (b.catMiss true k.addr 1 p)
    else if 4096 < k.addr % 4096 + n then miss b
    else (b, some x)

def merSrc (p : Nat) (k : Packet) : Src := .mer p k.vi k.dir
def merFrom (p : Nat) (k : Packet) : UpFrom := .mer p k.tag k.vi k.dir k.type k.len

/-- An agent READ (R134, R269). -/
def Bridge.agentRead (b : Bridge) (p : Nat) (k : Packet) : Bridge :=
  if !pktOk k 0 then b.protoError p k 2 else
  match b.upLookup p k (k.len + 1) with
  | (b, none) => b
  | (b, some x) => b.upIssue (merFrom p k) (merSrc p k) x k.addr (k.len + 1) false (fun _ n => .read n) k.mark (k.mark = 0)

/-- The write data of an upstream request at a piece. -/
def upData (x : Xlat) (d : List Byte) (poison : Bool) (t n : Nat) : JobOp :=
  .write (pieceData (x.get entORDER) x.off (d.map some) t n) poison

/-- An agent WRITE (R113, R134, R286, R492). -/
def Bridge.agentWrite (b : Bridge) (p : Nat) (k : Packet) : Bridge :=
  if !pktOk k 1 then b.protoError p k 2 else
  match b.upLookup p k (k.len + 1) with
  | (b, none) => b
  | (b, some x) =>
    if k.poison && x.dropsPoison then (b.poisonDrop x k.addr).answerMer p k.tag k.vi k.dir 0 none false
    else b.upIssue (merFrom p k) (merSrc p k) x k.addr (k.len + 1) true (upData x k.data k.poison) k.mark (k.mark = 0)

/-- A reserved-load, conditional-store or atomic toward a target that does not take it (R134, R147): TGT_FAULT; toward the
host a fault record too. -/
def Bridge.refuseReserved (b : Bridge) (p : Nat) (k : Packet) (x : Xlat) : Bridge :=
  let b := b.answerMer p k.tag k.vi k.dir 4 none false
  if x.get entSPACE = 4 then (b.merLast p k.tag k.type 7).merRecord p else b

/-- A packet passed on to another Meridian port keeps its VI, DIR, PASID, CLASS and MARK (R147). -/
def passOn (k : Packet) (j : Job) : Job := { j with pass := some (k.vi, k.dir, k.pasid), cls := k.cls, mark := k.mark }

/-- An agent RLOAD (R147). -/
def Bridge.agentRload (b : Bridge) (p : Nat) (k : Packet) : Bridge :=
  if !pktOk k 2 then b.protoError p k 2 else
  match b.upLookup p k (k.len + 1) with
  | (b, none) => b
  | (b, some x) =>
    if x.get entSPACE ≠ 0 then b.refuseReserved p k x
    else b.upIssue (merFrom p k) (merSrc p k) x k.addr (k.len + 1) false (fun _ n => .rload n) k.mark false (passOn k)

/-- An agent CSTORE (R147, R286). -/
def Bridge.agentCstore (b : Bridge) (p : Nat) (k : Packet) : Bridge :=
  if !pktOk k 3 then b.protoError p k 2 else
  match b.upLookup p k (k.len + 1) with
  | (b, none) => b
  | (b, some x) =>
    if x.get entSPACE ≠ 0 then b.refuseReserved p k x
    else if k.poison && x.dropsPoison then (b.poisonDrop x k.addr).answerMer p k.tag k.vi k.dir 0 none false
    else b.upIssue (merFrom p k) (merSrc p k) x k.addr (k.len + 1) true
      (fun t n => .cstore ((pieceData (x.get entORDER) x.off (k.data.map some) t n).map (·.getD 0)) k.poison) k.mark false (passOn k)

/-- An operand in target order (R109): the byte at target offset `t + k` is that of field offset `(t + k)` XOR mask. -/
def operandOrder (order lo t : Nat) (l : List Byte) : List Byte :=
  (List.range l.length).map (fun k => l.getD (((t + k) ^^^ orderMask order) - lo) 0)

/-- An agent ATOMIC (R147): a locked tenure on Transit, passed on to another port, or TGT_FAULT. The spec does not say how one is
answered whose poisoned operands its entry drops (R113, R286): here with TGT_FAULT, since it returns data (log entry 118). -/
def Bridge.agentAtomic (b : Bridge) (p : Nat) (k : Packet) : Bridge :=
  if !pktOk k 4 then b.protoError p k 2 else
  match b.upLookup p k (atomicOperand k.op) with
  | (b, none) => b
  | (b, some x) =>
    if 1 < x.get entSPACE then b.refuseReserved p k x
    else if k.poison && x.dropsPoison then (b.poisonDrop x k.addr).answerMer p k.tag k.vi k.dir 4 none false
    else
      let n := atomicOperand k.op
      let parts := fun (t : Nat) =>
        (if 5 ≤ k.op then operandOrder (x.get entORDER) x.off t (k.data.take n) else []) ++
          operandOrder (x.get entORDER) x.off t (k.data.drop (if 5 ≤ k.op then n else 0))
      b.upIssue (merFrom p k) (merSrc p k) x k.addr n false
        (fun t _ => .atomic k.op (if x.get entSPACE = 0 then parts t else k.data) k.poison) k.mark false
        (if x.get entSPACE = 0 then passOn k else id)

/-- An agent's INTERRUPT event (R280). -/
def Bridge.agentInterrupt (b : Bridge) (p : Nat) (k : Packet) : Bridge :=
  if !pktOk k 5 || k.op ≠ 0 then b.protoError p k 2 else
  let v := natOfBytes (k.data.take 2) % 2048
  let drop := fun (b : Bridge) =>
    (((b.bump (.merEventDrop p) Fld.merEventDrop_EVENT_DROP).merLast p k.tag k.type 6).raise .mer 5).merRecord p
  match b.lookup (slotMer p (k.addr / 2 ^ 48)) (k.addr % 2 ^ 48) 1 with
  | none => drop b
  | some x =>
    if b.entOpen x.idx && x.get entSPACE = 4 && v < b.vectors (x.get entPORT) (x.get entRIDFN) then
      b.raiseVector (x.get entPORT) (x.get entRIDFN) v
    else drop b

/-- An agent's CAPS event (R279): a granule other than the port's leaves it without reservations. -/
def Bridge.agentCaps (b : Bridge) (p : Nat) (k : Packet) : Bridge :=
  if !pktOk k 5 || k.op ≠ 1 || k.addr ≠ 0 then b.protoError p k 2 else
  let w := wordOfBytes k.data
  let same := wget w ⟨2, 3⟩ + 7 = b.get (.merPortGeom p) Fld.merPortGeom_GRANULE_LOG2
  let b := b.sets (.merPortStat p) [(Fld.merPortStat_CAPS_SEEN, 1), (Fld.merPortStat_NATIVE_ATOMIC, wget w ⟨0, 1⟩),
    (Fld.merPortStat_RESERVATIONS, if same then wget w ⟨1, 1⟩ else 0), (Fld.merPortStat_AGENT_VER, wget w ⟨8, 8⟩)]
  let b := b.putMerPort { b.merPort p with caps := some w }
  (if same then b else b.raise .mer 4).checkReady p

/-- An agent's BARRIER (R281): the writes of its VI and DIR, of its port, or of every source. -/
def Bridge.agentBarrier (b : Bridge) (p : Nat) (k : Packet) : Bridge :=
  if !pktOk k 6 then b.protoError p k 2 else
  let mine := fun (s : Src) => match k.op, s with
    | 0, s => s = .mer p k.vi k.dir
    | 1, .mer q _ _ => q = p
    | 1, _ => false
    | _, _ => true
  let (id, b) := b.fresh
  b.addBarrier { id := id, ap := p, fn := 0, chan := none, scope := k.op, form := 3, tag := k.tag, seq := 0, t0 := b.tick,
                 answered := false, covers := [], fault := none, job := none, sender := some (merFrom p k) }
    (b.writes.filter (fun j => mine j.src))

/-! Completions. -/

/-- Free a tag; it is not given out before the next tick (R283). -/
def Bridge.freeTag (b : Bridge) (p t : Nat) : Bridge :=
  { b with
    freed := b.freed.filter (fun x => x.tick = b.tick) ++ [⟨p, t, b.tick⟩]
    eng := { b.eng with merTags := b.eng.merTags.filter (fun e => !(e.port = p && e.tag = t)) } }

/-- Write a held tag. -/
def Bridge.putTag (b : Bridge) (e : MerTag) : Bridge :=
  { b with eng := { b.eng with merTags := b.eng.merTags.map (fun x => if x.port = e.port && x.tag = e.tag then e else x) } }

/-- What a completion answers its request with (R270): the result, `none` when it does not fit; RETRY is 5. -/
def complete (j : Job) (k : Packet) : Option Res :=
  if k.type = 8 then
    if k.resp = 3 then some (.err .unmapped)
    else if k.resp = 4 then some (.err .tgtFault)
    else match j.op, k.resp with
      | .write .., 0 => some (.ok [] false)
      | .cstore .., 0 => some (.ok [] false)
      | .cstore .., 1 => some (.rsv 1 [] false)
      | .cstore .., 2 => some (.rsv 2 [] false)
      | _, _ => none
  else
    let fits := k.data.length = k.len + 1 && k.len + 1 = j.span
    match j.op, k.resp with
    | .read _, 0 | .atomic .., 0 | .rload _, 0 => if fits then some (.ok k.data k.poison) else none
    | .rload _, 1 => if fits then some (.rsv 1 k.data k.poison) else none
    | _, _ => none

/-- Whether an agent may answer a request with RETRY (R284): any but a WRITE. -/
def mayRetry (j : Job) : Bool := match j.op with | .write .. => false | _ => true

/-- A request of another agent that the bridge passed on: an atomic or reserved packet toward this port (R147). -/
def passedOn (j : Job) : Bool :=
  match j.origin, j.op with
  | .up _, .atomic .. | .up _, .rload _ | .up _, .cstore .. => true
  | _, _ => false

/-- A wrong completion (R287): a protocol error that ends its request, if a tag holds one, as TGT_FAULT and frees the tag. -/
def Bridge.wrongCpl (b : Bridge) (p : Nat) (k : Packet) (kind : Nat) : Bridge :=
  let b := b.protoError p k kind
  match b.eng.merTags.find? (fun e => e.port = p && e.tag = k.tag && !e.quarantined) with
  | some e => (b.freeTag p k.tag).finish e.job (.err .tgtFault)
  | none => b

/-- A completion from an agent (R282 to R285, R287). A tag whose quarantine window has ended is free. -/
def Bridge.completion (b : Bridge) (p : Nat) (k : Packet) : Bridge :=
  if k.op ≠ 0 || k.mark ≠ 0 || k.addr ≠ 0 || 6 ≤ k.resp || (k.type = 8 && k.data ≠ []) || k.rsvd ||
      (k.dir && k.vi ≠ 0) then b.wrongCpl p k 2 else
  match b.eng.merTags.find? (fun e => e.port = p && e.tag = k.tag) with
  | none => b.protoError p k 3
  | some e =>
    if e.quarantined && e.until_ ≤ b.tick then (b.freeTag p k.tag).protoError p k 3
    else if e.quarantined then
      (((b.bump (.merErrCnt p) Fld.merErrCnt_LATE).merLast p k.tag k.type 1).raise .mer 2).merRecord p
    else if k.type = 8 && k.resp = 5 && passedOn e.job then (b.freeTag p k.tag).finish e.job (.rsv 5 [] false)
    else if k.type = 8 && k.resp = 5 && mayRetry e.job then
      if e.retries < b.get (.merPortCtrl p) Fld.merPortCtrl_RETRY_LIMIT then
        b.putTag { e with resendAt := some (b.tick + b.get (.merPortCtrl p) Fld.merPortCtrl_RETRY_GAP) }
      else (b.freeTag p k.tag).finish e.job (.err .tgtFault)
    else match complete e.job k with
      | some r => (b.freeTag p k.tag).finish e.job r
      | none => b.wrongCpl p k 4

/-- The transaction timeout of a tag (R282). -/
def Bridge.merTimeout (b : Bridge) (p t : Nat) : Bridge :=
  match b.eng.merTags.find? (fun e => e.port = p && e.tag = t && !e.quarantined) with
  | none => b
  | some e =>
    let lim := b.ladder 4
    if b.tick < e.issued + lim then b else
    let b := b.putTag { e with quarantined := true, until_ := b.tick + lim, resendAt := none }
    let b := ((b.bump (.merErrCnt p) Fld.merErrCnt_TIMEOUTS).merLast p t (e.job.packet t).type 5).raise .mer 3
    b.finish e.job (.err .merTimeout)

/-- A retried request is sent again with the same tag (R284). -/
def Bridge.resend (b : Bridge) (p t : Nat) : Bridge :=
  match b.eng.merTags.find? (fun e => e.port = p && e.tag = t && !e.quarantined) with
  | none => b
  | some e => match e.resendAt with
    | none => b
    | some due =>
      if b.tick < due || !b.linkTakes p (e.job.packet t) then b
      else ((b.putTag { e with resendAt := none, retries := e.retries + 1 }).bump (.merErrCnt p) Fld.merErrCnt_RETRIES).sendPacket p (e.job.packet t)

/-! The Meridian commands. -/

def execMeridianRead (p : Nat) (pkt : Packet) (s : State) : Host.Outcome State Fault Refusal :=
  .next { s with b := (s.b.fromAgent (.meridianRead p pkt) p pkt (fun b => b.agentRead p pkt)).settled s.mem }

def execMeridianWrite (p : Nat) (pkt : Packet) (s : State) : Host.Outcome State Fault Refusal :=
  .next { s with b := (s.b.fromAgent (.meridianWrite p pkt) p pkt (fun b => b.agentWrite p pkt)).settled s.mem }

def execRload (p : Nat) (pkt : Packet) (s : State) : Host.Outcome State Fault Refusal :=
  .next { s with b := (s.b.fromAgent (.rload p pkt) p pkt (fun b => b.agentRload p pkt)).settled s.mem }

def execCstore (p : Nat) (pkt : Packet) (s : State) : Host.Outcome State Fault Refusal :=
  .next { s with b := (s.b.fromAgent (.cstore p pkt) p pkt (fun b => b.agentCstore p pkt)).settled s.mem }

def execAtomic (p : Nat) (pkt : Packet) (s : State) : Host.Outcome State Fault Refusal :=
  .next { s with b := (s.b.fromAgent (.atomic p pkt) p pkt (fun b => b.agentAtomic p pkt)).settled s.mem }

def execInterrupt (p : Nat) (pkt : Packet) (s : State) : Host.Outcome State Fault Refusal :=
  .next { s with b := (s.b.fromAgent (.interrupt p pkt) p pkt (fun b => b.agentInterrupt p pkt)).settled s.mem }

/-- CAPS ends training as much as it begins traffic, so that a wake or Charting does not hold it back. -/
def execCaps (p : Nat) (pkt : Packet) (s : State) : Host.Outcome State Fault Refusal :=
  .next { s with b := (if p < 4 && s.b.linkUp p then (s.b.intake p pkt).agentCaps p pkt else s.b).settled s.mem }

def execMeridianBarrier (p : Nat) (pkt : Packet) (s : State) : Host.Outcome State Fault Refusal :=
  .next { s with b := (s.b.fromAgent (.meridianBarrier p pkt) p pkt (fun b => b.agentBarrier p pkt)).settled s.mem }

/-- A completion is for the bridge's own request, so no mode holds it back. -/
def execMeridianCpl (p : Nat) (pkt : Packet) (s : State) : Host.Outcome State Fault Refusal :=
  let k := { pkt with type := 8 }
  .next { s with b := (if p < 4 && s.b.linkUp p then (s.b.intake p pkt).completion p k else s.b).settled s.mem }

def execMeridianCpld (p : Nat) (pkt : Packet) (s : State) : Host.Outcome State Fault Refusal :=
  let k := { pkt with type := 9 }
  .next { s with b := (if p < 4 && s.b.linkUp p then (s.b.intake p pkt).completion p k else s.b).settled s.mem }

def execMeridianTimeout (p tag : Nat) (s : State) : Host.Outcome State Fault Refusal :=
  .next { s with b := (s.b.merTimeout p tag).settled s.mem }

/-- A quarantined tag's window ends (R283). -/
def execMeridianTagFree (p tag : Nat) (s : State) : Host.Outcome State Fault Refusal :=
  .next { s with b := (if s.b.eng.merTags.any (fun e => e.port = p && e.tag = tag && e.quarantined && e.until_ ≤ s.b.tick) then
    s.b.freeTag p tag else s.b).settled s.mem }

def execMeridianRetryResend (p tag : Nat) (s : State) : Host.Outcome State Fault Refusal :=
  .next { s with b := (s.b.resend p tag).settled s.mem }

end Sys2Proof.Machine
end

