-- ==== Sys2Proof/Machine/HostPath.lean ====
section
/-!
DEFINITION. The commands of the host links (R63 to R95): reads, AtomicOps, configuration requests, completions, the tag
ledger, Bus Master Enable, function-level resets, link events, interrupts, margining and link state. Posted writes are in
Control.lean, where a write reaches the registers.
-/
namespace Sys2Proof.Machine

open Sys2Proof

/-! Modes. -/

/-- Whether an Aperture's host link is there: enabled by the almanac, or the loader function's in Bare (R424). -/
def Bridge.hostThere (b : Bridge) (ap : Nat) : Bool := if b.mode = 3 then decide (ap = 0) else b.apEnabled ap

/-- Whether an Aperture is under a PF0 function-level reset or a link event, so that its memory requests are answered as in
R87. -/
def Bridge.apResetting (b : Bridge) (ap : Nat) : Bool :=
  b.eng.insts.any (fun x => (x.flr = 2 || x.trigger = 7) && b.viAp x.v = ap) || b.eng.pfFlrs.any (fun x => x.ap = ap)

/-- A memory request `i` of the host by mode: served from M3 to M8, held in Service, a wake source in Dimmed (R393, R396,
R402). -/
def Bridge.hostGate (b : Bridge) (i : Instr) (ap : Nat) (serve : Bridge → Bridge) : Bridge :=
  if !b.hostThere ap then b else if b.mode = 3 then serve b else b.gate i 1 serve

/-- Flow control holds request `i` of the host at Aperture `ap` (R137). -/
def Bridge.fcHold (b : Bridge) (ap : Nat) (i : Instr) : Bridge :=
  { b with eng := { b.eng with fcWait := b.eng.fcWait ++ [(ap, i)] } }

/-- A request of the host that nothing which flow control holds at its Aperture precedes: none passes a posted write (R137). -/
def Bridge.fcGate (b : Bridge) (i : Instr) (ap : Nat) (serve : Bridge → Bridge) : Bridge :=
  if b.eng.fcWait.any (fun x => x.1 = ap) then b.fcHold ap i else serve b

/-! Reads and AtomicOps. -/

/-- Read control space register by register, with the effects of reading, for writer bank `n`: bytes `off` and on. -/
def Bridge.readSpan (b : Bridge) (m : List Host.Cell) (n off len : Nat) : Bridge × List Byte :=
  (cutAt 8 (len + 1) off len).foldl (fun (p : Bridge × List Byte) q =>
    let lo := decide (q.1 % 8 = 0 && 4 ≤ q.2)
    let hi := decide (q.1 % 8 ≤ 4 && 8 ≤ q.1 % 8 + q.2)
    let w := p.1.readAt m n q.1
    (p.1.readEffects n q.1 lo hi, p.2 ++ ((wbytes w).drop (q.1 % 8)).take q.2)) (b, [])

/-- A host read in Quarantine: PF0 BAR0 is answered, anything else with Unsupported Request (R441). -/
def Bridge.quarRead (b : Bridge) (m : List Host.Cell) (r : HostReadOp) : Bridge :=
  match b.hostMatch r.ap r.addr with
  | some (0, 0, off) => let (b, d) := b.readSpan m r.ap off r.len; b.emit (.hostCpl r.ap r.tag .sc d false)
  | _ => b.emit (.hostCpl r.ap r.tag .ur [] false)

def execHostRead (r : HostReadOp) (s : State) : Host.Outcome State Fault Refusal :=
  let b := s.b
  .next { s with b :=
    if b.mode = 11 then (if b.apEnabled r.ap then b.quarRead s.mem r else b)
    else (b.hostGate (.hostRead r) r.ap (fun b => b.fcGate (.hostRead r) r.ap (fun b =>
      if b.apResetting r.ap then b.emit (.hostCpl r.ap r.tag .ur [] false) else b.hostRead r))).settled s.mem }

def execHostAtomicOp (r : HostAtomic) (s : State) : Host.Outcome State Fault Refusal :=
  let b := s.b
  .next { s with b :=
    if b.mode = 11 then (if b.apEnabled r.ap then b.emit (.hostCpl r.ap r.tag .ur [] false) else b)
    else (b.hostGate (.hostAtomicOp r) r.ap (fun b => b.fcGate (.hostAtomicOp r) r.ap (fun b =>
      if b.apResetting r.ap then b.emit (.hostCpl r.ap r.tag .ur [] false) else b.hostAtomic r))).settled s.mem }

/-! Configuration requests (R65, R422, R427). -/

/-- Whether a function is there to answer configuration requests. -/
def Bridge.fnThere (b : Bridge) (ap fn : Nat) : Bool :=
  fn = 0 || (b.mode ≠ 3 && b.cfgGet ap 0 .vfEnable = 1 && fn ≤ b.cfgGet ap 0 .numVfs)

/-- A configuration request: Request Retry Status before the end of Charting and during a hot reset of the Aperture. -/
def Bridge.configRequest (b : Bridge) (ap tag fn : Nat) (acc : CfgAccess) : Bridge :=
  if b.mode = 2 || b.mode = 4 || b.eng.insts.any (fun x => x.trigger = 7 && b.viAp x.v = ap) then b.emit (.requestRetry ap tag)
  else if b.mode = 11 || !b.fnThere ap fn then b.emit (.hostCpl ap tag .ur [] false)
  else match acc with
    | .read f => b.emit (.cfg ap tag (some (b.cfgRead ap fn f)))
    | .write f v => (b.cfgWrite ap fn f v).emit (.cfg ap tag none)

def execHostConfigRequest (ap tag fn : Nat) (acc : CfgAccess) (s : State) : Host.Outcome State Fault Refusal :=
  let b := s.b
  .next { s with b :=
    if b.mode < 2 || (4 < b.mode && !b.apEnabled ap) || (b.mode = 3 && ap ≠ 0) || b.part.apertures ≤ ap then b
    else if b.mode = 9 then b.gate (.hostConfigRequest ap tag fn acc) 1 id
    else (b.configRequest ap tag fn acc).settled s.mem }

/-! Completions and the tag ledger. -/

def execHostCompletion (c : HostCpl) (s : State) : Host.Outcome State Fault Refusal :=
  .next { s with b := if s.b.mode < 4 || s.b.mode = 11 then s.b else (s.b.hostCompletion c).settled s.mem }

def execCompletionTimeout (idx : Nat) (s : State) : Host.Outcome State Fault Refusal :=
  .next { s with b := if s.b.mode = 11 then s.b else (s.b.cplTimedOut idx).settled s.mem }

/-- The end of a quarantine window; timers stop in Quarantine (R85, R441). -/
def execLedgerEntryFree (idx : Nat) (s : State) : Host.Outcome State Fault Refusal :=
  .next { s with b := if s.b.mode = 11 then s.b else (s.b.ledgerWindowEnd idx).settled s.mem }

/-! Bus Master Enable (R80, R86). -/

/-- A host's own write to a function while the host link works normally. -/
def Bridge.hostTouch (b : Bridge) (ap fn : Nat) (f : Bridge → Bridge) : Bridge :=
  if !b.hostThere ap || !b.fnThere ap fn || b.mode < 3 || b.mode = 4 || b.mode = 11 then b else f b

def execBusMasterEnableClear (ap fn : Nat) (s : State) : Host.Outcome State Fault Refusal :=
  .next { s with b := ((s.b.hostTouch ap fn (fun b =>
    if b.cfgGet ap fn .busMaster = 1 then b.bmeClear ap fn else b)).settled s.mem) }

def execBusMasterEnableSet (ap fn : Nat) (s : State) : Host.Outcome State Fault Refusal :=
  .next { s with b := (s.b.hostTouch ap fn (fun b =>
    if b.cfgGet ap fn .busMaster = 0 then b.bmeSet ap fn else b)).settled s.mem }

/-! Function-level resets and link events (R87 to R89, R426 to R428). -/

/-- Reset an instance for a link event of its Aperture: a reset in progress is superseded and reports nothing; a destroy
and a squash by failover go on (R428). A function-level reset is absorbed instead (R218). -/
def Bridge.linkReset (b : Bridge) (v : Nat) : Bridge :=
  match b.inst? v with
  | some x =>
    if x.trigger = 5 || x.trigger = 6 || x.trigger = 7 then b
    else b.putInst { x with trigger := 7, start := b.tick, abandoned := 0, flrs := [], banks := [] }
  | none => b.startReset v 7 none

/-- A function-level reset during a hot reset of its Aperture is absorbed, and completes with it (R428). -/
def Bridge.absorbFlr (b : Bridge) (ap : Nat) : Bridge :=
  (b.eng.insts.filter (fun x => x.trigger = 7 && b.viAp x.v = ap)).foldl
    (fun (b : Bridge) x => b.putInst { x with flrs := x.flrs ++ [2] }) b

/-- Report a reset that has started to the partner (R219, R377). -/
def Bridge.reportReset (b : Bridge) (v t : Nat) : Bridge :=
  if b.mirrors then b.mirror (.resetStart v t) none else b.mirrorLater (.resetStart v t)

/-- A VF's function-level reset (R88). During a hot reset of its Aperture it is absorbed (R428). -/
def Bridge.vfFlr (b : Bridge) (ap vf : Nat) : Bridge :=
  if b.eng.insts.any (fun x => x.trigger = 7 && b.viAp x.v = ap) then b.absorbFlr ap else
  let b := b.restoreCfg ap vf
  match b.viOf ap vf with
  | some v =>
    let r := (b.startReset v 1 none).abandonFn ap vf
    if (b.inst? v).isSome then r else r.reportReset v 1
  | none => ((b.abandonFn ap vf).clearMsix ap vf).raise (.apt ap) 3

def execVfFlr (ap vf : Nat) (s : State) : Host.Outcome State Fault Refusal :=
  .next { s with b := ((s.b.hostTouch ap vf (fun b => if vf = 0 then b else b.vfFlr ap vf)).settled s.mem) }

/-- PF0's function-level reset (R89): its registers and those of its VFs, every instance of the Aperture, and its posting-buffer
entries, which drain. -/
def Bridge.pf0Flr (b : Bridge) (ap : Nat) : Bridge :=
  if b.eng.insts.any (fun x => x.trigger = 7 && b.viAp x.v = ap) then b.absorbFlr ap else
  let b := (b.abandonFn ap 0).restoreAll ap
  let b := (b.visOf ap).foldl (fun (b : Bridge) v => b.startReset v 2 none) b
  let flr : PfFlr := { ap := ap, start := b.tick, draining := (b.pf0Writes ap).map (·.id) }
  let others := b.eng.pfFlrs.filter (fun x => x.ap ≠ ap)
  { b with eng := { b.eng with pfFlrs := others ++ [flr] } }.pf0Drains

def execPf0Flr (ap : Nat) (s : State) : Host.Outcome State Fault Refusal :=
  .next { s with b := ((s.b.hostTouch ap 0 (fun b => b.pf0Flr ap)).settled s.mem) }

/-- Hot reset, link disable or link down of an Aperture (R148, R426): its waiting posted writes are discarded, its functions'
registers restored, its ledger entries quarantined, its instances reset with trigger 7; its host requests are gone. -/
def Bridge.linkEvent (b : Bridge) (ap : Nat) : Bridge :=
  let b := b.pbDiscard (fun e => e.ap = ap && e.kind ≠ .issued)
  let b := { b with
    hostReads := b.hostReads.filter (fun x => x.ap ≠ ap), eng := { b.eng with pfFlrs := b.eng.pfFlrs.filter (fun x => x.ap ≠ ap) } }
  let b := b.restoreAll ap
  let b := (b.visOf ap).foldl (fun (b : Bridge) v => b.linkReset v) b
  b.abandon (fun e => e.ap = ap) .masterDisabled

def execApertureLinkEvent (ap : Nat) (_ev : LinkEvent) (s : State) : Host.Outcome State Fault Refusal :=
  let b := s.b
  .next { s with b := if !b.hostThere ap || b.mode < 3 || b.mode = 11 then b else (b.linkEvent ap).settled s.mem }

/-! Function settings. -/

def execBarResize (ap : Nat) (vfBar : Bool) (sizeLog2 : Nat) (s : State) : Host.Outcome State Fault Refusal :=
  .next { s with b := (s.b.hostTouch ap 0 (fun b => if b.mode = 3 then b else b.resizeBar ap vfBar sizeLog2)).settled s.mem }

def execNumvfsWrite (ap n : Nat) (s : State) : Host.Outcome State Fault Refusal :=
  .next { s with b := s.b.hostTouch ap 0 (fun b => if b.mode = 3 then b else b.setNumVfs ap n) }

/-- In Bare the loader function has MSI only (R424). -/
def execInterruptMethodChange (ap fn : Nat) (msixEn msiEn : Bool) (s : State) : Host.Outcome State Fault Refusal :=
  .next { s with b := (s.b.hostTouch ap fn (fun b => b.changeMethod ap fn (msixEn && b.mode ≠ 3) msiEn)).settled s.mem }

def execVectorUnmask (ap fn : Nat) (u : Unmask) (s : State) : Host.Outcome State Fault Refusal :=
  .next { s with b := (s.b.hostTouch ap fn (fun b => b.unmask ap fn u)).settled s.mem }

def execLaneMarginingCommand (ap lane : Nat) (p : MarginPoint) (measured : Nat) (s : State) : Host.Outcome State Fault Refusal :=
  .next { s with b := if s.b.hostThere ap && lane < s.b.part.hostLanes then s.b.marginCmd ap lane p measured else s.b }

/-! Link state and errors. -/

/-- Whether a host link that is down reports training on lanes of which some reference input is absent: it cannot train (R326,
R328). -/
def Bridge.refMissing (b : Bridge) (ap : Nat) (l : HostLink) : Bool :=
  !b.apTrained ap && 3 ≤ l.state && l.state ≤ 8 && (b.hostLanes ap l.width).any (fun i => b.eng.absentRefs.contains (i / 8))

/-- The lanes of an Aperture take part in its link or not, as its state and widths say; one that trains has lock (R331, R341). -/
def Bridge.hostLanesOn (b : Bridge) (ap : Nat) (was : Bool) : Bridge :=
  let r := fun f => b.get (.aptLinkEff ap) f
  let on := b.hostActive ap (r Fld.aptLinkEff_STATE) (r Fld.aptLinkEff_WIDTH) (r Fld.aptLinkEff_L0P_WIDTH)
  let all := match b.alm.inForce.bind (·.lane 0 ap) with | some g => un g 2 1 | none => if b.part.hostLanes = 8 then 8 else 16
  (b.hostLanes ap all).foldl (fun (b : Bridge) i =>
    let b := b.laneOn i (on.contains i)
    if on.contains i && !was then b.set (.lneLaneStat i) Fld.lneLaneStat_LOL 0 else b) b

/-- A host link's training reports its state (R95), with LINK_DOWN when it leaves the trained states for Detect or Disabled
(R94); in Dimmed, CLKREQ_N or leaving L1 is a wake source (R399). -/
def Bridge.hostLink (b : Bridge) (ap : Nat) (l : HostLink) : Bridge :=
  if b.refMissing ap l then b else
  let up := b.apTrained ap
  let b := b.put (.aptLinkEff ap) (wmk [(Fld.aptLinkEff_RATE, l.rate), (Fld.aptLinkEff_WIDTH, l.width),
    (Fld.aptLinkEff_L0P_WIDTH, l.l0pWidth), (Fld.aptLinkEff_FLIT, bit l.flit), (Fld.aptLinkEff_SRIS, bit l.sris),
    (Fld.aptLinkEff_STATE, l.state)])
  let b := b.hostLanesOn ap up
  let b := if up && (l.state = 0 || l.state = 9) then b.raise (.apt ap) 4 else b
  if b.mode = 9 && b.apTrained ap && (l.clkreq || l.state < 6) then b.startWake 1 else b

def execHostLinkStateChange (ap : Nat) (l : HostLink) (s : State) : Host.Outcome State Fault Refusal :=
  .next { s with b := if s.b.hostThere ap then (s.b.hostLink ap l).settled s.mem else s.b }

/-- The AER number of an error of the host-link layer (R90, log entry 14). -/
def HostErr.aerNum : HostErr → Nat
  | .receiverError => 64
  | .badTlp => 64 + 6
  | .badDllp => 64 + 7
  | .replayRollover => 64 + 8
  | .replayTimeout => 64 + 12
  | .dataLinkProtocol => 4
  | .flowControl => 13
  | .receiverOverflow => 17
  | .malformedTlp => 18
  | .ecrc _ => aerEcrc

/-- An error of the host-link layer is reported in PF0, an ECRC error in its function (R90). -/
def execHostLinkError (ap : Nat) (e : HostErr) (s : State) : Host.Outcome State Fault Refusal :=
  .next { s with b :=
    if s.b.hostThere ap then s.b.aer ap (match e with | .ecrc fn => fn | _ => 0) (HostErr.aerNum e) else s.b }

end Sys2Proof.Machine
end

