-- ==== Sys2Proof/Machine/LogbookCmds.lean ====
section
/-!
DEFINITION. The logbook commands (R240 to R266): port accesses, consumer commands, stall and unread timeouts, spill and
refill.
-/
namespace Sys2Proof.Machine

open Sys2Proof

/-- The wake source that a port access from a face is (R399). -/
def portWake : PortSrc → Nat
  | .meridian .. => 2
  | .transit _ => 3
  | _ => 1

/-- A port access by mode: the bridge's own and the finders' go ahead, others are served as their face is (R396, R402). -/
def Bridge.portGate (b : Bridge) (i : Instr) (s : PortSrc) (serve : Bridge → Bridge) : Bridge :=
  match s with
  | .bridge | .finder _ => if b.mode < 4 || b.mode = 11 then b else serve b
  | _ => b.gate i (portWake s) serve

/-- Whether a VF's port page takes accesses now (R74, R87). -/
def Bridge.portOpen (b : Bridge) (p : PortSel) : Bool :=
  match p.src with
  | .vf ap vf => b.fnAnswers ap vf && vf ≠ 0
  | _ => true

/-- A write that reaches queue `q`: a producer's waits for a spill, and any behind an earlier one of its source that does (R129,
R257). -/
def Bridge.portTake (b : Bridge) (p : PortSel) (q off : Nat) (d : List Byte) : Bridge :=
  let x := b.queue q
  let who := portSelWho p
  if (off < 0x188 && x.tailHeld) || x.blocked.any (fun w => w.src = p.src) then
    b.putQueue q { x with blocked := x.blocked ++ [⟨who, off, d.map some, none, p.src⟩] }
  else
    let (b, ok) := b.portWrite q off (d.map some) who
    b.portAnswer p.src ok (who.base + off)

/-- Command `i` writes to a port at page offset `off`; it waits for the queue's domains (R26). A slot beyond the instance's queues is
ignored and recorded (R240). -/
def Bridge.portStore (b : Bridge) (i : Instr) (p : PortSel) (off : Nat) (d : List Byte) : Bridge :=
  if !b.portOpen p then
    (match p.src with
     | .vf ap _ => b.bump (.aptFnEvents ap) Fld.aptFnEvents_DROPPED_POSTED
     | _ => b)
  else match b.portQueue p with
    | none => b.reject .log ((portSelWho p).base + off) false 4 (portSelWho p).writer (portSelWho p).vf
    | some q => b.whenOpen (queueDoms q) i (fun b => b.portTake p q off d)

/-- Append words to the open packet (R243): within the APPEND window. -/
def execAppend (p : PortSel) (bytes : List Byte) (s : State) : Host.Outcome State Fault Refusal :=
  .next { s with b := (s.b.portGate (.append p bytes) p.src (fun b => b.portStore (.append p bytes) p (p.off % 0x100) bytes)).settled s.mem }

/-- Write one closed packet through the PACKET window (R244). -/
def execPacket (p : PortSel) (bytes : List Byte) (s : State) : Host.Outcome State Fault Refusal :=
  .next { s with b := (s.b.portGate (.packet p bytes) p.src
    (fun b => b.portStore (.packet p bytes) p (0x100 + p.off % 0x80) bytes)).settled s.mem }

/-- Close the open packet (R245). -/
def execLogPortClose (p : PortSel) (s : State) : Host.Outcome State Fault Refusal :=
  .next { s with b := (s.b.portGate (.logPortClose p) p.src 
    (fun b => b.portStore (.logPortClose p) p 0x180 (List.replicate 8 0))).settled s.mem }

/-- A consumer command (R251). -/
def Bridge.portCmd (b : Bridge) (i : Instr) (p : PortSel) (cmd : Nat) : Bridge :=
  b.portGate i p.src (fun b => b.portStore i p 0x188 (bytesOfNat 8 cmd))

def execDropRest (p : PortSel) (s : State) : Host.Outcome State Fault Refusal :=
  .next { s with b := (s.b.portCmd (.dropRest p) p 1).settled s.mem }

def execSetMark (p : PortSel) (s : State) : Host.Outcome State Fault Refusal :=
  .next { s with b := (s.b.portCmd (.setMark p) p 2).settled s.mem }

def execClearMark (p : PortSel) (s : State) : Host.Outcome State Fault Refusal :=
  .next { s with b := (s.b.portCmd (.clearMark p) p 3).settled s.mem }

def execRewind (p : PortSel) (s : State) : Host.Outcome State Fault Refusal :=
  .next { s with b := (s.b.portCmd (.rewind p) p 4).settled s.mem }

def execFlush (p : PortSel) (s : State) : Host.Outcome State Fault Refusal :=
  .next { s with b := (s.b.portCmd (.flush p) p 5).settled s.mem }

/-- A CONSUME read of `len` bytes at page offset `p.off` (R250); it waits for the queue's domains (R26). -/
def Bridge.portConsume (b : Bridge) (p : PortSel) (len tag : Nat) : Bridge :=
  let x : Stalled := { src := p.src, tag := tag, job := none, pairs := len / 16, t0 := b.tick }
  if !b.portOpen p then
    (match p.src with
     | .vf ap vf => b.refuseRead ap vf tag .unsupported
     | _ => b)
  else match b.portQueue p with
    | none => b.answerPort { x with pairs := 0 } (List.replicate (len / 8) 0)
    | some q => b.whenOpen (queueDoms q) (.consume p len tag) (fun b =>
      if p.off % 8 = 0 && len % 16 = 0 && 0 < len && p.off + len ≤ 0x100 then b.consumeRead q x
      else
        let b := b.portRefused q
        match p.src with
        | .vf ap vf => b.refuseRead ap vf tag .logbookRefused
        | .hostFn ap fn => b.refuseRead ap fn tag .logbookRefused
        | s => b.portAnswerRefused s ((portSelWho p).base + p.off))

def execConsume (p : PortSel) (len tag : Nat) (s : State) : Host.Outcome State Fault Refusal :=
  .next { s with b := (s.b.portGate (.consume p len tag) p.src (fun b => b.portConsume p len tag)).settled s.mem }

/-- The stall limit of the oldest waiting CONSUME read of queue `q` has passed: it returns what is there, PENDING when closed
words wait in the archive (R250, R256). -/
def Bridge.stallExpire (b : Bridge) (q : Nat) : Bridge :=
  match (b.queue q).stalled with
  | [] => b
  | x :: rest =>
    if b.tick < x.t0 + b.get (.logQGeom q) Fld.logQGeom_STALL then b
    else (b.putQueue q { b.queue q with stalled := rest }).serveConsume q x

def execConsumeStallExpire (q : Nat) (s : State) : Host.Outcome State Fault Refusal :=
  .next { s with b := if s.b.mode = 11 then s.b else (s.b.stallExpire q).settled s.mem }

/-- An unread window has ended with closed data unread (R259); a vector to be sent wakes a Dimmed bridge (R399). -/
def Bridge.unreadExpire (b : Bridge) (q : Nat) : Bridge :=
  let due := b.unreadDue q && b.get (.logQIrq q) Fld.logQIrq_ON_UNREAD = 1
  let b := b.unreadFire q
  if due then b.startWake 6 else b

def execUnreadTimeout (q : Nat) (s : State) : Host.Outcome State Fault Refusal :=
  .next { s with b := if s.b.mode < 4 || s.b.mode = 11 then s.b else (s.b.unreadExpire q).settled s.mem }

end Sys2Proof.Machine
end

