-- ==== Sys2Proof/Machine/ChannelCmds.lean ====
section
/-!
DEFINITION. The commands of channels and finders (R153 to R195): shadow writes, channel commands, taking, stealing, the
segment watchdog, escalation; the guide's view of doorbells (R203, R204).
-/
namespace Sys2Proof.Machine

open Sys2Proof

/-! Access. -/

/-- A channel access by where it comes from: a VF's through its host link, or a control-space write (R153, R154, R183). -/
def Bridge.chanGate (b : Bridge) (i : Instr) (s : ChanSel) (serve : Bridge → Bridge) : Bridge :=
  match s with
  | .slot ap vf _ => b.hostGate i ap (fun b =>
      if vf ≠ 0 && b.fnAnswers ap vf then serve b else b.bump (.aptFnEvents ap) Fld.aptFnEvents_DROPPED_POSTED)
  | .chan w c => b.ctlGate i w (0x720000 + 8 * c) serve

/-- Whether the writer may act on a channel (R183): a VF on its own slots. -/
def Bridge.chanAllowed (b : Bridge) (s : ChanSel) (c : Nat) : Bool :=
  match s with
  | .slot .. => true
  | .chan w _ => b.authorised w (.fndChCmd c)

/-- The guide sees a doorbell of dome `d` (R203, R204): HIT when the guide opened the dome, LATE when it is not open. -/
def Bridge.doorbell (b : Bridge) (d : Nat) : Bridge :=
  if !b.guideOn d then b else
  let g := b.guide d
  let cfg := fun (f : Fld) => b.get (.dspGuideCfg d) f
  let g' := g.ring b.tick (cfg Fld.dspGuideCfg_WINDOW_LOG2) (cfg Fld.dspGuideCfg_THRESHOLD) (cfg Fld.dspGuideCfg_LEAD)
  let b := if b.domState d ≠ 2 then (b.bump (.dspGuideStat d) Fld.dspGuideStat_LATE).raise .dsp 2
    else if g.openedByGuide then b.bump (.dspGuideStat d) Fld.dspGuideStat_HITS else b
  ({ b with eng := { b.eng with guides := alPut d g' b.eng.guides } }).openDom d

/-! Shadow writes and commands. -/

/-- The domain of the channel store that holds a channel (R403). -/
def chanDom (c : Nat) : Nat := 87 + c / 4096

/-- The domains that a write of a register needs open (R403): the channel store's. -/
def Reg.storeDoms : Reg → List Nat
  | .fndShadow c _ | .fndChCmd c | .fndChCtrl c => [chanDom c]
  | _ => []

/-- A write of shadow word `w` (R153 to R155, R159): EMPTY becomes LOADED; an ARMED or AUTOLOADING shadow refuses.
Reserved bits take no write (R452). -/
def Bridge.shadowWrite (b : Bridge) (s : ChanSel) (w : Nat) (v : Word) : Bridge :=
  match b.chanOf s with
  | none => b.rejectChan s (8 * w) (0x800000 + 8 * w) 4
  | some c =>
    let off := 0x800000 + 0x80 * c + 8 * w
    if !b.chanAllowed s c then b.rejectChan s (8 * w) off 5
    else if 2 ≤ b.chShadow c then b.rejectChan s (8 * w) off 10
    else
      let v := (Reg.fndShadow c w).stored (b.raw (.fndShadow c w)) v true true
      let b := (b.put (.fndShadow c w) v).set (.fndChStatus c) Fld.fndChStatus_HOPS 0
      if b.chShadow c = 0 then b.setShadow c 1 else b

/-- Serve an access to a channel once the channel store's domain is open (R26, R403). -/
def Bridge.chanOpen (b : Bridge) (i : Instr) (s : ChanSel) (serve : Bridge → Bridge) : Bridge :=
  match b.chanOf s with
  | none => serve b
  | some c => b.whenOpen [chanDom c] i serve

def execShadowWrite (c : ChanSel) (w : Nat) (value : Word) (s : State) : Host.Outcome State Fault Refusal :=
  .next { s with b := (s.b.chanGate (.shadowWrite c w value) c (fun b => b.chanOpen (.shadowWrite c w value) c (fun b =>
    if w < 8 then b.shadowWrite c w value else b))).settled s.mem }

/-- A command to channel `c` is ignored and recorded: its state forbids it (R455). -/
def Bridge.chanState (b : Bridge) (s : ChanSel) (c : Nat) : Bridge := b.rejectChan s 0x40 (0x720000 + 8 * c) 10

/-- Whether the instance of a channel is being reset, so that it takes no doorbell (R226). -/
def Bridge.chanResets (b : Bridge) (c : Nat) : Bool :=
  match b.chanOwner c with | some v => 1 < b.viState v | none => false

/-- ARM (R158 to R160): the doorbell. An ARMED shadow changes nothing. While its instance is being reset the channel takes none (R226);
the command is recorded (log entry 120). -/
def Bridge.armCmd (b : Bridge) (s : ChanSel) (c : Nat) : Bridge :=
  if b.chanResets c then b.chanState s c else
  let b := b.doorbell (b.get (.fndChCtrl c) Fld.fndChCtrl_HOME_DOME)
  if b.chShadow c = 2 then b.chanState s c else b.armChan c

/-- DISARM (R159, R160): one that finds no ARMED shadow, as after a promotion, is ignored and recorded (log entry 120). -/
def Bridge.disarmCmd (b : Bridge) (s : ChanSel) (c : Nat) : Bridge :=
  if b.chShadow c = 2 then b.setShadow c 1 else b.chanState s c

/-- Whether a channel HALTED by WATCHDOG has had no recovery command for WEDGE_MS, under policy 2 (R230). -/
def Bridge.wedged (b : Bridge) (c v : Nat) : Bool :=
  let x := b.chan c
  b.chState c = 2 && b.get (.fndChFaultInfo c) Fld.fndChFaultInfo_CAUSE = Cause.watchdog.code && x.held.isNone &&
    b.get (.viCtrl v) Fld.viCtrl_SELF_POLICY = 2 && x.haltTick + 50000 * b.get (.viCtrl v) Fld.viCtrl_WEDGE_MS ≤ b.tick

/-- Escalation (R230): the instance of a wedged channel is reset. -/
def Bridge.escalate (b : Bridge) (c : Nat) : Bridge :=
  match b.chanOwner c with
  | some v => if b.wedged c v then ((b.startReset v 4 none).raise .vi 3).reportReset v 4 else b
  | none => b

/-- A recovery command (R180): ignored and recorded unless the channel is HALTED; held until the channel is QUIET. ABORT
disarms an ARMED shadow. One that comes when the channel's window of R230 has ended is too late: the instance is reset. -/
def Bridge.recover (b : Bridge) (s : ChanSel) (c v cmd : Nat) : Bridge :=
  if b.wedged c v then (b.escalate c).chanState s c
  else if b.chState c ≠ 2 then b.chanState s c
  else if b.quiet c then b.applyRecovery c v cmd
  else b.putChan { b.chan c with held := some cmd }

/-- A channel command by number (R183): 1 ARM, 2 DISARM, 3 RESUME, 4 SKIP, 5 ABORT. HOPS restarts (R162). -/
def Bridge.chanAct (b : Bridge) (s : ChanSel) (c cmd : Nat) : Bridge :=
  let b := b.set (.fndChStatus c) Fld.fndChStatus_HOPS 0
  match cmd with
  | 1 => b.armCmd s c
  | 2 => b.disarmCmd s c
  | n => b.recover s c ((b.chanOwner c).getD 0) n

/-- A write to a channel command: its effect, or a rejection at the command register. -/
def Bridge.chanCmd (b : Bridge) (i : Instr) (s : ChanSel) (cmd : Nat) : Bridge :=
  b.chanGate i s (fun b => b.chanOpen i s (fun b =>
    match b.chanOf s with
    | none => b.rejectChan s 0x40 0x720000 4
    | some c => if b.chanAllowed s c then b.chanAct s c cmd else b.rejectChan s 0x40 (0x720000 + 8 * c) 5))

def execArm (c : ChanSel) (s : State) : Host.Outcome State Fault Refusal :=
  .next { s with b := (s.b.chanCmd (.arm c) c 1).settled s.mem }

def execDisarm (c : ChanSel) (s : State) : Host.Outcome State Fault Refusal :=
  .next { s with b := (s.b.chanCmd (.disarm c) c 2).settled s.mem }

def execResume (c : ChanSel) (s : State) : Host.Outcome State Fault Refusal :=
  .next { s with b := (s.b.chanCmd (.resume c) c 3).settled s.mem }

def execSkip (c : ChanSel) (s : State) : Host.Outcome State Fault Refusal :=
  .next { s with b := (s.b.chanCmd (.skip c) c 4).settled s.mem }

def execAbort (c : ChanSel) (s : State) : Host.Outcome State Fault Refusal :=
  .next { s with b := (s.b.chanCmd (.abort c) c 5).settled s.mem }

/-- A channel has become QUIET: a recovery command that was held is applied (R180). -/
def execChannelQuiet (c : Nat) (s : State) : Host.Outcome State Fault Refusal :=
  let b := s.b
  .next { s with b := match (b.chan c).held, b.chanOwner c with
    | some cmd, some v => if b.mode ≠ 11 && b.chState c = 2 && b.quiet c then (b.applyRecovery c v cmd).settled s.mem else b
    | _, _ => b }

/-! Run lists and finders. -/

/-- Room on a dome's run list: waiting channels place one segment each, in turn (R188). -/
def execRunlistPlace (d : Nat) (s : State) : Host.Outcome State Fault Refusal :=
  .next { s with b := if s.b.mode < 4 || 10 ≤ s.b.mode then s.b else (s.b.placeDome d 513).settled s.mem }

/-- Whether a finder may take more: its dome is open, it holds fewer than DEPTH segments, and the mode lets segments run. -/
def Bridge.finderFree (b : Bridge) (f : Nat) : Bool :=
  f < 8 * b.part.domes && b.domState (f / 8) = 2 && 4 ≤ b.mode && b.mode ≤ 10 && b.mode ≠ 9 &&
    (b.activeOn f).length < b.get (.dspDomeCfg (f / 8)) Fld.dspDomeCfg_DEPTH

/-- Segments of its own dome's list that a finder may take. -/
def Bridge.ownWork (b : Bridge) (f : Nat) : List (Nat × Seg) := (b.runList (f / 8)).filter (fun p => b.mayTake f p)

/-- The segments of a run list that the test for a steal counts: none while every one is pinned (R193). -/
def Bridge.stealCount (b : Bridge) (d : Nat) : Nat :=
  let l := b.runList d
  if l.all (fun p => p.2.pinned) then 0 else l.length

/-- A finder acts in a fabric cycle, `code` being its number for a take from its own list and 256 more for a probe: in the cycle of
the act before it where it comes after that in the order of R192 and R194, in the same tick; else a new cycle begins, for whose
steals every list is counted as it stands (R194; log entry 121). -/
def Bridge.inCycle (b : Bridge) (code : Nat) : Bridge :=
  let c := b.eng.cycle
  let c : TakeCycle := if c.tick = b.tick && c.last < code then { c with last := code }
    else ⟨b.tick, code, (List.range b.part.domes).map (fun d => (d, b.stealCount d)), []⟩
  { b with eng := { b.eng with cycle := c } }

/-- A finder takes the best waiting segment of its own dome's list; its clock runs from then on (R189, R192). -/
def execSegmentTake (f : Nat) (s : State) : Host.Outcome State Fault Refusal :=
  let b := s.b
  .next { s with b :=
    if !b.finderFree f then b else
    match bestSeg true (b.ownWork f) with
    | none => b
    | some p => (((b.inCycle f).putFinder { b.finder f with clocked := true, probe := 0 }).take f p).settled s.mem }

/-- Whether the affinities of two domes match (R193). -/
def Bridge.affine (b : Bridge) (d e : Nat) : Bool :=
  let g := fun (n : Nat) (f : Fld) => b.get (.dspDomeCfg n) f
  (g d Fld.dspDomeCfg_APT_AFF_EN = 1 && g e Fld.dspDomeCfg_APT_AFF_EN = 1 && g d Fld.dspDomeCfg_APT_AFF = g e Fld.dspDomeCfg_APT_AFF) ||
    (g d Fld.dspDomeCfg_MER_AFF_EN = 1 && g e Fld.dspDomeCfg_MER_AFF_EN = 1 && g d Fld.dspDomeCfg_MER_AFF = g e Fld.dspDomeCfg_MER_AFF)

/-- The domes that a finder of dome `h` visits, in order (R193): first those whose affinity matches, then the rest, each from
h + 1 on, modulo 32; fused and never-open domes are skipped (R404). -/
def Bridge.visits (b : Bridge) (h : Nat) : List Nat :=
  let l := ((List.range 31).map (fun i => (h + 1 + i) % 32)).filter
    (fun d => d < b.part.domes && b.get (.pwrDomPol d) Fld.pwrDomPol_POLICY ≠ 3)
  l.filter (b.affine h) ++ l.filter (fun d => !b.affine h d)

/-- The segment that a probe of dome `d` steals (R193, R194): the list counted two with one unpinned when the cycle began, no
other finder has stolen from it in this cycle, and an unpinned segment is left, whose lookup need not wait. -/
def Bridge.stealable (b : Bridge) (d : Nat) : Option (Nat × Seg) :=
  if alGet 0 d b.eng.cycle.counts < 2 || b.eng.cycle.stolen.contains d then none
  else bestSeg false ((b.runList d).filter (fun p => !p.2.pinned && b.domsOpen (b.takeDoms p.1 p.2)))

/-- Finder `f` steals a segment from the list of dome `d`. -/
def Bridge.steal (b : Bridge) (f d : Nat) (p : Nat × Seg) : Bridge :=
  let b := (b.bump (.dspDomeStat d) Fld.dspDomeStat_STOLEN_FROM).bump (.dspDomeStat (f / 8)) Fld.dspDomeStat_STOLEN_BY
  ({ b with eng := { b.eng with cycle := { b.eng.cycle with stolen := d :: b.eng.cycle.stolen } } } : Bridge).take f p

/-- A clocked finder with nothing to do probes dome `d`, the next that it visits (R193, R194): it steals there or goes on to the
next. -/
def execStealProbe (f d : Nat) (s : State) : Host.Outcome State Fault Refusal :=
  let b := s.b
  let x := b.finder f
  let vs := b.visits (f / 8)
  .next { s with b :=
    if !(b.finderFree f && x.clocked && (b.activeOn f).isEmpty && (b.ownWork f).isEmpty && vs[x.probe % max 1 vs.length]? = some d) then b
    else
      let b := b.inCycle (256 + f)
      match b.stealable d with
      | some p => ((b.putFinder { x with probe := 0 }).steal f d p).settled s.mem
      | none => b.putFinder { x with probe := (x.probe + 1) % vs.length } }

/-- A finder that has held no segment for GATE_IDLE fabric cycles, 60 to a tick, is clock-gated (R407). -/
def execFinderClockGate (f : Nat) (s : State) : Host.Outcome State Fault Refusal :=
  let b := s.b
  let x := b.finder f
  let due := x.clocked && (b.activeOn f).isEmpty && (b.ownWork f).isEmpty &&
    60 * x.idleSince + b.get (.pwrDomeClk (f / 8)) Fld.pwrDomeClk_GATE_IDLE ≤ 60 * b.tick
  .next { s with b := if due then b.putFinder { x with clocked := false, probe := 0 } else b }

/-! The segment watchdog (R179). -/

/-- Requests of a segment that stand anywhere, oldest first. -/
def Bridge.segJobs (b : Bridge) (p : Job → Bool) : List Job := sortBy (·.id) (b.jobs.filter p)

/-- Abandon the reads that `p` selects (R179): ledger entries and Meridian tags are quarantined, reads not yet sent go. -/
def Bridge.abandonReads (b : Bridge) (p : Job → Bool) : Bridge :=
  let q := fun (j : Job) => p j && !j.op.isWrite
  let b := (b.dropJobs q).quarantineLedger (fun e => q e.job)
  { b with eng := { b.eng with merTags := b.eng.merTags.map (fun t =>
      if !t.quarantined && q t.job then { t with quarantined := true, until_ := b.tick + b.ladder 4 } else t) } }

/-- What the watchdog latches for a segment: direction, whether an index-table read, side address, generation. -/
def Bridge.watchdogLatch (b : Bridge) (c : Nat) (s : Seg) : Nat × Bool × Word × Nat :=
  let js := b.segJobs (fun j => j.origin.ofSeg c (fun i => i = s.idx))
  let tab := fun (n : Nat) => b.raw (.fndActive c 4) + BitVec.ofNat 64 (4 * n)
  let flush := fun (j : Job) => match j.origin with | .segFlush _ _ side => some side | _ => none
  let at_ := fun (w : Bool) (j : Job) => match j.origin with
    | .seg _ _ off => b.sideWord c s w (off + (j.off - j.lo))
    | _ => b.sideWord c s w s.off
  match js.find? (fun j => !j.op.isWrite && (flush j).isNone) with
  | some j => match j.origin with
    | .table _ _ first => (0, true, tab first + BitVec.ofNat 64 (j.off - j.lo), j.entry.2)
    | _ => (0, false, at_ false j, j.entry.2)
  | none =>
    if s.next < s.off + s.len then
      let needTable := b.indexed c && s.table.length ≤ s.next / b.elemSize c
      (0, needTable, if needTable then tab s.table.length else b.sideWord c s false s.next, 0)
    else match js.findSome? (fun j => (flush j).map (fun side => (side, j.entry.2))) with
      | some (side, g) => (1, false, side, g)
      | none =>
        if (b.chan c).barrier.isSome then (1, false, b.sideWord c s true 0, 0)
        else match js.find? (fun j => j.op.isWrite) with
          | some j => (1, false, at_ true j, j.entry.2)
          | none => (1, false, b.sideWord c s true (s.off + s.written), 0)

/-- The segment watchdog runs out (R179): the segment fails with cause WATCHDOG and its reads are abandoned, and what still comes of
them is not taken. For a channel whose autoload's descriptor read is outstanding it ends that read (R163). -/
def Bridge.watchdog (b : Bridge) (c i : Nat) : Bridge :=
  match b.seg c i with
  | some s =>
    if !s.taken then b
    else if b.tick < s.lastBeat + b.ladder 9 then b
    else
      let l := b.watchdogLatch c s
      ((b.abandonReads (fun j => j.origin.ofSeg c (fun n => n = i))).raise .fnd 3).failSeg c i l.1 .watchdog l.2.2.1 l.2.2.2 l.2.1
  | none =>
    let x := b.chan c
    if !x.loading || b.tick < x.loadTick + b.ladder 9 then b else
    let desc := fun (j : Job) => j.origin = .descriptor c
    let gen := match b.segJobs desc with | j :: _ => j.entry.2 | [] => 0
    (((b.abandonReads desc).raise .fnd 3).setShadow c 1).loadFailed c .watchdog gen

def execSegmentWatchdogExpire (c seg : Nat) (s : State) : Host.Outcome State Fault Refusal :=
  .next { s with b := if s.b.mode = 11 then s.b else (s.b.watchdog c seg).settled s.mem }

/-! Escalation (R230). -/

def execWedgeEscalation (c : Nat) (s : State) : Host.Outcome State Fault Refusal :=
  .next { s with b := if s.b.mode = 11 then s.b else (s.b.escalate c).settled s.mem }

end Sys2Proof.Machine
end

