-- ==== Sys2Proof/Machine/Scheduler.lean ====
section
/-!
DEFINITION. Host-link dispatch: schedules, round robin, token buckets, swaps (R196 to R202), the guide's openings (R204),
and the issue of a dispatched request (R21, R81, R82, R128 to R136).
-/
namespace Sys2Proof.Machine

open Sys2Proof

/-! Requests that wait for dispatch. -/

/-- Bytes that a request is charged (R199). -/
def Job.charge (j : Job) : Nat :=
  match j.op with
  | .read n => n
  | .write d _ => if j.origin.isMessage then 0 else d.length
  | _ => 0

/-- Whether a request goes to the host (R196). -/
def Job.toHost (j : Job) : Bool := j.op.isWrite

/-- Number of a direction: 0 to-host, 1 from-host. -/
def dirNum : Dir → Nat
  | .toHost => 0
  | .fromHost => 1

/-- Whether nothing before a request in the waiting list holds it: requests of one source on one path keep their order; a
message follows every earlier write of its Aperture, a flushing read the writes of its path (R21, R129, R131, R136). -/
def Bridge.reqFirst (b : Bridge) (j : Job) : Bool :=
  !b.acquiring j.src 4 j.port &&
  (b.reqs.takeWhile (fun i => i.id ≠ j.id)).all (fun i => i.port ≠ j.port || !(
    i.src = j.src ||
    (j.origin.isMessage && i.toHost) ||
    (j.op = .flush && i.toHost && i.fn = j.fn && i.pasid = j.pasid)))

/-- The bucket word in force: the old one while a change waits (R202). -/
def Bridge.bucketWord (b : Bridge) (v x : Nat) : Word := (b.bucket v x).pend.getD (b.raw (.dspViBucket v x))

/-- Whether a request's bucket holds its charge; the director class has no bucket (R197 to R201). -/
def Bridge.bucketOk (b : Bridge) (j : Job) : Bool :=
  match j.owner with
  | some v =>
    let x := if j.toHost then 0 else 1
    j.director || wget (b.bucketWord v x) Fld.dspViBucket_RATE = 0 || j.charge * 2 ^ 24 ≤ (b.bucket v x).fill
  | none => true

/-- Whether a request is eligible on its Aperture (R197). -/
def Bridge.eligible (b : Bridge) (j : Job) : Bool :=
  b.reqFirst j && b.bucketOk j && (j.toHost || (b.ledgerRoom j && (b.ledgerFree j).isSome))

/-- The eligible requests of an Aperture and direction, in order of arrival. -/
def Bridge.eligibles (b : Bridge) (a x : Nat) : List Job :=
  b.reqs.filter (fun j => j.port = a && (if j.toHost then 0 else 1) = x && b.eligible j)

/-- The class of a request: 0 the director class, v + 1 instance v (R198). -/
def Job.cls_ (j : Job) : Nat := if j.director then 0 else match j.owner with | some v => v + 1 | none => 0

/-! The round robin (R198). -/

/-- The weight in force of a class: the director's, or the instance's, the old one while a change waits (R202). -/
def Bridge.weight (b : Bridge) (a x k : Nat) : Nat :=
  if k = 0 then b.get (.dspAptCfg a) Fld.dspAptCfg_DIR_WEIGHT
  else wget (alGet (b.raw (.dspViShare (k - 1))) (2 * (k - 1) + x) b.eng.sharePend) Fld.dspViShare_WEIGHT

/-- A class's deficit. -/
def Sched.deficit (s : Sched) (k : Nat) : Nat := if k = 0 then s.dirDeficit else alGet 0 (k - 1) s.deficits

/-- Set a class's deficit. -/
def Sched.setDeficit (s : Sched) (k n : Nat) : Sched :=
  if k = 0 then { s with dirDeficit := n } else { s with deficits := alPut (k - 1) n s.deficits }

/-- Give the turn to the next class, whose deficit grows by its quantum. -/
def Bridge.nextTurn (b : Bridge) (a x : Nat) (classes : List Nat) (s : Sched) : Sched :=
  let k := ((classes.find? (fun c => s.turn < c)).getD (classes.head?.getD 0))
  { s.setDeficit k (s.deficit k + 512 * b.weight a x k) with turn := k }

/-- The weighted deficit round robin: the request dispatched, and the schedule after it. -/
def Bridge.roundRobin (b : Bridge) (a x : Nat) (classes : List Nat) (l : List Job) : Nat → Sched → Option (Job × Sched)
  | 0, _ => none
  | fuel + 1, s =>
    match l.find? (fun j => j.cls_ = s.turn) with
    | some j =>
      if j.charge ≤ s.deficit s.turn then some (j, s.setDeficit s.turn (s.deficit s.turn - j.charge))
      else Bridge.roundRobin b a x classes l fuel (b.nextTurn a x classes s)
    | none => Bridge.roundRobin b a x classes l fuel (b.nextTurn a x classes (s.setDeficit s.turn 0))

/-- The slot word at a pointer of an active schedule (R208). -/
def Bridge.slotWord (b : Bridge) (y p : Nat) : Nat := wget (b.raw (.dspSchedActive y (p / 4))) ⟨16 * (p % 4), 16⟩

/-- Serve the slot at the pointer (R197). -/
def Bridge.serveSlot (b : Bridge) (a x : Nat) (l : List Job) : Option (Job × Sched) :=
  let s := b.sched (2 * a + x)
  let w := b.slotWord (2 * a + x) s.pointer
  let classes := 0 :: (b.visOf a).map (· + 1)
  let open_ := b.roundRobin a x classes l (16 * (classes.length + 1)) s
  match w / 2 ^ 14 with
  | 1 => match l.find? (fun j => j.cls_ = w % 2048 + 1) with | some j => some (j, s) | none => open_
  | 2 => match l.find? (fun j => j.cls_ = 0) with | some j => some (j, s) | none => open_
  | _ => open_

/-! The end of a revolution (R200, R202). -/

/-- The pending bit of schedule `y`, and the command that asks for its swap. -/
def pendFld (y : Nat) : Fld := if y % 2 = 0 then Fld.dspSchedCmd_PEND_TO else Fld.dspSchedCmd_PEND_FROM
def swapInstr (y : Nat) : Instr := if y % 2 = 0 then .swapTo .svc (y / 2) else .swapFrom .svc (y / 2)

/-- A swap is pending (R200). -/
def Bridge.pendSwap (b : Bridge) (a x : Nat) : Bridge := b.set (.dspSchedCmd a) (pendFld x) 1

/-- The delta record of a swap: a schedules section of one record, that of the shadow (R30, R208, R491). -/
def Bridge.schedDelta (b : Bridge) (y : Nat) : DeltaRec :=
  .sect 0x0103 (wbytes (wmk [(⟨0, 16⟩, 2056), (⟨16, 32⟩, 1)]) ++ [BitVec.ofNat 8 (y / 2), BitVec.ofNat 8 (y % 2)] ++
    List.replicate 6 0 ++ bytesOfWords ((List.range 256).map (fun w => b.raw (.dspSchedShadow y w))))

/-- Swap the copies of a schedule; the shadow keeps what is now the active schedule, and the swap's delta record keeps it
(R200, R208). -/
def Bridge.swap (b : Bridge) (y : Nat) : Bridge :=
  let b := (List.range 256).foldl (fun (b : Bridge) w => b.put (.dspSchedActive y w) (b.raw (.dspSchedShadow y w))) b
  ((b.set (.dspSchedCmd (y / 2)) (pendFld y) 0).raise .dsp 0).appendDelta (b.schedDelta y)

/-- Whether a pending swap still waits for the partner's ACK (R25). -/
def Bridge.swapWaits (b : Bridge) (y : Nat) : Bool :=
  b.eng.pair.outgoing.any (fun x => x.action = some (swapInstr y)) || b.eng.pair.queued.any (fun x => x.2 = some (swapInstr y))

/-- Share changes that wait apply (R202): weights, rates and depths; a fill above a new depth is clamped. -/
def Bridge.applyShares (b : Bridge) (a x : Nat) : Bridge :=
  (b.visOf a).foldl (fun (b : Bridge) v =>
    let k := b.bucket v x
    let depth := b.get (.dspViBucket v x) Fld.dspViBucket_DEPTH_KIB * 1024 * 2 ^ 24
    let bs := if k.pend.isSome then alPut (2 * v + x) (⟨min k.fill depth, none⟩ : Bucket) b.eng.buckets else b.eng.buckets
    { b with eng := { b.eng with buckets := bs, sharePend := b.eng.sharePend.filter (fun p => p.1 ≠ 2 * v + x) } }) b

/-- Advance the pointer after a dispatch; slot 1,023's ends the revolution. -/
def Bridge.advance (b : Bridge) (y : Nat) (s : Sched) : Bridge :=
  let p := (s.pointer + 1) % 1024
  let b := b.putSched y { s with pointer := p }
  if p ≠ 0 then b else
  let cmd := Reg.dspSchedCmd (y / 2)
  let b := b.inc cmd (if y % 2 = 0 then Fld.dspSchedCmd_REV_TO else Fld.dspSchedCmd_REV_FROM)
  let b := if b.get cmd (pendFld y) = 1 && !b.swapWaits y then b.swap y else b
  b.applyShares (y / 2) (y % 2)

/-! Issuing. -/

/-- Deduct a dispatch's charge from its bucket (R201). -/
def Bridge.chargeBucket (b : Bridge) (j : Job) : Bridge :=
  match j.owner with
  | some v =>
    let x := if j.toHost then 0 else 1
    if j.director || j.charge = 0 || wget (b.bucketWord v x) Fld.dspViBucket_RATE = 0 then b else
    let k := b.bucket v x
    { b with eng := { b.eng with buckets := alPut (2 * v + x) { k with fill := k.fill - j.charge * 2 ^ 24 } b.eng.buckets } }
  | none => b

/-- A request as it leaves: its function's enables decide over relaxed ordering, PASID, steering tag and ECRC (R63, R66, R108,
R157). No source asks for ID-based ordering. It is stamped with its place in the order of issue (R21). -/
def Bridge.atIssue (b : Bridge) (j : Job) : Job :=
  let on := fun (fn : Nat) (f : CfgField) => b.cfgGet j.port fn f = 1
  { j with
    sent := b.nextId, ro := j.ro && on j.fn .roEnable, pasid := if on 0 .pasidEnable then j.pasid else none
    steer := if on j.fn .tphEnable then j.steer else none, ecrc := on j.fn .ecrcGenEnable }

/-- Issue a request on its host link: a message goes out; a write stays unacknowledged until a flushing read proves it; a
read or flushing read takes a ledger entry (R21, R77, R82). A flushing read belongs to the path of its writes, with whatever PASID
it leaves. -/
def Bridge.issueHost (b : Bridge) (r : Job) : Bridge :=
  let b := ({ b with reqs := b.reqs.filter (fun i => i.id ≠ r.id) }).chargeBucket r
  let j := b.atIssue r
  let b := b.fresh.2
  match j.origin, j.op with
  | .message v, .write d _ => b.emit (.message j.port j.fn v j.addr (natOfBytes (d.map (·.getD 0))))
  | _, .write .. =>
    let b := { b with proving := b.proving ++ [j] }.freePb j.id
    (b.emit (.hostReq j.port j.fn 0 j)).finish j (.ok [] false)
  | _, _ =>
    let i := (b.ledgerFree j).getD 0
    let f := match j.src with | .finder f => some f | _ => none
    let e : LedgerEntry := { idx := i, ap := j.port, quarantined := false, until_ := 0, finder := f, job := j, issued := b.tick,
                             got := [], bad := false }
    let e := if j.op = .flush then { e with job := { j with pasid := r.pasid } } else e
    let b := { b with ledger := b.ledger ++ [e] }
    let b := b.set (.aptLedgerUse j.port) Fld.aptLedgerUse_PEAK
      (max (b.get (.aptLedgerUse j.port) Fld.aptLedgerUse_PEAK) (b.ledgerHeld (fun x => x.ap = j.port)))
    b.emit (.hostReq j.port j.fn (b.ledgerTag j.port i) j)

/-- Requests that their function may no longer issue fail with "master disabled", messages go back to pending; a posted
write of the host is delivered all the same (R80, R86). -/
def Bridge.dropBarred (b : Bridge) (a : Nat) : Bridge :=
  let barred := fun (j : Job) => j.port = a && j.origin ≠ .hostWrite && !b.canIssue a j.fn
  (b.reqs.filter barred).foldl (fun (b : Bridge) j =>
    match j.origin with
    | .message v => { b with pendVec := if b.pendVec.contains ⟨a, j.fn, v⟩ then b.pendVec else b.pendVec ++ [⟨a, j.fn, v⟩] }
    | _ => b.finish j (.err .masterDisabled)) { b with reqs := b.reqs.filter (fun j => !barred j) }

/-- A read that waits while the ledger's first bank is full opens its second (R403). -/
def Bridge.openLedger (b : Bridge) (a : Nat) : Bridge :=
  if b.reqs.any (fun j => j.port = a && !j.toHost && (b.ledgerFree j).isNone) && 8192 ≤ (b.ledger.filter (fun e => e.idx < 8192)).length
  then b.openDom 86 else b

/-- One dispatch of an Aperture's direction (R196): nothing moves while the dispatcher's or the Aperture's domain is closed, or when no
request is eligible (R12, R26). -/
def Bridge.dispatch (b : Bridge) (a x : Nat) : Bridge :=
  let b := (b.dropBarred a).openLedger a
  if !b.apTrained a || !b.domsOpen [93, 50 + a] then b else
  match b.serveSlot a x (b.eligibles a x) with
  | none => b
  | some (j, s) => (b.issueHost j).advance (2 * a + x) s

/-- Modes in which the bridge issues requests on its faces: the serving modes and Service. -/
def Bridge.issues (b : Bridge) : Bool := 4 ≤ b.mode && b.mode ≠ 9 && b.mode ≠ 11

def execDispatch (ap : Nat) (d : Dir) (s : State) : Host.Outcome State Fault Refusal :=
  .next { s with b := if s.b.issues || s.b.mode = 3 then (s.b.dispatch ap (dirNum d)).settled s.mem else s.b }

/-! Commands. -/

/-- A SWAP of a direction: PEND is set, unless it is set already (R200). In Paired mode the new schedule goes to the partner at once,
and the copies swap at the end of the first revolution after its ACK (R25, R208, R377; log entry 122). -/
def Bridge.swapCmd (b : Bridge) (a x : Nat) : Bridge :=
  let y := 2 * a + x
  if b.get (.dspSchedCmd a) (pendFld x) = 1 then b else
  let b := b.pendSwap a x
  if b.mirrors then b.mirror (.delta (b.schedDelta y)) (some (swapInstr y)) else b

/-- A SWAP command by writer `w`. -/
def Bridge.swapBy (b : Bridge) (i : Instr) (w : Writer) (a x : Nat) : Bridge :=
  let off := 0x900400 + 8 * a
  b.ctlGate i w off (fun b =>
    if 4 ≤ a then b.rejectBy w off false 4
    else if !b.authorised w (.dspSchedCmd a) then b.rejectBy w off false 5
    else if b.part.apertures ≤ a then b.rejectBy w off false 7
    else b.swapCmd a x)

def execSwapTo (w : Writer) (ap : Nat) (s : State) : Host.Outcome State Fault Refusal :=
  .next { s with b := (s.b.swapBy (.swapTo w ap) w ap 0).settled s.mem }

def execSwapFrom (w : Writer) (ap : Nat) (s : State) : Host.Outcome State Fault Refusal :=
  .next { s with b := (s.b.swapBy (.swapFrom w ap) w ap 1).settled s.mem }

/-- The guide opens a predicting dome 1.5 µs and LEAD before the predicted doorbell (R204). -/
def Bridge.guideOpen (b : Bridge) (d : Nat) : Bridge :=
  if b.guideNear d && b.domState d = 0 then
    ({ b with eng := { b.eng with guides := alPut d { b.guide d with openedByGuide := true, hit := false } b.eng.guides } }).openDom d
  else b

def execGuideOpen (d : Nat) (s : State) : Host.Outcome State Fault Refusal :=
  .next { s with b := if s.b.issues then s.b.guideOpen d else s.b }

end Sys2Proof.Machine
end

