-- ==== Sys2Proof/Machine/PairCmds.lean ====
section
/-!
DEFINITION. The pair's commands (R371 to R392) but for ACK and its timeout, which apply mirrored commands and stand in
Mirrored.lean.
-/
namespace Sys2Proof.Machine

open Sys2Proof

/-- A mirror packet is taken in the modes in which the mirror engine runs. -/
def Bridge.mirrorRx (b : Bridge) (f : Bridge → Bridge) : Bridge :=
  if !b.paired || b.mode < 4 || b.mode = 9 || b.mode = 11 || b.get (.ifvLinkStat 4) Fld.ifvLinkStat_STATE ≤ 1 then b else f b

def execHello (h : Hello) (s : State) : Host.Outcome State Fault Refusal :=
  .next { s with b := (s.b.mirrorRx (fun b => b.hello h)).settled s.mem }

def execChange (seq : Nat) (c : MirrorChange) (s : State) : Host.Outcome State Fault Refusal :=
  .next { s with b := (s.b.mirrorRx (fun b => b.change seq c)).settled s.mem }

/-- A checkpoint batch (R378, R379): pending changes up to CONFIRM are applied, the records go to the journal. -/
def Bridge.ckptRx (b : Bridge) (confirm : Nat) (l : List CkptChan) : Bridge :=
  let b := (b.applyConfirm confirm).journal (.ckpt l)
  (b.inc .ifvJournal Fld.ifvJournal_CKPT_SEQ).set .ifvJournal Fld.ifvJournal_CKPT_AGE 0

def execCkpt (confirm : Nat) (chans : List CkptChan) (s : State) : Host.Outcome State Fault Refusal :=
  .next { s with b := (s.b.mirrorRx (fun b => b.ckptRx confirm chans)).settled s.mem }

def execLogpkt (q : Nat) (words : List Word) (s : State) : Host.Outcome State Fault Refusal :=
  .next { s with b := s.b.mirrorRx (fun b => b.logpkt q words) }

def execLogptr (p : LogPtr) (s : State) : Host.Outcome State Fault Refusal :=
  .next { s with b := s.b.mirrorRx (fun b => b.journal (.ptr p)) }

/-- RESYNC_END is acknowledged; with both acknowledged the pair is Paired (R374). -/
def Bridge.resyncEndRx (b : Bridge) (seq : Nat) : Bridge :=
  let b := b.putPair { b.eng.pair with resyncGot := true }
  (b.sendAck seq 0).resyncDone

def execResyncEnd (seq : Nat) (s : State) : Host.Outcome State Fault Refusal :=
  .next { s with b := (s.b.mirrorRx (fun b => b.resyncEndRx seq)).settled s.mem }

def execRetract (seq : Nat) (s : State) : Host.Outcome State Fault Refusal :=
  .next { s with b := s.b.mirrorRx (fun b => b.retract seq) }

/-- A checkpoint batch is sent in Paired mode (R377). -/
def execCheckpointSend (s : State) : Host.Outcome State Fault Refusal :=
  .next { s with b := if s.b.mirrors then s.b.sendCheckpoint else s.b }

/-! Heartbeat, TCLK and fence (R382 to R384). -/

/-- The heartbeat is lost (R383, R384): HB_LOST while the link is up; a Dimmed bridge wakes. -/
def Bridge.hbLost (b : Bridge) : Bridge :=
  let b := b.set .ifvPairStat Fld.ifvPairStat_HB_ALIVE 0
  let b := b.putPair { b.eng.pair with hbEdges := 0 }
  let b := if b.ifvDown then b else b.raise .ifv 8
  if b.mode = 9 then b.startWake 8 else b.pairDecide

/-- Whether HB_LOSS ticks have passed since the last edge. -/
def Bridge.hbDue (b : Bridge) : Bool :=
  b.paired && b.pst Fld.ifvPairStat_HB_ALIVE = 1 && b.eng.pair.hbEdge + b.get .ifvPairCtrl Fld.ifvPairCtrl_HB_LOSS ≤ b.tick

def execHeartbeatLost (s : State) : Host.Outcome State Fault Refusal :=
  .next { s with b := if s.b.hbDue then s.b.hbLost.settled s.mem else s.b }

/-- An edge on PAIR_HB_IN (R383): one that comes at HB_LOSS comes too late; the second after a loss makes it alive. -/
def Bridge.hbEdge (b : Bridge) : Bridge :=
  if !b.paired then b else
  let b := if b.hbDue then b.hbLost else b
  let p := b.eng.pair
  let n := p.hbEdges + 1
  let b := b.putPair { p with hbEdge := b.tick, hbEdges := min n 2 }
  if b.pst Fld.ifvPairStat_HB_ALIVE = 0 && 2 ≤ n then (b.set .ifvPairStat Fld.ifvPairStat_HB_ALIVE 1).pairDecide else b

def execHeartbeatEdge (s : State) : Host.Outcome State Fault Refusal :=
  .next { s with b := if s.b.mode < 2 then s.b else s.b.hbEdge.settled s.mem }

/-- No TCLK edge for 2 µs: the slot-1 bridge of PAIR_ID 1 decides (R384); that of PAIR_ID 0, whose partner kept arbitration through a
rejoin, takes arbitration back (R316, log entry 123). -/
def execTclkNotSeen (s : State) : Host.Outcome State Fault Refusal :=
  let b := s.b
  .next { s with b := if b.paired && b.pst Fld.ifvPairStat_TCLK_SEEN = 1 && b.eng.pair.tclkEdge + 100 ≤ b.tick then
    (let b := b.set .ifvPairStat Fld.ifvPairStat_TCLK_SEEN 0
     if b.pairId = 1 then b.pairDecide
     else if b.get .trnBusCfg Fld.trnBusCfg_SLOT1 = 1 then b.takeTransit else b).settled s.mem else b }

/-- FENCE has passed (R384); before that nothing changes. -/
def execFenceExpire (s : State) : Host.Outcome State Fault Refusal :=
  let b := s.b
  .next { s with b := match b.eng.pair.fenceStart with
    | some t => if t + b.get .ifvPairCtrl Fld.ifvPairCtrl_FENCE ≤ b.tick then b.pairDecide.settled s.mem else b
    | none => b }

/-- PAIR_HB_OUT is held low. -/
def Bridge.holdHb (b : Bridge) : Bridge := b.putPair { b.eng.pair with hbHold := true, hbOut := false }

/-- Outside Dimmed, the mirror engine has not strobed the island for 10 µs (R382). -/
def execMirrorStrobeTimeout (s : State) : Host.Outcome State Fault Refusal :=
  .next { s with b := if s.b.paired && s.b.mode ≠ 9 then s.b.holdHb else s.b }

/-- The island finds that the fabric clock has stopped (R316, R382): heartbeat low, Transit outputs floated. In Dimmed and
below the clock is stopped on purpose. -/
def execFabricClockStop (s : State) : Host.Outcome State Fault Refusal :=
  .next { s with b := if s.b.mode < 2 || s.b.mode = 9 then s.b else
    { s.b.holdHb with pins := { s.b.pins with transitFloat := true } } }

/-! Commands. -/

/-- A write of IFV_PAIR_CMD by `w`. -/
def Bridge.pairCmd (b : Bridge) (i : Instr) (w : Writer) (f : Bridge → Bridge) : Bridge :=
  b.ctlGate i w 0xF00310 (fun b => if !b.authorised w .ifvPairCmd then b.rejectBy w 0xF00310 false 5 else f b)

/-- ADOPT where R384 would adopt (R387); rejected otherwise. -/
def Bridge.adoptCmd (b : Bridge) (w : Writer) : Bridge :=
  if b.wouldAdopt then b.adopt else b.rejectBy w 0xF00310 false 10

def execAdopt (w : Writer) (s : State) : Host.Outcome State Fault Refusal :=
  .next { s with b := (s.b.pairCmd (.adopt w) w (fun b => b.adoptCmd w)).settled s.mem }

def execHandback (w : Writer) (s : State) : Host.Outcome State Fault Refusal :=
  .next { s with b := (s.b.pairCmd (.handback w) w (fun b => b.handback)).settled s.mem }

end Sys2Proof.Machine
end

