-- ==== Sys2Proof/Machine/LaneCmds.lean ====
section
/-!
DEFINITION. Lanes (R324 to R343): the health detectors, micro-retrains, reference clocks and the seeing monitor; corrected
errors (R90, R435).
-/
namespace Sys2Proof.Machine

open Sys2Proof

/-- The link and lane within it that an LNE_ number names; none for host lanes and lanes of no link. -/
def Bridge.laneLink (b : Bridge) (i : Nat) : Option (Nat × Nat) :=
  if i < 32 then none else
  (List.range 5).findSome? (fun k =>
    if b.linkExists k then ((List.range (b.linkWidth k)).find? (fun n => b.linkLane k n = i)).map (fun n => (k, n)) else none)

/-- Whether a lane exists on this part. -/
def Bridge.laneThere (b : Bridge) (i : Nat) : Bool := i < 72 && !b.part.laneFused i && 2 ≤ b.mode

/-- A pause that this bridge begins or widens (R361): the PAUSE flit names the lanes. -/
def Bridge.ownPause (b : Bridge) (k n : Nat) : Bridge :=
  let m := laneGroup 1 n
  let b := if b.linkState k = 2 then b.control k 1 m else b
  b.startPause k m

/-- A pause ends when the last lane of the link is back or failed (R333). -/
def Bridge.endPause (b : Bridge) (k : Nat) : Bridge :=
  if b.linkState k = 3 && !(List.range (b.linkWidth k)).any (fun n => (b.lane (b.linkLane k n)).mrStart.isSome) then b.linkGo k
  else b

/-- A lane fails (R332): it stays failed until its link retrains, which drops it; with every active lane failed the link
goes down with LOST_SIGNAL (R366). -/
def Bridge.laneFail (b : Bridge) (i : Nat) : Bridge :=
  if b.get (.lneLaneStat i) Fld.lneLaneStat_FAILED = 1 then b else
  let b := b.set (.lneLaneStat i) Fld.lneLaneStat_FAILED 1
  let b := (b.putLane { b.lane i with losSince := none, mrStart := none }).life 25
  let b := (b.raise .lne 3).record 0x10 .lne none none (BitVec.ofNat 64 i) (b.raw (.lneLaneStat i))
  match b.laneLink i with
  | none => b
  | some (k, n) =>
    let b := b.endPause k
    let b := b.putLink { b.link k with usable := (b.link k).usable &&& ~~~ laneGroup 1 n }
    let active := (List.range (b.linkWidth k)).map (b.linkLane k) |>.filter (fun j => b.get (.lneLaneStat j) Fld.lneLaneStat_ACTIVE = 1)
    if 2 ≤ b.linkState k && active.all (fun j => b.get (.lneLaneStat j) Fld.lneLaneStat_FAILED = 1) then b.linkDown k 8
    else b.requestRetrain k

/-- A micro-retrain is requested (R332, R333): absorbed by a retrain of the whole link, failed when it exceeds MR_LIMIT in
1 ms, else the link pauses and the partial scan is discarded (R336). -/
def Bridge.microRetrain (b : Bridge) (i : Nat) : Bridge :=
  match b.laneLink i with
  | none => b
  | some (k, n) =>
    let l := b.lane i
    if (b.linkState k ≠ 2 && b.linkState k ≠ 3) || l.mrStart.isSome || b.get (.lneLaneStat i) Fld.lneLaneStat_FAILED = 1 then b
    else
      let ts := l.mrTicks.filter (fun t => b.tick < t + 50000) ++ [b.tick]
      let b := ((b.putLane { l with mrTicks := ts }).bump (.lneLaneStat i) Fld.lneLaneStat_MR_COUNT).raise .lne 2
      if b.get .lneHealthCfg Fld.lneHealthCfg_MR_LIMIT < ts.length then b.laneFail i
      else (b.putLane { b.lane i with mrStart := some b.tick }).ownPause k n

/-- A lane loses lock (R330, R332): on host lanes the condition is only counted and raised. -/
def Bridge.loseLock (b : Bridge) (i : Nat) (elastic : Bool) : Bridge :=
  let b := b.set (.lneLaneStat i) Fld.lneLaneStat_LOL 1
  let b := if elastic then b.bump (.lneLaneStat i) Fld.lneLaneStat_EB_ERR else b
  (b.raise .lne 1).microRetrain i

/-- Nominal edges of a reference input in 50,000 ticks (R326): 100 MHz, or 156.25 MHz. -/
def refNominal (k : Nat) : Nat := if k < 4 then 100000 else 156250

/-- Whether a lane carries a link that has trained. -/
def Bridge.laneTrained (b : Bridge) (i : Nat) : Bool :=
  b.get (.lneLaneStat i) Fld.lneLaneStat_ACTIVE = 1 && (match b.laneLink i with | some (l, _) => decide (2 ≤ b.linkState l) | none => decide (i < 32))

/-- A window of a reference input ends (R328): an absent input raises REFCLK, and the lanes it serves that carry a trained link and
had lock lose it. -/
def Bridge.refWindow (b : Bridge) (k count : Nat) : Bridge :=
  if 9 ≤ k || b.mode < 2 || (List.range 8).all (fun n => b.part.laneFused (8 * k + n)) then b else
  let off := if count < refNominal k then refNominal k - count else count - refNominal k
  let there : Bool := 10 * off ≤ refNominal k
  let b := b.sets (.lneRefStat k) [(Fld.lneRefStat_PRESENT, bit there), (Fld.lneRefStat_COUNT, count)]
  if there then { b with eng := { b.eng with absentRefs := b.eng.absentRefs.filter (· ≠ k) } }
  else
    let b := ({ b with eng := { b.eng with absentRefs := b.eng.absentRefs.filter (· ≠ k) ++ [k] } }).raise .lne 5
    (List.range 8).foldl (fun (b : Bridge) n =>
      let i := 8 * k + n
      if b.laneTrained i && b.get (.lneLaneStat i) Fld.lneLaneStat_LOL = 0 then b.loseLock i false else b) b

/-- Put a complete scan into a lane's front map. -/
def Lane.swapped (l : Lane) (eyes : List (List Byte)) (yields tick : Nat) : Lane :=
  { l with maps := eyes, yields := yields, scanTick := tick, mapValid := true, heldMap := none }

/-- Release the hold of a lane's swap (R338): the latest complete scan comes to the front. -/
def Bridge.releaseMap (b : Bridge) (i : Nat) : Bridge :=
  let l := { b.lane i with holdUntil := none }
  b.putLane (match l.heldMap with | some (e, y, t) => l.swapped e y t | none => l)

/-- An LNE_EYE_SEL write from `old` to the value now held (R338): HOLD 1 holds the new lane's swap; HOLD 0, or another lane,
releases the old lane's unless another bank holds it. -/
def Bridge.eyeSelHold (b : Bridge) (n : Nat) (old : Word) : Bridge :=
  let was := wget old Fld.lneEyeSel_LANE
  let now := b.get (.lneEyeSel n) Fld.lneEyeSel_LANE
  let on := b.get (.lneEyeSel n) Fld.lneEyeSel_HOLD = 1
  let others := (List.range 5).any (fun m => m ≠ n && b.get (.lneEyeSel m) Fld.lneEyeSel_HOLD = 1 &&
    b.get (.lneEyeSel m) Fld.lneEyeSel_LANE = was)
  let b := if wget old Fld.lneEyeSel_HOLD = 1 && !others && !(on && now = was) then b.releaseMap was else b
  if on then b.putLane { b.lane now with holdUntil := some (b.tick + 500000) } else b

/-- A scan of a lane is complete (R335 to R338): the maps swap or the scan is held, waiting margining commands are answered
from it (R92), and a low eye raises FLOOR and requests a micro-retrain. -/
def Bridge.scanDone (b : Bridge) (i : Nat) (eyes : List (List Byte)) (yields : Nat) : Bridge :=
  let l := b.lane i
  if !b.laneThere i || !b.part.seeing || b.get (.lneSeeCfg i) Fld.lneSeeCfg_EN = 0 || l.mrStart.isSome ||
      eyes.length ≠ b.laneEyes i then b
  else
    let fresh := l.swapped eyes yields b.tick31
    let b := l.margins.foldl (fun (b : Bridge) m => b.emit (.margin m.1 i (fresh.marginCount m.2))) b
    let b := b.putLane { (if l.holdUntil.isSome then { l with heldMap := some (eyes, yields, b.tick31) } else fresh) with
      margins := [] }
    let t := b.get (.lneSeeCfg i) Fld.lneSeeCfg_OPEN_THRESH
    if eyes.any (fun m => eyeHeight m t < b.get (.lneSeeCfg i) Fld.lneSeeCfg_HEIGHT_FLOOR) then
      (b.raise .lne 4).microRetrain i
    else b

/-! The lane commands. -/

def execLossOfLock (lane : Nat) (elastic : Bool) (s : State) : Host.Outcome State Fault Refusal :=
  .next { s with b := (if s.b.laneThere lane then s.b.loseLock lane elastic else s.b).settled s.mem }

/-- The loss-of-signal detector asserts (R332): counted once per assertion. -/
def execLossOfSignal (lane : Nat) (s : State) : Host.Outcome State Fault Refusal :=
  let b := s.b
  .next { s with b :=
    if !b.laneThere lane || b.get (.lneLaneStat lane) Fld.lneLaneStat_LOS = 1 then b else
    let b := (b.set (.lneLaneStat lane) Fld.lneLaneStat_LOS 1).bump (.lneLaneStat lane) Fld.lneLaneStat_LOS_COUNT
    (b.putLane { b.lane lane with losSince := some b.tick }).raise .lne 0 }

/-- Loss of signal has been held for LOS_TICKS (R332); on host lanes the bridge takes no action of its own. -/
def execLosHeldExpire (lane : Nat) (s : State) : Host.Outcome State Fault Refusal :=
  let b := s.b
  .next { s with b := (match (b.lane lane).losSince with
    | some t => if 32 ≤ lane && t + b.get .lneHealthCfg Fld.lneHealthCfg_LOS_TICKS ≤ b.tick then b.laneFail lane else b
    | none => b).settled s.mem }

/-- The loss-of-signal detector deasserts (R332). -/
def execLossOfSignalEnd (lane : Nat) (s : State) : Host.Outcome State Fault Refusal :=
  let b := s.b
  .next { s with b :=
    if b.laneThere lane then
      (b.set (.lneLaneStat lane) Fld.lneLaneStat_LOS 0).putLane { b.lane lane with losSince := none }
    else b }

/-- A micro-retrain has locked (R333). -/
def execMicroRetrainDone (lane : Nat) (s : State) : Host.Outcome State Fault Refusal :=
  let b := s.b
  .next { s with b := (if (b.lane lane).mrStart.isNone then b else
    let b := (b.set (.lneLaneStat lane) Fld.lneLaneStat_LOL 0).putLane { b.lane lane with mrStart := none }
    match b.laneLink lane with
    | some (k, _) => b.endPause k
    | none => b).settled s.mem }

/-- A micro-retrain has not locked within 4 µs (R332). -/
def execMicroRetrainTimeout (lane : Nat) (s : State) : Host.Outcome State Fault Refusal :=
  let b := s.b
  .next { s with b := (match (b.lane lane).mrStart with
    | some t => if t + 200 ≤ b.tick then b.laneFail lane else b
    | none => b).settled s.mem }

def execRefclkWindow (k count : Nat) (s : State) : Host.Outcome State Fault Refusal :=
  .next { s with b := (s.b.refWindow k count).settled s.mem }

def execScanComplete (lane : Nat) (eyes : List (List Byte)) (yields : Nat) (s : State) : Host.Outcome State Fault Refusal :=
  .next { s with b := (s.b.scanDone lane eyes yields).settled s.mem }

/-- HOLD has lasted 500,000 ticks (R338). -/
def execEyeHoldExpire (lane : Nat) (s : State) : Host.Outcome State Fault Refusal :=
  .next { s with b := match (s.b.lane lane).holdUntil with
    | some t => if t ≤ s.b.tick then s.b.releaseMap lane else s.b
    | none => s.b }

/-- An error was corrected by ECC (R90, R435): counted, and reported as Corrected Internal Error in PF0 of AP0. -/
def execEccCorrected (struct : Nat) (s : State) : Host.Outcome State Fault Refusal :=
  let b := (s.b.bump .fltEcc Fld.fltEcc_CORRECTED).set .fltEcc Fld.fltEcc_LAST_STRUCT struct
  .next { s with b := if s.b.mode < 2 then s.b else (b.raise .flt 2).aer 0 0 aerCorrected }

/-! The link commands of the board (R362, R366, R368). A link's quads are those of its lanes. -/

/-- The offset of a link's register. -/
def linkOff (k r : Nat) : Nat := 0xF00100 + 0x40 * k + r

/-- A command of IFV_LINK_CMD: 1 RETRAIN, 2 DOWN, 3 UP, which waits for the end of DOWN_HOLD (R366). -/
def Bridge.linkCmd (b : Bridge) (k : Nat) (cmd : Nat) : Bridge :=
  match cmd with
  | 1 => b.requestRetrain k
  | 2 => b.linkDown k 7
  | _ =>
    if b.linkState k ≠ 0 then b
    else if (b.link k).downAt = 0 || (b.link k).downAt + b.get (.ifvLinkCtrl k) Fld.ifvLinkCtrl_DOWN_HOLD ≤ b.tick then b.startTraining k
    else b.putLink { b.link k with upAsked := true }

/-- Whether a writer may write the link registers, and whether link `k` is on the part (R3, R4). -/
def Bridge.linkWrite (b : Bridge) (i : Instr) (w : Writer) (k r : Nat) (serve : Bridge → Bridge) : Bridge :=
  if 5 ≤ k then b else
  b.ctlGate i w (linkOff k r) (fun (b : Bridge) =>
    if !w.chief then b.rejectBy w (linkOff k r) false 5
    else if Reg.fused b.part (.ifvLinkCtrl k) then b.rejectBy w (linkOff k r) false 7
    else serve b)

def execIfvRetrain (w : Writer) (k : Nat) (s : State) : Host.Outcome State Fault Refusal :=
  .next { s with b := (s.b.linkWrite (.ifvRetrain w k) w k 8 (fun (b : Bridge) => b.linkCmd k 1)).settled s.mem }

def execIfvDown (w : Writer) (k : Nat) (s : State) : Host.Outcome State Fault Refusal :=
  .next { s with b := (s.b.linkWrite (.ifvDown w k) w k 8 (fun (b : Bridge) => b.linkCmd k 2)).settled s.mem }

def execIfvUp (w : Writer) (k : Nat) (s : State) : Host.Outcome State Fault Refusal :=
  .next { s with b := (s.b.linkWrite (.ifvUp w k) w k 8 (fun (b : Bridge) => b.linkCmd k 3)).settled s.mem }

end Sys2Proof.Machine
end

