-- ==== Sys2Proof/Machine/TransitBus.lean ====
section
/-!
DEFINITION. The Transit bus (R294 to R323): arbitration, the bridge as master and as target, errors, interrupts.
-/
namespace Sys2Proof.Machine

open Sys2Proof

/-- Whether the bridge runs the Transit bus: the section is applied, and no mode or event floats it (R296, R316). -/
def Bridge.trnOn (b : Bridge) : Bool :=
  b.get .trnBusCfg Fld.trnBusCfg_ENABLE = 1 && 4 ≤ b.mode && b.mode ≠ 11 && !b.pins.transitFloat

def Bridge.slot1 (b : Bridge) : Bool := b.get .trnBusCfg Fld.trnBusCfg_SLOT1 = 1
def Bridge.holder (b : Bridge) : Nat := b.get .trnArbStat Fld.trnArbStat_HOLDER
def Bridge.held_ (b : Bridge) : Bool := b.get .trnArbStat Fld.trnArbStat_HELD = 1

/-- The rank of a slot (R319). -/
def Bridge.rank (b : Bridge) (n : Nat) : Nat := wget (b.raw .trnRanks) ⟨3 * n, 3⟩

/-! Errors (R311, R320). -/

/-- The Aperture that a failure of a request concerns: the host's own, or its instance's. -/
def Bridge.jobAp (b : Bridge) (j : Job) : Option Nat :=
  match j.src with
  | .hostFn a _ => some a
  | _ => j.owner.map (fun v => b.viAp v)

/-- The bridge's own slot on the bus (R300, R315). -/
def Bridge.mySlot (b : Bridge) : Nat := if b.slot1 then 1 else 0

/-- A bridge-mastered request fails (R311): TRN_ERR_LAST, a TRANSIT record unless it is a segment's write, whose channel
reports it (R437), and the failure to its requester, at the failing beat (R178). -/
def Bridge.trnFail (b : Bridge) (t : TrnJob) (kind : Nat) (cause : Cause := .transitError) : Bridge :=
  let j := t.job
  let b := b.trnErrLast (j.addr + 8 * t.done) b.mySlot kind
  let b := match j.origin, j.op with
    | .seg .., .write .. => b
    | _, _ => b.trnRecord j.owner (b.jobAp j)
  (b.putTrn { b.eng.trn with queue := b.eng.trn.queue.filter (fun x => x.job.id ≠ j.id) }).finish
    { j with off := j.off + 8 * t.done } (.err cause)

/-! The bridge as master (R298, R306, R307, R310). -/

/-- Operand bytes of an atomic's OP. -/
def TrnJob.operand (t : TrnJob) : Nat := match t.job.op with | .atomic op _ _ => atomicOperand op | _ => 0

/-- Beats of a request's burst. -/
def TrnJob.beats (t : TrnJob) : Nat :=
  match t.job.op with
  | .read n => n / 8
  | .write d _ => d.length / 8
  | .atomic .. => (t.operand + 7) / 8
  | _ => 1

/-- Whether the burst to issue now writes: a locked tenure reads first. -/
def TrnJob.writing (t : TrnJob) : Bool :=
  match t.job.op with
  | .write .. => true
  | .atomic .. => t.old.isSome
  | _ => false

/-- The new operand of a locked tenure, `none` when a CAS compares unequal (R278, R307). -/
def TrnJob.newValue (t : TrnJob) (old : List Byte) : Option (List Byte) :=
  match t.job.op with
  | .atomic op d _ =>
    let n := t.operand
    let cur := assemble n (pieceBytes t.job old)
    if op ≤ 2 then some (atomicNew .fetchAdd n cur [] d)
    else if op ≤ 4 then some d
    else if cur = d.take n then some (d.drop n) else none
  | _ => none

/-- Write data of the whole burst, with its enables. -/
def TrnJob.wdata (t : TrnJob) : List (Option Byte) :=
  let j := t.job
  match j.op, t.old with
  | .write d _, _ => d
  | .atomic .., some old =>
    (match t.newValue old with
     | some new => pieceData j.order j.lo (new.map some) j.off (8 * t.beats)
     | none => List.replicate (8 * t.beats) none)
  | _, _ => []

/-- Whether byte `i` of the burst is enabled. -/
def TrnJob.enabled (t : TrnJob) (i : Nat) : Bool :=
  if t.writing then (t.wdata.getD i none).isSome
  else if t.job.origin = .svc then (t.job.lo).testBit i
  else inReq t.job.order t.job.lo t.job.hi (t.job.off + i)

/-- The beats that the next burst of a request transfers: the first of the fewest naturally aligned bursts of what is left;
a locked tenure's whole, or one beat with no byte enabled where its CAS compared unequal (R306, R307). -/
def TrnJob.nextBeats (t : TrnJob) : Nat :=
  if t.locked then
    (match t.old with
     | some old => if (t.newValue old).isNone then 1 else t.beats
     | none => t.beats)
  else burstAt (t.job.addr / 8 + t.done) (t.beats - t.done)

/-- The request at the head of the bridge's turn: the service-port cycle first, else the oldest request. -/
def Bridge.trnHead (b : Bridge) (emergency : Bool) : Option TrnJob :=
  match b.eng.trn.queue.find? (fun t => t.job.origin = .svc) with
  | some t => if emergency || b.slot1 then some t else b.eng.trn.queue.find? (fun t => t.job.origin ≠ .svc)
  | none => b.eng.trn.queue.head?

/-- Drive the address phase of a request's next burst (R297). -/
def Bridge.trnIssue (b : Bridge) (t : TrnJob) : Bridge :=
  let k := t.nextBeats
  let n := 8 * t.done
  let poison := match t.job.op with | .write _ p => p | _ => false
  let be := (List.range k).map (fun i => BitVec.ofNat 8 ((List.range 8).foldl (fun m l =>
    if t.enabled (n + 8 * i + l) then m + 2 ^ l else m) 0))
  let data := if t.writing then ((t.wdata.drop n).take (8 * k)).map (·.getD 0) else []
  let b := b.putTrn { b.eng.trn with bursting := some t.job.id, beatTick := b.tick, addressed := true }
  (b.set .trnArbStat Fld.trnArbStat_LOCKED (bit t.locked)).emit
    (.trnCycle b.mySlot (t.job.addr + n) k t.writing t.locked poison data be)

/-- The request whose burst is on the bus. -/
def Bridge.trnOnBus (b : Bridge) : Option TrnJob :=
  match b.eng.trn.bursting with
  | some id => b.eng.trn.queue.find? (fun t => t.job.id = id)
  | none => none

/-- Whether the bridge's own master port requests (R300, R306): the burst on the bus leaves beats of its request, or the oldest
request behind it does not wait after TRTY_N. -/
def Bridge.trnReq (b : Bridge) : Bool :=
  match b.trnOnBus with
  | none => (b.trnHead false).any (·.retryAt.isNone)
  | some t =>
    (!t.locked && t.job.origin ≠ .svc && t.done + t.nextBeats < t.beats) ||
      ((b.eng.trn.queue.filter (fun x => x.job.id ≠ t.job.id && (b.slot1 || x.job.origin ≠ .svc))).head?).any (·.retryAt.isNone)

/-! Arbitration (R300 to R305). -/

/-- The tenure ends; nothing is granted. -/
def Bridge.trnIdle (b : Bridge) : Bridge :=
  (b.putTrn { b.eng.trn with bursting := none, next := none, addressed := false }).sets .trnArbStat
    [(Fld.trnArbStat_HELD, 0), (Fld.trnArbStat_LOCKED, 0)]

/-- Grant the bus to a winner: a slot, or 8 for the emergency requester. The bridge drives nothing for a request that waits after
TRTY_N (R306). -/
def Bridge.trnGrant (b : Bridge) (w : Nat) : Bridge :=
  let b := b.trnIdle
  let mine := w = 8 || w = b.mySlot
  match (if mine then (b.trnHead (w = 8)).filter (·.retryAt.isNone) else none) with
  | some t =>
    let b := b.putTrn { b.eng.trn with grantTick := b.tick }
    let b := b.set .trnArbStat Fld.trnArbStat_HELD 1
    (if w = 8 then b else b.set .trnArbStat Fld.trnArbStat_HOLDER w).trnIssue t
  | none =>
    if mine then b else
    let b := b.putTrn { b.eng.trn with grantTick := b.tick, beatTick := b.tick }
    (b.sets .trnArbStat [(Fld.trnArbStat_HELD, 1), (Fld.trnArbStat_HOLDER, w)]).emit (.trnGrant w)

/-- The slot that a decision picks (R300): the highest rank that requests; among equals, round robin from the slot after
the one last granted at that rank. -/
def Bridge.trnPick (b : Bridge) (req : Nat) : Option Nat :=
  let on := (List.range 8).filter (fun n => req.testBit n)
  match (on.map b.rank).max? with
  | none => none
  | some r =>
    let from_ := match b.eng.trn.lastAt.find? (fun p => p.1 = r) with | some p => p.2 + 1 | none => 0
    ((List.range 8).map (fun i => (from_ + i) % 8)).find? (fun n => on.contains n && b.rank n = r)

/-- The requests of external masters that the arbiter sees: a TREQ_N ball with another function reads deasserted (R476). -/
def Bridge.trnRequests (b : Bridge) (ext : BitVec 8) : Nat :=
  (List.range 8).foldl (fun n k => if 1 ≤ k && ext.getLsbD k && b.ballFn (85 + k) = 0 then n ||| 2 ^ k else n) 0

/-- A tenure has ended: what was decided meanwhile applies (R300). -/
def Bridge.trnNext (b : Bridge) : Bridge :=
  match b.eng.trn.next with
  | some w => b.trnGrant w
  | none => b.trnIdle

/-- The arbiter decides on the requests `req` (R300, R305): on an idle bus the choice applies at once, in a tenure at its end. -/
def Bridge.decide_ (b : Bridge) (req : Nat) : Bridge :=
  let t := b.eng.trn
  let b := (b.bump .trnArbStat Fld.trnArbStat_DECISIONS).set .trnArbStat Fld.trnArbStat_REQ req
  if t.svcPending && !b.trnOnBus.any (fun x => x.job.origin = .svc) && (b.trnHead true).any (·.retryAt.isNone) then
    (if b.held_ then b.putTrn { t with next := some 8 } else b.trnGrant 8)
  else match b.trnPick req with
    | none => if b.held_ then b else b.trnIdle
    | some w =>
      let t := { t with lastAt := alPut (b.rank w) w t.lastAt }
      if b.held_ then b.putTrn { t with next := some w } else (b.putTrn t).trnGrant w

/-- An edge at which the arbiter decides, or an external tenure ends (R300, R303, R305, R307). In a locked tenure it decides in the
write burst only, and it waits for its shutters (R26). A slot-1 bridge decides nothing: bit 1 of the requests is its grant (R315). -/
def Bridge.arbitrate (b : Bridge) (bus : BusEdge) : Bridge :=
  let t := b.eng.trn
  let mine := t.bursting.isSome
  let b := if mine then b else b.set .trnArbStat Fld.trnArbStat_LOCKED (bit bus.lock)
  if b.slot1 then
    (if bus.req.getLsbD 1 && !mine && b.trnReq then b.trnGrant 1 else b)
  else if b.get .trnBusCfg Fld.trnBusCfg_ARBITER = 0 then b
  else if !b.domsOpen [83, 84] then b.needDoms [83, 84]
  else if mine then
    (if t.next.isSome || b.trnOnBus.any (fun x => x.locked && !x.writing) then b else b.decide_ (b.trnRequests bus.req + bit b.trnReq))
  else if b.held_ && bus.ends then (if bus.lock && bus.read then b else b.trnNext)
  else if b.held_ && (t.next.isSome || (bus.lock && bus.read)) then b
  else b.decide_ (b.trnRequests bus.req + bit b.trnReq)

/-- Write a request of the bridge's queue. -/
def Bridge.putTrnJob (b : Bridge) (t : TrnJob) : Bridge :=
  b.putTrn { b.eng.trn with queue := b.eng.trn.queue.map (fun x => if x.job.id = t.job.id then t else x) }

/-- Every beat of the bridge's burst has completed (R298, R307): beats that are left go on in a later tenure; a locked read goes on with its write burst in this one. -/
def Bridge.trnDone (b : Bridge) (t : TrnJob) (data : List Byte) : Bridge :=
  let drop := fun (b : Bridge) =>
    b.putTrn { b.eng.trn with queue := b.eng.trn.queue.filter (fun x => x.job.id ≠ t.job.id) }
  if t.locked then
    match t.old with
    | none => let t := { t with old := some data }; (b.putTrnJob t).trnIssue t
    | some old => (drop b).trnNext.finish t.job (.ok old false)
  else
    let t := { t with done := t.done + t.nextBeats, data := t.data ++ data }
    if t.done < t.beats then (b.putTrnJob t).trnNext
    else (drop b).trnNext.finish t.job (.ok (if t.writing then [] else t.data) false)

/-- TRTY_N ended the bridge's burst (R298, R306): a target's after a completed beat is taken as TERR_N; else the beats that
are left are tried again, a locked sequence whole, up to RETRY_LIMIT times. -/
def Bridge.trnRetried (b : Bridge) (t : TrnJob) (done : Nat) (data : List Byte) (withdrawn : Bool) : Bridge :=
  let b := b.bump .trnErrCnt Fld.trnErrCnt_RETRIES
  if 0 < done && !withdrawn then
    ((b.bump .trnErrCnt Fld.trnErrCnt_TERR).trnFail { t with done := t.done + done } 5).trnNext
  else if b.get .trnMasterCfg Fld.trnMasterCfg_RETRY_LIMIT ≤ t.retries then (b.trnFail t 3).trnNext
  else
    let t := if t.locked then { t with old := none, retries := t.retries + 1, retryAt := some b.tick }
      else { t with done := t.done + done, data := t.data ++ data, retries := t.retries + 1, retryAt := some b.tick }
    (b.putTrnJob t).trnNext

/-- The outcome of a burst of `n` beats, read edge by edge (R295, R298): TERR_N governs, then TRTY_N, then TWAIT_N, which is a wait,
then TRDY_N, which completes a beat. Of a burst whose beats are not all complete there is none yet. -/
def burstOutcome (n : Nat) : List RespEdge → Nat → List Byte → Option BurstEnd
  | [], done, data => if n ≤ done then some (.trdy data) else none
  | e :: l, done, data =>
    if n ≤ done then some (.trdy data)
    else if e.terr then some (.terr done)
    else if e.trty then some (.trty done data false)
    else if e.twait || !e.trdy then burstOutcome n l done data
    else burstOutcome n l (done + 1) (data ++ e.data)

/-- A bridge-mastered burst ends (R295, R298, R306, R311). -/
def Bridge.burstEnd (b : Bridge) (e : BurstEnd) : Bridge :=
  match b.trnOnBus with
  | none => b
  | some t =>
    match (match e with | .edges l => burstOutcome t.nextBeats l 0 [] | e => some e) with
    | some (.trdy data) => b.trnDone t data
    | some (.terr done) => ((b.bump .trnErrCnt Fld.trnErrCnt_TERR).trnFail { t with done := t.done + done } 2).trnNext
    | some (.trty done data w) => b.trnRetried t done data w
    | some (.edges _) | none => b

/-- No response line by A + 4 (R298): the bridge asserts TERR_N, and in its own tenure the request fails. -/
def Bridge.unclaimed (b : Bridge) (addr : Nat) : Bridge :=
  let b := (b.bump .trnErrCnt Fld.trnErrCnt_UNCLAIMED).raise .trn 1
  match b.trnOnBus with
  | some t => ((b.emit (.trnErr b.mySlot)).trnFail t 1).trnNext
  | none => (b.trnErrLast addr b.holder 1).emit (.trnErr b.holder)

/-- The beat at `addr` was not complete within the data-phase wait (R299): the bridge asserts TERR_N, and in its own tenure the
request fails there. -/
def Bridge.waitExpired (b : Bridge) (addr : Nat) : Bridge :=
  let b := (b.bump .trnErrCnt Fld.trnErrCnt_WAIT_EXPIRED).raise .trn 2
  match b.trnOnBus with
  | some t =>
    ((b.emit (.trnErr b.mySlot)).trnFail { t with done := max t.done ((addr - t.job.addr) / 8) } 4 .transitTimeout).trnNext
  | none => (b.trnErrLast addr b.holder 4).emit (.trnErr b.holder)

/-- A tenure exceeds the grant-hold limit (R304): TRTY_N, the grant withdrawn, CUTOFF and a record with KIND 9. The bridge's
own burst ends as TRANSIT_BURST_DONE reports. -/
def Bridge.cutOff (b : Bridge) (addr : Nat) : Bridge :=
  let slot := b.holder
  let addr := match b.trnOnBus with | some t => t.job.addr + 8 * t.done | none => addr
  let b := b.sets .trnCutoff [(Fld.trnCutoff_SLOTS, b.get .trnCutoff Fld.trnCutoff_SLOTS ||| 2 ^ slot), (Fld.trnCutoff_LAST, slot)]
  let b := ((b.bump .trnCutoff Fld.trnCutoff_COUNT).raise .trn 0).emit (.trnRetry slot)
  let image := wmk [(Fld.trnErrLast_ADDR, addr), (Fld.trnErrLast_SLOT, slot), (Fld.trnErrLast_KIND, 9), (Fld.trnErrLast_VALID, 1)]
  let b := b.record 0x0D .trn none none image 0
  if b.trnOnBus.isSome then b else b.trnIdle

/-! The bridge as target (R308, R309). -/

/-- Beat counts that TBL can name, on a naturally aligned address (R297). -/
def burstLegal (t : TransitBurst) : Bool := [1, 2, 4, 8, 16].contains t.beats && t.addr % (8 * t.beats) = 0

/-- The cycles that address one of the bridge's regions with a burst that it claims (R103, R297). -/
def Bridge.mine (b : Bridge) (t : TransitBurst) : Bool := burstLegal t && (b.transitRegion t.addr).isSome

/-- Claim a cycle (R103, R113, R117, R121, R307): none when the bridge does not claim it or has ended it. -/
def Bridge.claim (b : Bridge) (t : TransitBurst) (write : Bool) : Bridge × Option Claimed :=
  if !b.mine t then (b, none) else
  let b := b.putTrn { b.eng.trn with addressed := true }
  if t.locked then ((b.trnErrLast t.addr t.slot 6).emit (.trnErr t.slot), none)
  else match b.trnLookup t with
    | none => (b.catMiss false t.addr 2 0, none)
    | some x =>
      if !b.entOpen x.idx then ((b.catMiss true t.addr 2 0).emit (.trnErr t.slot), none)
      else if x.get entWIDTH = 2 && 1 < (b.trnSpans x t write).length then (b.emit (.trnErr t.slot), none)
      else if write && t.poisoned && x.dropsPoison then ((b.poisonDrop x t.addr).emit (.trnRdy t.slot), none)
      else (b, some ⟨t, x⟩)

/-- An external master's write (R308): the beats that are transferred go into the write queue, or wait for room. -/
def Bridge.trnWrite (b : Bridge) (t : TransitBurst) : Bridge :=
  match b.claim t true with
  | (b, none) => b
  | (b, some c) =>
    if transferred t = 0 then b
    else if b.eng.trn.wq.length < 64 && b.eng.trn.pendingWait = [] then
      (b.putTrn { b.eng.trn with wq := b.eng.trn.wq ++ [(0, { c with burst := keptBurst t })] }).emit (.trnRdy t.slot)
    else b.putTrn { b.eng.trn with pendingWait := b.eng.trn.pendingWait ++ [({ c with burst := keptBurst t }, b.tick)] }

/-- Whether two read cycles are identical (R309). -/
def sameRead (a b : TransitBurst) : Bool := a.addr = b.addr && a.beats = b.beats && a.be = b.be

/-- An external master's read (R309): a delayed read starts, its repeat is served or waits again, a different one is
retried. A cycle that the bridge does not claim is none of its own, whatever the slot's delayed read. -/
def Bridge.trnRead (b : Bridge) (t : TransitBurst) : Bridge :=
  match b.eng.trn.delayed.find? (fun d => d.slot = t.slot) with
  | some d =>
    if !b.mine t then b else
    let b := b.putTrn { b.eng.trn with addressed := true }
    if t.locked then (b.trnErrLast t.addr t.slot 6).emit (.trnErr t.slot)
    else if sameRead d.claim.burst t then b.putDelayed { d with claim := { d.claim with burst := t }, onBus := some b.tick }
    else if (b.trnLookup t).isNone then b.catMiss false t.addr 2 0
    else b.emit (.trnRetry t.slot)
  | none =>
    match b.claim t false with
    | (b, some c) => b.putDelayed { slot := t.slot, claim := c, up := 0, result := none, arrived := 0, onBus := some b.tick }
    | (b, none) => b

/-- TGT_WAIT ticks have passed (R308, R309). -/
def Bridge.tgtWait (b : Bridge) (slot : Nat) : Bridge :=
  let due := fun (t : Nat) => t + b.get .trnTgtCfg Fld.trnTgtCfg_TGT_WAIT ≤ b.tick
  if b.eng.trn.pendingWait.any (fun p => p.1.burst.slot = slot && due p.2) then
    (b.putTrn { b.eng.trn with pendingWait := b.eng.trn.pendingWait.filter (fun p => p.1.burst.slot ≠ slot) }).emit (.trnRetry slot)
  else match b.eng.trn.delayed.find? (fun d => d.slot = slot && d.onBus.any due) with
    | some d => (b.putDelayed { d with onBus := none }).emit (.trnRetry slot)
    | none => b

/-- No repeat has come within DELAYED_HOLD ticks (R309). -/
def Bridge.delayedHold (b : Bridge) (slot : Nat) : Bridge :=
  match b.eng.trn.delayed.find? (fun d => d.slot = slot) with
  | none => b
  | some d =>
    if d.result.isNone || d.onBus.isSome || b.tick < d.arrived + b.get .trnTgtCfg Fld.trnTgtCfg_DELAYED_HOLD then b
    else ((b.putTrn { b.eng.trn with delayed := b.eng.trn.delayed.filter (fun x => x.slot ≠ slot) }).trnErrLast
      d.claim.burst.addr slot 7).raise .trn 5

/-! The service-port cycle (R305, R321). -/

/-- TRN_SVC_CMD has been written with OP 1 or 2: the cycle is pending, and preempts an external holder where this bridge
arbitrates. -/
def Bridge.svcCycle (b : Bridge) : Bridge :=
  let op := b.get .trnSvcCmd Fld.trnSvcCmd_OP
  if op = 0 then b else
  let be := b.get .trnSvcCmd Fld.trnSvcCmd_BE
  let lanes := (wbytes (b.raw .trnSvcData)).reverse
  let data := (List.range 8).map (fun k => if be.testBit k then some (lanes.getD k 0) else none)
  let (id, b) := b.fresh
  let j : Job :=
    { id := id, origin := .svc, src := .bridge, owner := none, director := true, idx := 0, gen := 0, space := 1, port := 0,
      addr := b.get .trnSvcCmd Fld.trnSvcCmd_ADDR, op := if op = 2 then .write data false else .read 8, off := 0, order := 0,
      lo := be, hi := 8, t0 := b.tick }
  let b := b.toTarget j
  let b := b.putTrn { b.eng.trn with svcPending := true }
  let b := b.sets .trnSvcCmd [(Fld.trnSvcCmd_ERR, 0), (Fld.trnSvcCmd_BUSY, 1), (Fld.trnSvcCmd_DONE, 0)]
  let b := b.set .trnArbStat Fld.trnArbStat_EMERGENCY 1
  if b.slot1 || !b.held_ || !b.trnOn || b.mode = 9 then b
  else if b.trnOnBus.isSome then (b.emit (.trnRetry b.holder)).putTrn { b.eng.trn with next := some 8 }
  else (b.emit (.trnRetry b.holder)).trnGrant 8

/-! Interrupts (R312, R313). -/

/-- Raise the route of a line (R313). -/
def Bridge.irqRoute (b : Bridge) (line : Nat) : Bridge :=
  let r := Reg.trnIrqRoute line
  let vec := b.get r Fld.trnIrqRoute_VECTOR
  match b.get r Fld.trnIrqRoute_DEST with
  | 1 =>
    if b.get r Fld.trnIrqRoute_DIRECTOR = 1 then
      let a := b.get r Fld.trnIrqRoute_APERTURE
      if vec < b.vectors a 0 then b.raiseVector a 0 vec else b.irqDrop
    else
      let v := b.get r Fld.trnIrqRoute_VI
      if b.viLive v && vec < b.viVectors v then b.raiseVector (b.viAp v) (b.viVf v) vec else b.irqDrop
  | 2 =>
    let p := b.get r Fld.trnIrqRoute_PORT
    if !b.merReady p then b.irqDrop else
    let (id, b) := b.fresh
    b.toTarget
      { id := id, origin := .irqEvent line, src := .bridge, owner := none, director := true, idx := 0, gen := 0, space := 0,
        port := p, addr := b.get (.trnIrqAddr line) Fld.trnIrqAddr_ADDR, op := .event 0 (BitVec.ofNat 64 vec), off := 0,
        order := 0, t0 := b.tick }
  | 3 =>
    b.bridgePacket (b.get r Fld.trnIrqRoute_QUEUE) [wmk [(⟨0, 4⟩, line), (⟨32, 31⟩, b.tick)]] (.tirq line) (fun b => b.irqDrop)
  | _ => b

/-- A TIRQ_N line is accepted as asserted (R312), once the bus's shutters are open (R26): its route is raised once. In Dimmed a line with a destination wakes the
bridge (R399), and the route is raised after the wake. -/
def Bridge.irqAssert (b : Bridge) (line : Nat) : Bridge :=
  if 16 ≤ line || !b.trnOn || b.ballFn (100 + line) ≠ 0 || b.eng.trn.irq.any (fun p => p.1 = line) then b
  else if b.mode = 9 then
    (if b.get (.trnIrqRoute line) Fld.trnIrqRoute_DEST = 0 || b.get .pwrMode Fld.pwrMode_PARKED = 1 then b
     else (b.startWake 4).holdCmd (.tirqAssert line))
  else b.whenOpen [83, 84] (.tirqAssert line) (fun b =>
    (b.putTrn { b.eng.trn with irq := b.eng.trn.irq ++ [(line, b.tick)] }).irqRoute line)

/-- REPEAT_US has passed with a LEVEL line still asserted (R312). -/
def Bridge.irqRepeat (b : Bridge) (line : Nat) : Bridge :=
  let r := Reg.trnIrqRoute line
  match b.eng.trn.irq.find? (fun p => p.1 = line) with
  | some p =>
    if b.get r Fld.trnIrqRoute_LEVEL = 1 && p.2 + 50 * b.get r Fld.trnIrqRoute_REPEAT_US ≤ b.tick && b.trnOn && b.mode ≠ 9 then
      (b.putTrn { b.eng.trn with irq := b.eng.trn.irq.map (fun q => if q.1 = line then (line, b.tick) else q) }).irqRoute line
    else b
  | none => b

end Sys2Proof.Machine
end

