-- ==== Sys2Proof/Machine/TransitCmds.lean ====
section
/-!
DEFINITION. The commands of the Transit bus (R294 to R323), but for those that are writes to control space registers kept by
Control.lean (RANKS_WRITE, SVC_TRANSIT_READ, SVC_TRANSIT_WRITE).
-/
namespace Sys2Proof.Machine

open Sys2Proof

/-- A bus event: nothing while the bus is off. On a bridge that does not drive TCLK it shows that TCLK runs (R315, R316, R392). In Dimmed the arbiter
grants nothing, and a request wakes (R398, R399). -/
def Bridge.onBus (b : Bridge) (wakes : Bool) (f : Bridge → Bridge) : Bridge :=
  let b := if b.get .trnBusCfg Fld.trnBusCfg_ARBITER = 0 then
    { b.set .ifvPairStat Fld.ifvPairStat_TCLK_SEEN 1 with eng := { b.eng with pair := { b.eng.pair with tclkEdge := b.tick } } } else b
  if !b.trnOn then b else
  if b.mode = 9 then (if wakes then b.startWake 3 else b) else f b

def execTransitWriteCycle (t : TransitBurst) (s : State) : Host.Outcome State Fault Refusal :=
  .next { s with b := (s.b.onBus true (fun b => b.trnWrite t)).settled s.mem }

def execTransitReadCycle (t : TransitBurst) (s : State) : Host.Outcome State Fault Refusal :=
  .next { s with b := (s.b.onBus true (fun b => b.trnRead t)).settled s.mem }

def execTgtWaitExpire (slot : Nat) (s : State) : Host.Outcome State Fault Refusal :=
  .next { s with b := (s.b.onBus false (fun b => b.tgtWait slot)).settled s.mem }

def execDelayedHoldExpire (slot : Nat) (s : State) : Host.Outcome State Fault Refusal :=
  .next { s with b := (s.b.onBus false (fun b => b.delayedHold slot)).settled s.mem }

def execArbitrationDecision (ext : BusEdge) (s : State) : Host.Outcome State Fault Refusal :=
  .next { s with b := (s.b.onBus (ext.req.toNat / 2 ≠ 0) (fun b => b.arbitrate ext)).settled s.mem }

/-- A granted external master has not driven TALE within 2 edges (R301). -/
def execGrantUnused (s : State) : Host.Outcome State Fault Refusal :=
  .next { s with b := s.b.onBus false (fun b =>
    if b.held_ && !b.eng.trn.addressed && !b.slot1 then b.trnIdle else b) }

def execTransitUnclaimed (addr : Nat) (s : State) : Host.Outcome State Fault Refusal :=
  .next { s with b := (s.b.onBus false (fun b => if b.held_ then b.unclaimed addr else b)).settled s.mem }

/-- A beat is not complete W ticks after it began (R299). -/
def execDataPhaseWaitExpire (addr : BeatWait) (s : State) : Host.Outcome State Fault Refusal :=
  .next { s with b := (s.b.onBus false (fun b =>
    if b.held_ && b.eng.trn.beatTick ≤ addr.began && addr.began + b.ladder 1 ≤ b.tick then b.waitExpired addr.addr else b)).settled s.mem }

def execGrantHoldExpire (addr : Nat) (s : State) : Host.Outcome State Fault Refusal :=
  .next { s with b := (s.b.onBus false (fun b =>
    if b.held_ && b.eng.trn.grantTick + b.ladder 2 ≤ b.tick then b.cutOff addr else b)).settled s.mem }

def execTransitBurstDone (e : BurstEnd) (s : State) : Host.Outcome State Fault Refusal :=
  .next { s with b := (s.b.onBus false (fun b => b.burstEnd e)).settled s.mem }

/-- RETRY_GAP bus clocks have passed since TRTY_N (R306): the bridge requests again. A clock is 50 / CLK_MHZ ticks. -/
def execTransitRetryGapExpire (s : State) : Host.Outcome State Fault Refusal :=
  .next { s with b := s.b.onBus false (fun b =>
    b.putTrn { b.eng.trn with queue := b.eng.trn.queue.map (fun t => match t.retryAt with
      | some t0 =>
        if 50 * b.get .trnMasterCfg Fld.trnMasterCfg_RETRY_GAP ≤ (b.tick - t0) * b.get .trnBusCfg Fld.trnBusCfg_CLK_MHZ then
          { t with retryAt := none } else t
      | none => t) }) }

def execTirqAssert (line : Nat) (s : State) : Host.Outcome State Fault Refusal :=
  .next { s with b := (s.b.irqAssert line).settled s.mem }

def execTirqRepeat (line : Nat) (s : State) : Host.Outcome State Fault Refusal :=
  .next { s with b := (s.b.irqRepeat line).settled s.mem }

/-- A line is filtered as deasserted (R312). -/
def execTirqDeassert (line : Nat) (s : State) : Host.Outcome State Fault Refusal :=
  .next { s with b := s.b.putTrn { s.b.eng.trn with irq := s.b.eng.trn.irq.filter (fun p => p.1 ≠ line) } }

/-- TRN_TINT_SET and TRN_TINT_CLR (R314, R323): doorbell bits, by any director or the board controller. -/
def Bridge.tint (b : Bridge) (on : Bool) (bits : BitVec 4) : Bridge :=
  let l := (List.range 4).filter (fun k => if bits.getLsbD k then on else b.eng.trn.tint.contains k)
  b.putTrn { b.eng.trn with tint := l }

/-- A write of TRN_TINT_SET or TRN_TINT_CLR by `w` (R4). -/
def Bridge.tintRow (b : Bridge) (i : Instr) (w : Writer) (off : Nat) (on : Bool) (bits : BitVec 4) : Bridge :=
  b.ctlGate i w off (fun b => if b.authorised w .trnTintSet then b.tint on bits else b.rejectBy w off false 5)

def execTintSet (w : Writer) (bits : BitVec 4) (s : State) : Host.Outcome State Fault Refusal :=
  .next { s with b := (s.b.tintRow (.tintSet w bits) w 0xD00320 true bits).settled s.mem }

def execTintClr (w : Writer) (bits : BitVec 4) (s : State) : Host.Outcome State Fault Refusal :=
  .next { s with b := (s.b.tintRow (.tintClr w bits) w 0xD00328 false bits).settled s.mem }

end Sys2Proof.Machine
end

