-- ==== Sys2Proof/Machine/Apply.lean ====
section
/-!
DEFINITION. Applying an almanac (R27 to R53): reset values, the fixed and live sections of an image, the checks that need
the running bridge (R42, R43), and the replay of the delta log (R52, R53, R220).
-/
namespace Sys2Proof.Machine

open Sys2Proof

/-! Reset values. -/

/-- Every block at its reset values, in mode `m` (R418, R426). What stays is the part itself, the pins, the kept page, the
straps and cause of the last start, and the calibration, which is lost with VAUX alone (R408). -/
def Bridge.resetBlocks (b : Bridge) (m : Nat) : Bridge :=
  let b' : Bridge := { Bridge.reset with
    part := b.part, authFuse := b.authFuse, tick := b.tick, freeCtr := b.freeCtr, nextId := b.nextId, out := b.out,
    pins := b.pins, kept := b.kept }
  ((b'.put .idBoot (b.raw .idBoot)).sets .pwrSidCal [(Fld.pwrSidCal_TRIM, b.get .pwrSidCal Fld.pwrSidCal_TRIM),
    (Fld.pwrSidCal_CALIBRATED, b.get .pwrSidCal Fld.pwrSidCal_CALIBRATED),
    (Fld.pwrSidCal_ERROR_PPM, b.get .pwrSidCal Fld.pwrSidCal_ERROR_PPM)]).set .pwrMode Fld.pwrMode_MODE m

/-! Storing a register. -/

/-- Store a written value in a register: its own fields, the overrides of its expert fields and what derives from them;
clearing EXPERT_EN discards the block's overrides (R11, R54). -/
def Bridge.store (b : Bridge) (r : Reg) (v : Word) (lo hi : Bool) : Bridge :=
  let old := b.raw r
  let new := r.stored old v lo hi
  let b := (b.put r new).override r old new
  match r with
  | .blkCtrl k => if wget old Fld.blkCtrl_EXPERT_EN = 1 && wget new Fld.blkCtrl_EXPERT_EN = 0 then b.clearExpert k else b
  | _ => b

/-- Change VI_SHARE of an instance: the old word stays in force in each direction until the end of its revolution
(R202). -/
def Bridge.changeShare (b : Bridge) (v : Nat) (w : Word) : Bridge :=
  let old := b.raw (.dspViShare v)
  let keep := fun (l : List (Nat × Word)) (k : Nat) => if l.any (fun p => p.1 = k) then l else alPut k old l
  { b.put (.dspViShare v) w with eng := { b.eng with sharePend := keep (keep b.eng.sharePend (2 * v)) (2 * v + 1) } }

/-- Change a bucket register of an instance: the old rate and depth stay in force until the end of the revolution. -/
def Bridge.changeBucket (b : Bridge) (v x : Nat) (w : Word) : Bridge :=
  let k := b.bucket v x
  let k' : Bucket := { k with pend := some (k.pend.getD (b.raw (.dspViBucket v x))) }
  { b.put (.dspViBucket v x) w with eng := { b.eng with buckets := alPut (2 * v + x) k' b.eng.buckets } }

/-! Fixed sections. -/

/-- A ladder level in force under an image (R430). -/
def Image.level (g : Image) (k : Nat) : Nat := if k = 10 then g.ladder 8 + 50000 else g.ladder k

/-- Apply the timeout ladder (R430, R431) and what takes its values from it (R62, R355, R358). -/
def Bridge.applyLadder (b : Bridge) (g : Image) : Bridge :=
  let b := (List.range 14).foldl (fun (b : Bridge) i => b.put (.fltLadder (i + 1)) (BitVec.ofNat 64 (g.level (i + 1)))) b
  let b := b.put .almApplyLimit (BitVec.ofNat 64 (g.level 13))
  let b := (List.range 5).foldl (fun (b : Bridge) k =>
    b.put (.ifvLinkTmo k) (wmk [(Fld.ifvLinkTmo_REPLAY_TICKS, g.level 5), (Fld.ifvLinkTmo_CREDIT_TICKS, g.level 6)])) b
  (List.range 4).foldl (fun (b : Bridge) a => b.rederive (.ordAptCfg a)) ((b.rederive .trnTgtCfg).rederive .ifvPairCtrl)

/-- Apply the function tree and PF0's vectors (R65, R71, R76). -/
def Bridge.applyTree (b : Bridge) (g : Image) : Bridge :=
  (List.range b.part.apertures).foldl (fun (b : Bridge) a =>
    match g.fnPart a with
    | some r => if un r 3 1 = 0 then b else
      (((b.cfgPut a 0 .totalVfs (un r 6 2)).cfgPut a 0 .msixTableSize g.pfVectors).cfgPut a 0 (.barSize 2) (g.barMask a 0 2)).cfgPut
        a 0 (.vfBarSize 2) (g.barMask a 1 2)
    | none => b) b

/-- Apply the region directory, and write the entries of PF0's BAR0 and BAR4 (R100, R102, R127). -/
def Bridge.applyRegions (b : Bridge) (g : Image) : Bridge :=
  let b := (g.records 0x000B).foldl (fun (b : Bridge) r => b.put (.catRegion (regionSlot (wordOfBytes r))) (wordOfBytes r)) b
  (List.range 4).foldl (fun (b : Bridge) a =>
    [(0, 6, 0), (4, 8, a)].foldl (fun (b : Bridge) (x : Nat × Nat × Nat) =>
      let k := slotPf a x.1
      let i := b.region k regFIRST
      if b.regionOn k then b.putEntry i [wput (ownEntry x.2.1 x.2.2 0 true) entGEN (b.ent i entGEN + 1), 0, 0, 0] else b) b) b

/-- Apply the shutter policies (R404). -/
def Bridge.applyPolicies (b : Bridge) (g : Image) : Bridge :=
  (List.range 96).foldl (fun (b : Bridge) n =>
    let (p, d) := match g.find 0x0005 (fun r => un r 0 1 = n) with | some (_, r) => (un r 1 1, un r 2 2) | none => (0, 20)
    b.put (.pwrDomPol n) (wmk [(Fld.pwrDomPol_POLICY, p), (Fld.pwrDomPol_CLOSE_DELAY, d)])) b

/-- Apply the Meridian port geometry and the link widths (R267, R291, R368). -/
def Bridge.applyPorts (b : Bridge) (g : Image) : Bridge :=
  let b := (g.records 0x0006).foldl (fun (b : Bridge) r =>
    b.put (.merPortGeom (un r 0 1)) (wmk [(Fld.merPortGeom_ENABLE, un r 1 1), (Fld.merPortGeom_WIDTH, un r 2 1),
      (Fld.merPortGeom_RANK, un r 3 1), (Fld.merPortGeom_GRANULE_LOG2, un r 4 1), (Fld.merPortGeom_CREDIT_SPLIT, un r 5 1)])) b
  (List.range 5).foldl (fun (b : Bridge) k =>
    let w := if k = 4 then g.laneWidth 2 0 else g.laneWidth 1 k
    if w = 0 then b else b.set (.ifvLinkCtrl k) Fld.ifvLinkCtrl_WIDTH_CAP w) b

/-- Apply the pair section (R372, R391). -/
def Bridge.applyPair (b : Bridge) (g : Image) : Bridge :=
  match (g.records 0x0008).head? with
  | none => b
  | some r => b.sets .ifvPairCfg [(Fld.ifvPairCfg_ENABLE, un r 0 1), (Fld.ifvPairCfg_DEF_MIRROR, un r 1 1),
      (Fld.ifvPairCfg_PARTNER_PART, un r 2 2), (Fld.ifvPairCfg_HOME_FIRST, un r 4 2), (Fld.ifvPairCfg_HOME_LAST, un r 6 2)]

/-- Apply the Transit section (R300, R312 to R316, R319, R322, R323). A PAIR_ID 0 bridge that sees TCLK finds its partner still
arbitrating after a rejoin, and takes the slot-1 role (log entry 123). -/
def Bridge.applyTransit (b : Bridge) (g : Image) : Bridge :=
  let slot1 := g.pairOn && (b.pairId = 1 || b.pst Fld.ifvPairStat_TCLK_SEEN = 1)
  (g.records 0x0007).foldl (fun (b : Bridge) r =>
    match un r 2 1 with
    | 0 => (b.put .trnBusCfg (wmk [(Fld.trnBusCfg_ENABLE, 1), (Fld.trnBusCfg_CLK_MHZ, un r 3 1), (Fld.trnBusCfg_ARBITER, bit !slot1),
        (Fld.trnBusCfg_SLOT1, bit slot1)])).set .trnRanks ⟨0, 3⟩ (un r 4 1)
    | 1 => b.set .trnRanks ⟨3 * un r 3 1, 3⟩ (un r 4 1)
    | 2 => (b.put (.trnIrqRoute (un r 3 1)) (wordOfBytes (r.drop 8))).put (.trnIrqAddr (un r 3 1)) (wordOfBytes (r.drop 16))
    | _ => b.put (.trnTintCfg (un r 3 1)) (wordOfBytes (r.drop 8))) b

/-- Apply the fixed sections (R41). -/
def Bridge.applyFixed (b : Bridge) (g : Image) : Bridge :=
  let b := { b with alm := { b.alm with inForce := some g } }
  let b := (((b.applyLadder g).applyTree g).applyRegions g).applyPolicies g
  ((b.applyPorts g).applyPair g).applyTransit g

/-! Live sections. -/

/-- A section body of whole records (R30). -/
def sectBody (t : Nat) (rs : List (List Byte)) : List Byte :=
  wbytes (wmk [(⟨0, 16⟩, typeSize t), (⟨16, 32⟩, rs.length)]) ++ rs.flatten

/-- The almanac in force after a live patch: each of its records takes the place of the record for the same item. -/
def Image.patched (g p : Image) : Image :=
  let live := p.sections.filter (fun s => typeClass s.type = 1)
  let put := fun (ss : List Section) (s : Section) =>
    let old := (ss.filter (fun x => x.type = s.type)).flatMap (fun x => x.records)
    let rs := old.filter (fun r => !s.records.any (fun x => liveKey s.type x = liveKey s.type r)) ++ s.records
    ss.filter (fun x => x.type ≠ s.type) ++ [(⟨s.type, 1, s.optional, sectBody s.type rs⟩ : Section)]
  { g with sections := live.foldl put g.sections }

/-- Apply one live record (R43). At a load or replay schedules are in force at once; in a commit they go to the shadow
copies, which swap at the end of the revolution; rate limits of an instance that exists apply as R202 says. -/
def Bridge.liveRecord (b : Bridge) (load : Bool) (t : Nat) (r : List Byte) : Bridge :=
  match t with
  | 0x0101 => b.applyEntry (un r 0 4) (wordsOfBytes 4 (r.drop 4))
  | 0x0102 =>
    [un r 4 2, un r 6 2, un r 8 4, un r 12 2, un r 14 2, un r 16 2, un r 18 2].zipIdx.foldl (fun (b : Bridge) p =>
      b.set (.viPool (un r 0 1) p.2) Fld.viPool_SIZE p.1) b
  | 0x0103 =>
    let y := 2 * un r 0 1 + un r 1 1
    let words := wordsOfBytes 256 (r.drop 8)
    let b := words.zipIdx.foldl (fun (b : Bridge) p => b.put (.dspSchedShadow y p.2) p.1) b
    if load then words.zipIdx.foldl (fun (b : Bridge) p => b.put (.dspSchedActive y p.2) p.1) b
    else b.pendSwap (un r 0 1) (un r 1 1)
  | 0x0104 =>
    let v := un r 0 2
    let s := b.recordShares v
    if load || !b.viLive v then b.loadShares v s.1 s.2 s.2
    else ((b.changeShare v s.1).changeBucket v 0 s.2).changeBucket v 1 s.2
  | 0x0105 => b.put (.logQGeom (un r 0 2)) (wordOfBytes (r.drop 8))
  | 0x0106 => b.sets (.dspGuideCfg (un r 0 1)) [(Fld.dspGuideCfg_WINDOW_LOG2, un r 1 1), (Fld.dspGuideCfg_THRESHOLD, un r 2 1)]
  | _ => b

/-- The live section types in the order of application (R42). -/
def liveOrder : List Nat := [0x0102, 0x0104, 0x0103, 0x0101, 0x0105, 0x0106]

/-- Apply the live sections of an image but for catalogue contents. Without a record a queue's MIRROR is the pair section's
default class (R31). -/
def Bridge.applyLive (b : Bridge) (g : Image) : Bridge :=
  let cls := match (g.records 0x0008).head? with | some r => un r 1 1 | none => 0
  let b := if cls = 0 then b else
    (List.range 4096).foldl (fun (b : Bridge) q => b.set (.logQGeom q) Fld.logQGeom_MIRROR cls) b
  (liveOrder.filter (· ≠ 0x0101)).foldl (fun (b : Bridge) t =>
    (g.records t).foldl (fun (b : Bridge) r => b.liveRecord true t r) b) b

/-! Checks against the running bridge. -/

/-- The catalogue records of an image, committed in order to a trial copy (R43, R106, R115): a change of the owner of an
entry in use is 0x10, any other broken rule 0x0B. -/
def Bridge.catRecords : Nat → List (List Byte) → Bridge → Option ImgRefusal
  | _, [], _ => none
  | i, r :: l, b =>
    let idx := un r 0 4
    let ws := wordsOfBytes 4 (r.drop 4)
    let p := b.place? idx
    if b.ownerInUse idx ws p then some ⟨0x10, 0x0101, i⟩
    else if !commitAuth .svc p || b.imageCheck idx ws p ≠ 0 then some ⟨0x0B, 0x0101, i⟩
    else Bridge.catRecords (i + 1) l (b.applyEntry idx ws)

/-- The in-use checks of a patch (R43, R469). -/
def Bridge.inUse (b : Bridge) (p : Image) : Option ImgRefusal :=
  match b.alm.inForce with
  | none => none
  | some g =>
    let m := g.patched p
    let pools := p.has 0x0102
    let small := fun (r : List Byte) => (List.range 7).any (fun k => m.pool (un r 0 1) k < b.poolUsed (un r 0 1) k)
    let trial := { b with alm := { b.alm with inForce := some m } }
    let trial := (p.records 0x0102).foldl (fun (b : Bridge) r => b.liveRecord true 0x0102 r) trial
    let held := fun (r : List Byte) =>
      let q := un r 0 2
      (b.queueOwner q).isSome || (b.queue q).packets ≠ [] || (b.queue q).opn.isSome || b.isFaultLq q
    orElse [
      badRecord p 0x0102 0x10 small,
      if pools && trial.archiveBeyond (b.part.sizeMib - trial.logMib) then some ⟨0x10, 0x0102, recordOf 0x10⟩ else none,
      Bridge.catRecords 0 (p.records 0x0101) trial,
      badRecord p 0x0105 0x10 held]

/-- The checks of an image offered to a load (R34, R41): its stages, its records, and its catalogue contents on the bridge
as it would stand. A live patch has no almanac to be based on. -/
def Bridge.loadCheck (b : Bridge) (bytes : Option (List Byte)) : ImgRefusal ⊕ Image :=
  match bytes with
  | none => .inl ⟨0x15, 0, recordOf 0x15⟩
  | some l =>
    match earlyCheck b.part b.authFuse l with
    | some r => .inl r
    | none =>
      let g := imageOf l
      if g.kind = 1 then .inl ⟨0x0F, 0, recordOf 0x0F⟩ else
      match orElse [sectionsCheck b.part false g, g.fullCheck b.part] with
      | some r => .inl r
      | none =>
        match Bridge.catRecords 0 (g.records 0x0101) ((b.applyFixed g).applyLive g) with
        | some r => .inl r
        | none => .inr g

/-- The checks of STAGE on a patch (R42): those of R34, BASE_MISMATCH, and the in-use checks. -/
def Bridge.stageCheck (b : Bridge) (l : List Byte) : ImgRefusal ⊕ Image :=
  match earlyCheck b.part b.authFuse l with
  | some r => .inl r
  | none =>
    let p := imageOf l
    if p.kind = 0 then .inl ⟨0x0E, 0, recordOf 0x0E⟩ else
    match b.alm.inForce with
    | none => .inl ⟨0x0F, 0, recordOf 0x0F⟩
    | some g =>
      match orElse [sectionsCheck b.part true p, if p.has 0x0102 then (g.patched p).poolCheck g b.part else none,
          if baseDigest l ≠ b.kept.digest then some ⟨0x0F, 0, recordOf 0x0F⟩ else none, b.inUse p] with
      | some r => .inl r
      | none => .inr p

/-! Replay (R52, R220). -/

/-- The value that a kept register write forms at replay: the recorded value in the kept fields, what stands elsewhere. -/
def keptValue (r : Reg) (cur v : Word) : Word :=
  r.fields.foldl (fun w f => if f.kept then wput w f.fld (wget v f.fld) else w) cur

/-- Replay one record, rechecked as a live write; `false` when it is skipped. -/
def Bridge.replayOne (b : Bridge) : DeltaRec → Bridge × Bool
  | .mark => (b, true)
  | .regWrite off half w =>
    match Reg.ofOffset 4 off with
    | none => (b, false)
    | some r =>
      let lo := half.testBit 0
      let hi := half.testBit 1
      let v := keptValue r (b.readReg [] r) w
      if (b.set .pwrMode Fld.pwrMode_MODE 4).rejectReason .svc r v lo hi = 0 then (b.store r v lo hi, true) else (b, false)
  | .catEntry i ws => if b.commitCheck .svc i ws = 0 then (b.applyEntry i ws, true) else (b, false)
  | .sect t body =>
    match bodyRecords t body with
    | some [r] =>
      let p : Image := { kind := 1, signed := false, sealOnApply := false, digest := 0, sections := [⟨t, 1, false, body⟩] }
      let pools := t = 0x0102 && b.alm.inForce.any (fun (g : Image) => ((g.patched p).poolCheck g b.part).isSome)
      if typeClass t = 1 && recordCheck b.part t r = 0 && !pools && (b.inUse p).isNone then
        let b := { b with alm := { b.alm with inForce := b.alm.inForce.map (fun (g : Image) => g.patched p) } }
        (b.liveRecord true t r, true)
      else (b, false)
    | _ => (b, false)
  | .create c a d r =>
    match b.createNumbers (wget c Fld.viCmd_APERTURE) (wget c Fld.viCmd_VF) a d
        (some (wget r ⟨0, 11⟩, wget r ⟨16, 13⟩, wget r ⟨32, 16⟩)) with
    | .inl (v, ch, g) => (b.createApply c a d (wmk [(⟨0, 11⟩, v), (⟨16, 13⟩, ch), (⟨32, 16⟩, g)]) false, true)
    | .inr _ => (b, false)
  | .destroy v ap =>
    if b.viLive v && b.viAp v = ap then
      (((b.entriesOf v).foldl (fun (b : Bridge) i => b.disableEntry i) b).remove v, true)
    else (b, false)

/-- Replay the delta log: records in sequence order, cut at the first with COMMITTED clear. -/
def Bridge.replayLog (b : Bridge) : Bridge :=
  let log := b.kept.log.takeWhile (·.committed)
  let b := { b with kept := { b.kept with log := log } }
  let (b, n) := log.foldl (fun (p : Bridge × Nat) e =>
    let (b, good) := p.1.replayOne e.body
    (b, if good then p.2 else p.2 + 1)) (b, 0)
  (b.set .almKeptUse Fld.almKeptUse_SKIPPED (min n 8191)).set .almStatus Fld.almStatus_REPLAYED 1

/-- Home instances go to reserve at a load with pair enable 1 (R389). -/
def Bridge.homeToReserve (b : Bridge) : Bridge :=
  if !b.paired then b else
  let b := b.liveVis.foldl (fun (b : Bridge) v =>
    let on := (b.entriesOf v).filter (fun i => b.ent i entEN = 1 && i ≠ b.viGrant v)
    let images := on.map (fun i => (i, b.entry i))
    (on.foldl (fun (b : Bridge) i => b.set (.catEntry i 0) entEN 0) b).toReserve v images) b
  b.set .ifvPairStat Fld.ifvPairStat_LAST_CAUSE 5

end Sys2Proof.Machine
end

