-- ==== Sys2Proof/Machine/Startup.lean ====
section
/-!
DEFINITION. Supplies and pins (R410, R411, R417, R418), the start (R419, R443), the load of an almanac (R37 to R41, R51 to
R53, R423), and Charting with what follows it (R420 to R425).
-/
namespace Sys2Proof.Machine

open Sys2Proof

/-! Load attempts. -/

/-- What a flash slot delivers at a speed code (R38). -/
def slotBytes (s : FlashSlot) (speed : Nat) : Option (List Byte) :=
  match s with
  | .data l => some l
  | .errorAt200 l => if speed = 0 then none else some l
  | .error => none

/-- The attempts on a slot: one, and at 200 MHz a repeat at 100 MHz after SOURCE_ERROR (R38). -/
def slotAttempts (k : Nat) (s : FlashSlot) (speed : Nat) : List Attempt :=
  let one := fun (v : Nat) => (⟨1, k, v, slotBytes s v⟩ : Attempt)
  if speed = 0 && (slotBytes s 0).isNone then [one 0, one 1] else [one speed]

/-- Every flash attempt, the preferred slot first (R38). -/
def flashAttempts (pref speed : Nat) (slot0 slot1 : FlashSlot) : List Attempt :=
  let a := slotAttempts 0 slot0 speed
  let c := slotAttempts 1 slot1 speed
  if pref = 0 then a ++ c else c ++ a

/-- ALM_RESULT of a finished command or load (R57). -/
def Bridge.almResult (b : Bridge) (code sect rec_ : Nat) : Bridge :=
  b.put .almResult (wmk [(Fld.almResult_CODE, code), (Fld.almResult_SECTION, sect), (Fld.almResult_RECORD, rec_),
    (Fld.almResult_DONE, 1)])

/-- ALM_APPLY_TIME of the load or commit that ends now (R60). -/
def Bridge.applyTime (b : Bridge) : Bridge :=
  b.set .almApplyTime Fld.almApplyTime_TICKS (min (2 ^ 32 - 1) (b.tick - b.alm.start))

/-- Whether the kept page is valid (R52). -/
def Bridge.keptValid (b : Bridge) : Bool := b.kept.headerOk && b.kept.active

/-- ALM_FLASH_CFG as the kept page records it, its reset value where the page is invalid (R38). -/
def Bridge.keptFlash (b : Bridge) : Word :=
  if !b.keptValid then b.raw .almFlashCfg else
  (b.kept.log.takeWhile (·.committed)).foldl (fun w e => match e.body with
    | .regWrite off half v =>
      if off = (Reg.almFlashCfg).offset then keptValue .almFlashCfg w (mergeHalf w half v) else w
    | _ => w) (b.raw .almFlashCfg)

/-- What holds from tick s on in a bridge whose blocks are at their reset values: the strap PAIR_ID, the archive ready,
domain 95 open and the kept flash settings (R38, R391, R403). -/
def Bridge.bootBase (b : Bridge) : Bridge :=
  let b := b.set .ifvPairCfg Fld.ifvPairCfg_PAIR_ID (b.get .idBoot Fld.idBoot_PAIR_ID)
  let b := b.set .arcStat Fld.arcStat_READY 1
  (b.put .almFlashCfg b.keptFlash).openDom 95

/-- AUX_LOST shows the retention latch as it stands when a load begins (R52). -/
def Bridge.showLatch (b : Bridge) : Bridge := b.set .almStatus Fld.almStatus_AUX_LOST (bit b.kept.latch)

/-- Bare (M3): the loader function on AP0 (R424). -/
def Bridge.enterBare (b : Bridge) : Bridge := { b.setMode 3 with pins := { b.pins with hostTerm := true } }

/-- A failed load attempt: its code in ALM_RESULT and a fault record (R34, R437). -/
def Bridge.refuseLoad (b : Bridge) (a : Attempt) (r : ImgRefusal) : Bridge :=
  let b := (b.almResult r.code r.sect r.rec_).applyTime
  b.record 0x01 .alm none none (b.raw .almResult) (wmk [(⟨0, 2⟩, a.source), (⟨2, 1⟩, a.slot)])

/-- Take attempts in order until one passes its checks, which then waits for the end of its application; Bare when none
does (R38). -/
def Bridge.tryLoads (b : Bridge) : List Attempt → Bridge
  | [] => b.enterBare
  | a :: l =>
    let b := { b with alm := { b.alm with start := b.tick, next := l } }
    match b.loadCheck a.bytes with
    | .inr g => { b with alm := { b.alm with loading := some (a, g) } }
    | .inl r =>
      let b := b.refuseLoad a r
      let moved := match l with | x :: _ => decide (x.slot ≠ a.slot) | [] => false
      Bridge.tryLoads (if moved then b.set .almStatus Fld.almStatus_SLOT_FALLBACK 1 else b) l

/-! The start. -/

/-- The straps as sampled; one that is not stable gives an undefined value (R419). -/
def Bridge.sampled (b : Bridge) (x : Straps) : Straps :=
  let f := fun (k : Nat) => Config.freeValue (b.freeCtr + k)
  { x with
    almSrc := if x.unstableSrc then (f 0).setWidth 2 else x.almSrc
    bootBareN := if x.unstableBare then (f 1).getLsbD 0 else x.bootBareN
    pairId := if x.unstablePair then (f 2).getLsbD 0 else x.pairId }

/-- The load source (R37): 0 the host, through Bare; 1 flash; 2 the service port. -/
def Bridge.loadSource (b : Bridge) (x : Straps) : Nat :=
  if !x.bootBareN then 0
  else match x.almSrc.toNat with
    | 0 => if !b.keptValid then 1 else if b.kept.source = 2 then 0 else if b.kept.source = 3 then 2 else 1
    | 1 => 1
    | 2 => 0
    | _ => 2

/-- A start at tick s, in M2 with every block at its reset values (R419, R420, R440, R443). -/
def Bridge.startBoot (b : Bridge) (cause : Nat) (straps : Straps) (slot0 slot1 : FlashSlot) : Bridge :=
  let x := b.sampled straps
  let b := { b with freeCtr := b.freeCtr + 3 }
  let b := b.put .idBoot (wmk [(Fld.idBoot_ALM_SRC, x.almSrc.toNat), (Fld.idBoot_BOOT_BARE_N, bit x.bootBareN),
    (Fld.idBoot_PAIR_ID, bit x.pairId), (Fld.idBoot_CAUSE, cause)])
  let b := if cause = 1 || cause = 2 then b.life 1 else b
  let b := ({ b with alm := { b.alm with tickS := b.tick, start := b.tick } } : Bridge).bootBase
  if cause = 3 && b.kept.loops = 3 then ((b.set .fltQuarStat Fld.fltQuarStat_BOOT_LOOP 1).raise .flt 4).enterBare
  else match b.loadSource x with
    | 0 => b.enterBare
    | 1 =>
      let w := b.raw .almFlashCfg
      let pref := if b.keptValid && b.kept.source = 1 then b.kept.slot else wget w Fld.almFlashCfg_SLOT_PREF
      b.showLatch.tryLoads (flashAttempts pref (wget w Fld.almFlashCfg_SPEED) slot0 slot1)
    | _ => { b with alm := { b.alm with waitService := true } }

/-- Leave M1 for M2 and start (R394). -/
def Bridge.dawn (b : Bridge) (cause : Nat) (straps : Straps) (slot0 slot1 : FlashSlot) : Bridge :=
  let b := { b with pins := { b.pins with wakeN := false } }
  ((b.resetBlocks 2).raise .pwr 0).startBoot cause straps slot0 slot1

/-! Pins. -/

/-- The bridge with nothing but its part, its outputs so far and the model's counters (R426, VAUX lost). -/
def Bridge.dark (b : Bridge) : Bridge :=
  ({ Bridge.reset with
      part := b.part, authFuse := b.authFuse, freeCtr := b.freeCtr, nextId := b.nextId, out := b.out,
      pins := { Pins.dawn with vaux := false, pwrgood := false } } : Bridge).set .pwrMode Fld.pwrMode_MODE 0

/-- VAUX reaches the power-on threshold (R411, R417): M1, and M2 at once where both pins allow it. -/
def execVauxPowerOn (pwrgood perstReleased : Bool) (straps : Straps) (slot0 slot1 : FlashSlot) (s : State) :
    Host.Outcome State Fault Refusal :=
  let b := s.b
  .next { s with b :=
    if b.mode ≠ 0 then b else
    let b := b.dark.set .pwrMode Fld.pwrMode_MODE 1
    let b := { b with
      pins := { Pins.dawn with pwrgood := pwrgood, perstReleased := perstReleased } }
    if pwrgood && perstReleased then b.dawn 0 straps slot0 slot1 else b }

/-- VAUX lost (R394, R426). -/
def execVauxLost (s : State) : Host.Outcome State Fault Refusal :=
  .next { s with mem := [], b := s.b.dark }

/-- PWRGOOD rises: a start when PERST_N is released. -/
def execPwrgoodRise (straps : Straps) (slot0 slot1 : FlashSlot) (s : State) : Host.Outcome State Fault Refusal :=
  let b := s.b
  .next { s with b :=
    if b.mode ≠ 1 || b.pins.pwrgood then b else
    let b := { b with pins := { b.pins with pwrgood := true } }
    if b.pins.perstReleased then b.dawn 1 straps slot0 slot1 else b }

/-- The pins when the bridge is reset as a whole. -/
def Bridge.pinsOff (b : Bridge) : Bridge :=
  { b with pins := { b.pins with transitFloat := true, hostTerm := false } }

/-- PWRGOOD falls (R410): M1, with the alarm of the island as it stood and THERMTRIP_N released (R401, R489). -/
def Bridge.pwrgoodFall (b : Bridge) : Bridge :=
  let b := if b.mode = 1 then b else (((b.resetBlocks 1).put .pwrSidWake (b.raw .pwrSidWake)).raise .pwr 0).pinsOff
  { b with pins := { b.pins with pwrgood := false, thermtrip := false } }

def execPwrgoodFall (s : State) : Host.Outcome State Fault Refusal :=
  .next { s with b := if s.b.mode = 0 || !s.b.pins.pwrgood then s.b else s.b.pwrgoodFall }

/-- PERST_N is asserted: M2, every block held at its reset values (R394, R418). -/
def execPerstAssert (s : State) : Host.Outcome State Fault Refusal :=
  let b := s.b
  .next { s with b :=
    if b.mode = 0 then b else
    let b := { b with pins := { b.pins with perstReleased := false } }
    if b.mode = 1 then b else (b.resetBlocks 2).pinsOff }

/-- PERST_N is released: tick s when PWRGOOD is high (R394, R419). -/
def execPerstRelease (straps : Straps) (slot0 slot1 : FlashSlot) (s : State) : Host.Outcome State Fault Refusal :=
  let b := s.b
  .next { s with b :=
    if b.mode = 0 || b.pins.perstReleased then b else
    let b := { b with pins := { b.pins with perstReleased := true } }
    if b.mode = 2 then b.startBoot 2 straps slot0 slot1
    else if b.mode = 1 && b.pins.pwrgood then b.dawn 2 straps slot0 slot1 else b }

/-! The end of a load. -/

/-- The almanac limit of an attempt (R40). -/
def Bridge.attemptLimit (b : Bridge) (a : Attempt) : Nat :=
  b.get .almApplyLimit Fld.almApplyLimit_TICKS *
    (if a.source ≠ 1 || a.speed = 0 then 1 else if a.speed = 1 then 2 else 8)

/-- The kept page at the end of a load (R51 to R53): a bad header is initialised; the log of another almanac, or one that
overflowed, is discarded; the loaded almanac is recorded. The spec does not say when the header's boot count advances: here at each
completed load (log entry 103). -/
def Bridge.loadPage (b : Bridge) (a : Attempt) (g : Image) : Bridge :=
  let k := b.kept
  let same := b.keptValid && k.digest = g.digest && !k.overflow
  let b := if k.headerOk then b else
    ({ b with kept := { k with headerOk := true, active := false, log := [], nextSeq := 0, boots := 0 } }).life 0
  let b := if b.keptValid && !same then
    ((b.set .almStatus Fld.almStatus_DELTA_DISCARDED 1).life 5).record 0x02 .alm none none (digestWord k.digest 0)
      (digestWord g.digest 0) else b
  { b with
    kept := { b.kept with
      active := true, source := a.source, slot := a.slot, digest := g.digest, boots := b.kept.boots + 1, latch := false
      overflow := false, log := if same then b.kept.log else [] } }

/-- Enter Charting (R408, R420, R425): the links of the lane map train, calibration begins, the domains that the mode
needs open. -/
def Bridge.enterCharting (b : Bridge) (sealed_ : Bool) : Bridge :=
  let fromBare := b.mode = 3
  let b := b.setMode 4
  let b := if sealed_ then b.set .almStatus Fld.almStatus_SEALED 1 else b
  let b := { b with
    alm := { b.alm with
      chartStart := b.tick, calibrated := false, waitService := false
      bareRelinkAt := if fromBare then some (b.tick + 50000) else none }
    eng := { b.eng with
      calStart := some b.tick, calPeriod := b.tick
      pair := { b.eng.pair with hbEdge := b.tick, tclkEdge := b.tick, hbHold := false } }
    pins := { b.pins with hostTerm := true, transitFloat := b.get .trnBusCfg Fld.trnBusCfg_ENABLE = 0 } }
  let b := b.neededDomains.foldl (fun (b : Bridge) n => b.openDom n) b
  (List.range 5).foldl (fun (b : Bridge) k => b.startTraining k) b

/-- A load attempt is applied (R41, R52, R389, R420): fixed sections, live sections, catalogue contents, replay. -/
def Bridge.finishLoad (b : Bridge) (a : Attempt) (g : Image) : Bridge :=
  let replay := b.keptValid && b.kept.digest = g.digest && !b.kept.overflow
  let old := b.logMib
  let b := { b with alm := { b.alm with loading := none, next := [], recording := true, inForce := some g } }
  let b := (b.put .almFlashCfg ((Reg.almFlashCfg).resetValue b.part)).loadPage a g
  let b := (b.applyFixed g).applyLive g
  let b := (g.records 0x0101).foldl (fun (b : Bridge) r => b.liveRecord true 0x0101 r) b
  let b := if replay then b.replayLog else b
  let b := if b.logMib = old then b else b.raise .arc 1
  let b := (b.homeToReserve.life 4).sets .almStatus
    [(Fld.almStatus_SOURCE, a.source), (Fld.almStatus_SLOT, a.slot), (Fld.almStatus_SIGNED, bit g.signed)]
  let b := (List.range 6).foldl (fun (b : Bridge) k => b.put (.almDigest k) (digestWord g.digest k)) b
  ((b.almResult 0 0 (recordOf 0)).applyTime).enterCharting g.sealOnApply

/-- The apply limit of a load attempt expires (R40): every block goes back to its reset values, and the next attempt
follows as after a failed check. -/
def Bridge.loadExpired (b : Bridge) (a : Attempt) : Bridge :=
  let alm := b.alm
  let b := b.resetBlocks b.mode
  let b := ({ b with alm := { b.alm with
    start := alm.start, tickS := alm.tickS, waitService := alm.waitService, held := alm.held } } : Bridge).bootBase.showLatch
  let b := b.refuseLoad a ⟨0x13, 0, recordOf 0x13⟩
  match alm.next with
  | x :: l =>
    let b := if x.slot = a.slot then b else b.set .almStatus Fld.almStatus_SLOT_FALLBACK 1
    b.tryLoads (x :: l)
  | [] => if a.source = 1 then b.enterBare else b

/-- A load attempt ends (R39, R40): applied within its limit, or expired. -/
def Bridge.loadDone (b : Bridge) : Bridge :=
  match b.alm.loading with
  | none => b
  | some (a, g) => if b.alm.start + b.attemptLimit a ≤ b.tick then b.loadExpired a else b.finishLoad a g

/-- The wait for a LOAD from the service port ends, 800 ms after tick s (R423). -/
def Bridge.serviceWaitEnd (b : Bridge) : Bridge :=
  if b.mode ≠ 2 || !b.alm.waitService || b.tick < b.alm.tickS + 40000000 then b else
  let b := { b with
    alm := { b.alm with waitService := false, loading := none, next := [] }
    archReqs := b.archReqs.filter (fun r => r.user ≠ 3) }
  (b.almResult 0x15 0 (recordOf 0x15)).enterBare

def execServiceLoadWaitExpire (s : State) : Host.Outcome State Fault Refusal :=
  .next { s with b := s.b.serviceWaitEnd }

/-! Charting. -/

/-- Whether Charting is complete (R421). -/
def Bridge.charted (b : Bridge) : Bool :=
  b.mode = 4 && b.alm.calibrated &&
    (b.alm.chartStart + 500000 ≤ b.tick || (List.range 4).all (fun p => !b.merEnabled p || b.merReady p))

/-- Charting completes (R394, R429, R443): Observing, or Solo and then what the pair decides. -/
def Bridge.chartDone (b : Bridge) : Bridge :=
  if !b.charted then b else
  let b := b.set .idBoot Fld.idBoot_READY_TICKS (b.tick - b.alm.tickS)
  let b := { b with kept := { b.kept with loops := 0 } }
  if !b.paired then b.setMode 5 else
  let b := b.setMode 8
  let b := if b.pst Fld.ifvPairStat_FORMED = 1 && b.pst Fld.ifvPairStat_RESYNCING = 0 && !b.ifvDown then b.setMode 6 else b
  b.pairDecide

def execChartingComplete (s : State) : Host.Outcome State Fault Refusal :=
  .next { s with b := if s.b.charted then s.b.chartDone.settled s.mem else s.b }

/-- 1 ms after a LOAD in Bare, AP0's link goes to Detect, and the loader function is gone (R425). -/
def execBareRelink (s : State) : Host.Outcome State Fault Refusal :=
  let b := s.b
  .next { s with b := match b.alm.bareRelinkAt with
    | some t =>
      if b.tick < t then b else
      let b := { b.restoreCfg 0 0 with alm := { b.alm with bareRelinkAt := none } }
      ((b.clearMsix 0 0).set (.aptLinkEff 0) Fld.aptLinkEff_STATE 0).settled s.mem
    | none => b }

end Sys2Proof.Machine
end

