-- ==== Sys2Proof/Machine/Power.lean ====
section
/-!
DEFINITION. Dimmed, Park and Service (R394 to R402), shutters (R403 to R405), calibration and the alarm (R401, R408), and
the thermal trip (R489).
-/
namespace Sys2Proof.Machine

open Sys2Proof

/-! Shutters. -/

/-- A domain closes: the seeing monitor loses its maps; a guide-managed dome that the guide opened and that saw no doorbell
counts EARLY (R203, R204, R403). -/
def Bridge.closeDom (b : Bridge) (n : Nat) : Bridge :=
  let g := b.guide n
  let b := b.setDom n 0
  if n = 91 then
    { b with eng := { b.eng with lanes := b.eng.lanes.map (fun (l : Lane) => { l with mapValid := false, maps := [] }) } }
  else if 32 ≤ n || b.get (.pwrDomPol n) Fld.pwrDomPol_POLICY ≠ 1 then b else
  let b := if g.openedByGuide && !g.hit then b.bump (.dspGuideStat n) Fld.dspGuideStat_EARLY else b
  { b with eng := { b.eng with guides := alPut n { g with count := 0, openedByGuide := false, hit := false } b.eng.guides } }

/-- Whether the guide holds a dome open: its next predicted doorbell falls within the opening time and LEAD (R204). -/
def Bridge.guideHolds (b : Bridge) (n : Nat) : Bool := n < 32 && b.guideNear n

/-- Whether an open domain closes now (R403 to R405): idle for its close delay, in a mode in which domains close. -/
def Bridge.closeDue (b : Bridge) (n : Nat) : Bool :=
  2 ≤ b.mode && b.mode ≠ 9 && b.mode ≠ 11 && b.domState n = 2 && !b.busyDomains.contains n && !b.guideHolds n &&
    b.closeLeft n = 0

def execShutterClose (n : Nat) (s : State) : Host.Outcome State Fault Refusal :=
  .next { s with b := if s.b.closeDue n then (s.b.closeDom n).settled s.mem else s.b }

/-- Work needs a closed domain: it starts to open, and the request waits for it (R26, R403). -/
def Bridge.demandDom (b : Bridge) (n : Nat) : Bridge :=
  if b.mode < 2 || b.mode = 9 || 96 ≤ n then b else b.needDom n

def execShutterOpenRequest (n : Nat) (s : State) : Host.Outcome State Fault Refusal :=
  .next { s with b := s.b.demandDom n }

/-! Dimmed and Park. -/

/-- Stop what Dimmed stops (R397): Meridian links go DOWN by command, uncounted; the archive goes to self-refresh; every
domain closes but the Transit I/O domain, which a parked bridge closes too (R401). -/
def Bridge.sleep (b : Bridge) (park : Bool) : Bridge :=
  let b := (List.range 5).foldl (fun (b : Bridge) k =>
    let up := 2 ≤ b.linkState k
    (b.putLink { b.link k with upBeforeDim := up && k < 4 }).linkDown k 7 true) b
  let b := b.sets .arcStat [(Fld.arcStat_READY, 0), (Fld.arcStat_SELF_REFRESH, 1)]
  let keep := if park || b.get .trnBusCfg Fld.trnBusCfg_ENABLE = 0 then 96 else 84
  let b := (b.eng.doms.filter (fun d => d.st ≠ 0 && d.n ≠ keep)).foldl (fun (b : Bridge) d => b.closeDom d.n) b
  { b with
    eng := { b.eng with wakeStart := none, dimSince := none }
    pins := { b.pins with transitFloat := b.pins.transitFloat || park } }

/-- Enter Dimmed (R394, R397). What waits for a domain waits for the wake now (R399). -/
def Bridge.enterDim (b : Bridge) : Bridge :=
  let b := ((b.set .pwrMode Fld.pwrMode_RETURN b.mode).setMode 9).sleep false
  { b with eng := { b.eng with held := b.eng.held ++ b.eng.domHeld.map (fun x => x.2.cmd), domHeld := [] } }

/-- A DIM command (R394, R395): refused with DIM_REFUSED while a reason is present; the reason MODE is a rejected write too. -/
def Bridge.dimCmd (b : Bridge) (w : Writer) : Bridge :=
  if b.mode ≠ 5 && b.mode ≠ 8 then (b.rejectBy w 0x01000108 false 10).raise .pwr 1
  else if b.dimBlock ≠ 0 then b.raise .pwr 1
  else b.enterDim

/-- A write of PWR_MODE_CMD; SERVICE and RELEASE are the board controller's alone (R413). -/
def Bridge.pwrCmd (b : Bridge) (i : Instr) (w : Writer) (svcOnly : Bool) (serve : Bridge → Bridge) : Bridge :=
  b.ctlGate i w 0x01000108 (fun b =>
    if !b.authorised w .pwrModeCmd || (svcOnly && w ≠ .svc) then b.rejectBy w 0x01000108 false 5 else serve b)

def execDim (w : Writer) (s : State) : Host.Outcome State Fault Refusal :=
  .next { s with b := (s.b.pwrCmd (.dim w) w false (fun b => b.dimCmd w)).settled s.mem }

/-- AUTO: every reason has stayed absent for the whole window (R395). -/
def Bridge.dimDue (b : Bridge) : Bool :=
  b.get .pwrDimCfg Fld.pwrDimCfg_AUTO = 1 && b.dimBlock = 0 &&
    (match b.eng.dimSince with | some t => t + b.get .pwrDimCfg Fld.pwrDimCfg_DIM_IDLE ≤ b.tick | none => false)

def execDimIdleExpire (s : State) : Host.Outcome State Fault Refusal :=
  .next { s with b := if s.b.dimDue then s.b.enterDim else s.b }

def execWake (src : Nat) (s : State) : Host.Outcome State Fault Refusal :=
  .next { s with b := if 1 ≤ src && src ≤ 8 then s.b.startWake src else s.b }

/-- The wake is complete: every link that trained for it is READY, or 100 µs have passed (R399). -/
def Bridge.wakeDone (b : Bridge) : Bool :=
  b.mode = 9 && (match b.eng.wakeStart with
    | some t => t + 5000 ≤ b.tick || (List.range 4).all (fun k => !(b.link k).upBeforeDim || b.merReady k)
    | none => false)

/-- Back to the mode of PWR_MODE.RETURN, its domains reopened; the pair then decides what waited for the wake (R384, R399). -/
def Bridge.finishWake (b : Bridge) : Bridge :=
  let b := b.openNow b.neededDomains
  let links := b.eng.links.map (fun (l : Link) => { l with upBeforeDim := false })
  let b := { b with eng := { b.eng with wakeStart := none, links := links } }
  (b.setMode (b.get .pwrMode Fld.pwrMode_RETURN)).pairDecide

/-- PARK (R401): from M5, M8 and M9 with every reason but MODE absent. -/
def Bridge.parkCmd (b : Bridge) (w : Writer) : Bridge :=
  if b.get .pwrMode Fld.pwrMode_PARKED = 1 then b
  else if (b.mode ≠ 5 && b.mode ≠ 8 && b.mode ≠ 9) || 1 < b.dimBlock then b.rejectBy w 0x01000108 false 10
  else
    let b := if b.mode = 9 then b else b.set .pwrMode Fld.pwrMode_RETURN b.mode
    (((b.set .pwrMode Fld.pwrMode_PARKED 1).setMode 9).sleep true).raise .pwr 3

/-- The board controller's PARK in Dimmed takes effect without a wake. -/
def execPark (w : Writer) (s : State) : Host.Outcome State Fault Refusal :=
  .next { s with b := if s.b.mode = 9 && w = .svc then s.b.parkCmd w
    else (s.b.pwrCmd (.park w) w false (fun b => b.parkCmd w)).settled s.mem }

/-! Service. -/

/-- SERVICE (R394, R402). -/
def Bridge.serviceCmd (b : Bridge) (w : Writer) : Bridge :=
  if b.mode = 5 || b.mode = 6 || b.mode = 8 then (b.set .pwrMode Fld.pwrMode_RETURN b.mode).setMode 10
  else b.rejectBy w 0x01000108 false 10

def execService (w : Writer) (s : State) : Host.Outcome State Fault Refusal :=
  .next { s with b := (s.b.pwrCmd (.service w) w true (fun b => b.serviceCmd w)).settled s.mem }

/-- RELEASE: back to the mode of PWR_MODE.RETURN. -/
def Bridge.releaseCmd (b : Bridge) (w : Writer) : Bridge :=
  if b.mode = 10 then (b.setMode (b.get .pwrMode Fld.pwrMode_RETURN)).pairDecide
  else b.rejectBy w 0x01000108 false 10

/-! Calibration, alarm, thermal trip. -/

/-- The reference that calibration counts (R408): the one that REF selects, or the first present. -/
def Bridge.calRef (b : Bridge) : Option Nat :=
  let there := fun (k : Nat) => b.get (.lneRefStat k) Fld.lneRefStat_PRESENT = 1
  match b.get .pwrSidCal Fld.pwrSidCal_REF with
  | 0 => (List.range 9).find? there
  | k + 1 => if there k then some k else none

/-- TRIM and residual error in ppm from the edges counted in a window, under the present TRIM (R408): the count's excess or
lack is the clock's error, a step is 2,500 ppm, TRIM is the nearest of -25 to 25. -/
def trimOf (nominal n : Nat) (trim : Int) : Int × Int :=
  let e : Int := ((nominal : Int) - (n : Int)) * 1000000 / (n : Int)
  let raw := e - 2500 * trim
  let t := max (-25) (min 25 (-((2 * raw + 2500) / 5000)))
  (t, raw + 2500 * t)

/-- A calibration window ends (R408). -/
def Bridge.calEnd (b : Bridge) (edges : Option Nat) : Bridge :=
  let b := { b with eng := { b.eng with calStart := none }, alm := { b.alm with calibrated := true } }
  match b.calRef, edges with
  | some k, some n =>
    if n = 0 then b.raise .pwr 5 else
    let r := trimOf (10 * refNominal k) n ((BitVec.ofNat 6 (b.get .pwrSidCal Fld.pwrSidCal_TRIM)).toInt)
    (b.sets .pwrSidCal [(Fld.pwrSidCal_TRIM, (BitVec.ofInt 6 r.1).toNat), (Fld.pwrSidCal_CALIBRATED, 1),
      (Fld.pwrSidCal_ERROR_PPM, (BitVec.ofInt 16 r.2).toNat)]).raise .pwr 4
  | _, _ => b.raise .pwr 5

/-- The modes in which calibrations start (R408). -/
def Bridge.calibrates (b : Bridge) : Bool := (4 ≤ b.mode && b.mode ≤ 8) || b.mode = 10

def execCalibrationDone (edges : Option Nat) (s : State) : Host.Outcome State Fault Refusal :=
  let b := s.b
  .next { s with b := match b.eng.calStart with
    | some t => if t + 500000 ≤ b.tick && b.calibrates then b.calEnd edges else b
    | none => b }

/-- PERIOD_MS has passed since the last calibration began. -/
def execCalibrationPeriod (s : State) : Host.Outcome State Fault Refusal :=
  let b := s.b
  .next { s with b :=
    if b.calibrates && b.get .pwrSidCal Fld.pwrSidCal_AUTO = 1 && b.eng.calStart.isNone &&
      b.eng.calPeriod + 50000 * b.get .pwrSidCal Fld.pwrSidCal_PERIOD_MS ≤ b.tick
    then { b with eng := { b.eng with calStart := some b.tick, calPeriod := b.tick } } else b }

/-- The tick of PWR_SID_WAKE arrives: WAKE_N is asserted in M1 and at no other time (R401, R414). -/
def execSiderealAlarm (s : State) : Host.Outcome State Fault Refusal :=
  let b := s.b
  .next { s with b :=
    if b.mode = 1 && b.get .pwrSidWake Fld.pwrSidWake_EN = 1 && b.get .pwrSidWake Fld.pwrSidWake_ALARM = b.tick
    then { b with pins := { b.pins with wakeN := true } } else b }

/-- The junction reaches 115 °C (R489). -/
def execThermtrip (s : State) : Host.Outcome State Fault Refusal :=
  .next { s with b := if s.b.mode = 0 then s.b else { s.b with pins := { s.b.pins with thermtrip := true } } }

end Sys2Proof.Machine
end

