-- ==== Sys2Proof/Machine/Quarantine.lean ====
section
/-!
DEFINITION. Fatal internal errors, Quarantine and its end (R441 to R443, R449).
-/
namespace Sys2Proof.Machine

open Sys2Proof

/-- A link goes DOWN with cause COMMAND as the bridge freezes: what was in flight on it stays for readout (R366, R441). -/
def Bridge.freezeLink (b : Bridge) (k : Nat) : Bridge :=
  if b.linkState k = 0 then b else
  let b := if b.linkUp k then b.control k 4 0 else b
  let b := b.putLink { b.link k with downAt := b.tick }
  let b := b.lset k [(Fld.ifvLinkStat_STATE, 0), (Fld.ifvLinkStat_DOWN_CAUSE, 7), (Fld.ifvLinkStat_LANES, 0),
    (Fld.ifvLinkStat_WIDTH, 0)]
  let b := ((b.bump (.ifvLinkCnt k) Fld.ifvLinkCnt_DOWNS).life (20 + k)).raise .ifv 1
  let b := b.record 0x0F .ifv none none (wmk [(⟨0, 3⟩, k), (⟨4, 4⟩, 7)]) (b.raw (.ifvLinkCnt k))
  if k < 4 then b.set (.merPortStat k) Fld.merPortStat_READY 0 else b

/-- A fatal internal error (R441): from M2 to M10 into Quarantine; in Quarantine it sets LATER and nothing else. -/
def Bridge.fatal (b : Bridge) (cause struct index : Nat) : Bridge :=
  if b.mode = 11 then b.set .fltQuarStat Fld.fltQuarStat_LATER 1
  else if b.mode < 2 || b.heldReset then b else
  let b := b.sets .fltQuarStat [(Fld.fltQuarStat_CAUSE, cause), (Fld.fltQuarStat_STRUCT, struct), (Fld.fltQuarStat_INDEX, index)]
  let b := (b.set .fltQuarTick Fld.fltQuarTick_TICK b.tick).setMode 11
  let b := { b.putPair { b.eng.pair with hbHold := true, hbOut := false } with
    pins := { b.pins with transitFloat := true } }
  let b := (List.range 5).foldl (fun (b : Bridge) k => b.freezeLink k) b
  let b := (List.range 4).foldl (fun (b : Bridge) a => if b.apTrained a then b.aer a 0 aerInternal else b) b
  (b.record 0x13 .flt none none (b.derived [] .fltQuarStat) 0).life 2

def execFatalInternalError (cause struct index : Nat) (s : State) : Host.Outcome State Fault Refusal :=
  let at1 := fun (n : Nat) => if cause = 1 then n else 0
  .next { s with b := if 1 ≤ cause && cause ≤ 5 then s.b.fatal cause (at1 struct) (at1 index) else s.b }

/-- The Quarantine self-reset (R426, R442, R443). -/
def Bridge.selfReset (b : Bridge) (straps : Straps) (slot0 slot1 : FlashSlot) : Bridge :=
  let b := ({ b with kept := { b.kept with loops := min 3 (b.kept.loops + 1) } }).life 3
  (((b.resetBlocks 2).raise .pwr 0).pinsOff).startBoot 3 straps slot0 slot1

/-- Whether an eyepiece capture is in progress that a self-reset waits for: no capture lasts longer than 10 µs (R442, R445). -/
def Bridge.capturing (b : Bridge) : Bool := b.eng.eyes.any (fun e => e.busy && b.tick < e.start + b.ladder 3)

/-- Whether the hold is over (R442): level 14 has passed with HOLD at 0, or RELEASE has been written, and no capture is in
progress. -/
def Bridge.holdOver (b : Bridge) : Bool :=
  b.mode = 11 && !b.capturing && (b.get .fltQuarCtrl Fld.fltQuarCtrl_RELEASE = 1 ||
    (b.get .fltQuarTick Fld.fltQuarTick_TICK + b.ladder 14 ≤ b.tick && b.get .fltQuarCtrl Fld.fltQuarCtrl_HOLD = 0))

def execQuarantineHoldExpire (straps : Straps) (slot0 slot1 : FlashSlot) (s : State) : Host.Outcome State Fault Refusal :=
  .next { s with b := if s.b.holdOver then s.b.selfReset straps slot0 slot1 else s.b }

/-- A write of FLT_QUAR_CTRL, which Quarantine does not reject (R441): the board controller's alone. -/
def Bridge.quarCmd (b : Bridge) (i : Instr) (w : Writer) (serve : Bridge → Bridge) : Bridge :=
  let go := fun (b : Bridge) => if w = .svc then serve b else b.rejectBy w 0x01100200 false 5
  if b.mode = 11 then (if b.writerThere w then go (b.svcMark w false) else b) else b.ctlGate i w 0x01100200 go

def execHold (w : Writer) (v : Bool) (s : State) : Host.Outcome State Fault Refusal :=
  .next { s with b := (s.b.quarCmd (.hold w v) w (fun b => b.set .fltQuarCtrl Fld.fltQuarCtrl_HOLD (bit v))).settled s.mem }

def execEnter (w : Writer) (s : State) : Host.Outcome State Fault Refusal :=
  .next { s with b := (s.b.quarCmd (.enter w) w (fun b => b.fatal 6 0 0)).settled s.mem }

/-- RELEASE self-resets at once, or at the end of the captures in progress (R442); outside Quarantine it does nothing. -/
def execQuarantineRelease (w : Writer) (straps : Straps) (slot0 slot1 : FlashSlot) (s : State) : Host.Outcome State Fault Refusal :=
  .next { s with b := (s.b.quarCmd (.quarantineRelease w straps slot0 slot1) w (fun b =>
    if b.mode ≠ 11 then b
    else if b.capturing then b.set .fltQuarCtrl Fld.fltQuarCtrl_RELEASE 1
    else b.selfReset straps slot0 slot1)).settled s.mem }

end Sys2Proof.Machine
end

