-- ==== Sys2Proof/Machine/AlmCmds.lean ====
section
/-!
DEFINITION. The almanac's commands (R38, R40 to R47, R51) and the refusal of write-through changes that the partner does
not acknowledge (R45, R116, R219, R378).
-/
namespace Sys2Proof.Machine

open Sys2Proof

/-! Refused write-through changes. -/

/-- A commit in progress is over with a refusal (R45, R47). The spec does not say what becomes of the staged patch when its COMMIT is
refused (0x10, 0x13, 0x14): it stays staged, so COMMIT may be given again (log entry 101). -/
def Bridge.refuseCommit (b : Bridge) (code : Nat) : Bridge :=
  let b := { b with alm := { b.alm with committing := false, mirroring := false, patchSeq := none } }
  (b.almResult code 0 (recordOf code)).applyTime

/-- Report the refusal of a write-through command to its writer; `code` is the VI_CMD_STATUS code that a partner's refusal
carries (R116, R214, R219, R376). -/
def Bridge.refuseAction (b : Bridge) (code : Nat) : Option Instr → Bridge
  | some (.catCommit w i) => b.commitStatus w.bank i 8 true
  | some (.create w _ _) => b.viStatus w.bank code 0
  | some (.destroy w _ v) => b.viStatus w.bank code v
  | some (.reset w _ v) => b.viStatus w.bank code v
  | some (.commit _) => if b.alm.committing then b.refuseCommit 0x14 else b
  | some (.swapTo _ a) => b.set (.dspSchedCmd a) Fld.dspSchedCmd_PEND_TO 0
  | some (.swapFrom _ a) => b.set (.dspSchedCmd a) Fld.dspSchedCmd_PEND_FROM 0
  | _ => b

/-- Refuse every unacknowledged change from a sequence on, and retract them on the partner (R378). -/
def Bridge.retractFrom (b : Bridge) (seq : Nat) (count : Bool) : Bridge :=
  let l := b.eng.pair.outgoing.filter (fun x => seq ≤ x.seq)
  let b := b.putPair { b.eng.pair with outgoing := b.eng.pair.outgoing.filter (fun x => x.seq < seq) }
  let b := if count then (b.bump .ifvMirrorStat Fld.ifvMirrorStat_TIMEOUTS l.length).raise .ifv 13 else b
  let b := b.sendMirror (mirrorPacket 8 0 [BitVec.ofNat 64 seq])
  (l.foldl (fun (b : Bridge) x => b.refuseAction 9 x.action) b).sendChanges 64

/-- The records of a patch that have not gone to the partner yet go no more. -/
def Bridge.dropPatchQueue (b : Bridge) : Bridge :=
  b.putPair { b.eng.pair with queued := b.eng.pair.queued.filter (fun x =>
    match x.2 with | some (.commit _) => false | _ => true) }

/-- A patch is refused whole: every record of it, sent or not, from its first sequence on (R45). -/
def Bridge.retractPatch (b : Bridge) (seq : Nat) (count : Bool) : Bridge :=
  let b := b.dropPatchQueue.retractFrom seq count
  if b.alm.committing then b.refuseCommit 0x14 else b

/-! STAGE, CANCEL, SEAL, COMPACT. -/

/-- The image in the shelf: as many bytes as its LENGTH names, at least a smallest image and at most the shelf (R38). -/
def shelfImage (m : List Host.Cell) : List Byte :=
  memRead m 0 (min 8388608 (max 512 (natOfBytes (memRead m 0x0C 4))))

/-- A command is refused with a code of R47. -/
def Bridge.almRefuse (b : Bridge) (code : Nat) : Bridge := b.almResult code 0 (recordOf code)

/-- Ask the archive for the shelf image, at rank 3, after the shelf accesses that wait (R16): `user` 3 a LOAD, 5 a STAGE. The almanac
engine's domain opens for it (R403). -/
def Bridge.askShelf (b : Bridge) (user arg : Nat) : Bridge :=
  let (id, b) := (b.openDom 95).fresh
  let r : ArchReq := { id := id, rank := 3, t0 := b.tick, job := none, user := user, arg := arg }
  { b.needDoms [81, 82] with archReqs := b.archReqs ++ [r] }

/-- STAGE begins (R42): it reads the shelf behind the accesses made before it (log entry 102). -/
def Bridge.beginStage (b : Bridge) : Bridge := (b.put .almResult 0).askShelf 5 0

/-- STAGE ends with its image, or without one (R42, R34). -/
def Bridge.stagePatch (b : Bridge) (bytes : Option (List Byte)) : Bridge :=
  match bytes with
  | none => b.almResult 0x15 0 (recordOf 0x15)
  | some l => match b.stageCheck l with
    | .inl r => b.almResult r.code r.sect r.rec_
    | .inr p => ({ b with alm := { b.alm with staged := some p } } : Bridge).almResult 0 0 (recordOf 0)

/-- SEAL (R46): at or after the entry to Charting. -/
def Bridge.sealCmd (b : Bridge) : Bridge :=
  if b.mode < 4 then b.almRefuse 0x0E else (b.set .almStatus Fld.almStatus_SEALED 1).almResult 0 0 (recordOf 0)

/-! COMMIT. -/

/-- The delta records of a patch, in the order of application (R42, R49). -/
def Image.deltas (p : Image) : List DeltaRec :=
  liveOrder.flatMap (fun t => (p.records t).map (fun r =>
    if t = 0x0101 then DeltaRec.catEntry (un r 0 4) (wordsOfBytes 4 (r.drop 4)) else .sect t (sectBody t [r])))

/-- COMMIT begins (R42, R45): the in-use checks again; in Paired mode the patch goes to the partner first. -/
def Bridge.beginCommit (b : Bridge) (w : Writer) (p : Image) : Bridge :=
  match b.inUse p with
  | some r => b.almResult r.code r.sect r.rec_
  | none =>
    let b := { (b.put .almResult 0).openDom 95 with alm := { b.alm with committing := true, start := b.tick } }
    let l := p.deltas
    if !b.mirrors || l = [] then b else
    let seq := (b.eng.pair.txSeq + 1 + b.eng.pair.queued.length) % 2 ^ 32
    let b := { b with alm := { b.alm with mirroring := true, patchSeq := some seq } }
    l.foldl (fun (b : Bridge) x => b.mirror (.delta x) (some (.commit w))) b

/-- Apply a committed patch, and record it in the delta log (R42, R43, R49). -/
def Bridge.applyPatch (b : Bridge) (p : Image) : Bridge :=
  let old := b.logMib
  let b := { b with alm := { b.alm with inForce := b.alm.inForce.map (fun (g : Image) => g.patched p) } }
  let b := liveOrder.foldl (fun (b : Bridge) t => (p.records t).foldl (fun (b : Bridge) r => b.liveRecord false t r) b) b
  let b := p.deltas.foldl (fun (b : Bridge) d => b.appendDelta d) b
  if b.logMib = old then b else b.raise .arc 1

/-- The apply limit of a commit expires (R40): what it had changed returns to its state before COMMIT, but each catalogue
entry restored has advanced its generation once for its commits and once more. How many records had been applied is open:
a free value. -/
def Bridge.commitExpired (b : Bridge) (p : Image) : Bridge :=
  let rs := p.records 0x0101
  let n := if b.alm.mirroring then 0 else (Config.freeValue b.freeCtr).toNat % (rs.length + 1)
  let done := ((rs.take n).map (fun r => un r 0 4))
  let b := { b with freeCtr := b.freeCtr + 1 }
  let b := done.eraseDups.foldl (fun (b : Bridge) i =>
    b.set (.catEntry i 0) entGEN (b.ent i entGEN + (done.filter (· = i)).length + 1)) b
  let seq := b.alm.patchSeq
  let b := b.refuseCommit 0x13
  match seq with
  | none => b
  | some q => b.retractPatch q false

/-- Whether the limit of the commit in progress has expired. -/
def Bridge.commitLate (b : Bridge) : Bool := b.alm.start + b.get .almApplyLimit Fld.almApplyLimit_TICKS ≤ b.tick

/-- A commit ends (R42): applied, once the engine's domain is open (R26, R403), or expired when its limit has passed. -/
def Bridge.commitDone (b : Bridge) : Bridge :=
  if !b.alm.committing || b.alm.mirroring || !b.domsOpen [95] then b else
  match b.alm.staged with
  | none => b.refuseCommit 0x12
  | some p =>
    if b.commitLate then b.commitExpired p else
    let b := b.applyPatch p
    let b := match b.alm.patchSeq with
      | some q => b.putPair { b.eng.pair with lastApplied := max b.eng.pair.lastApplied (q + p.deltas.length - 1) }
      | none => b
    let b := { b with alm := { b.alm with staged := none, committing := false, patchSeq := none } }
    (b.almResult 0 0 (recordOf 0)).applyTime

/-- The apply limit expires (R40), for a load attempt or a live commit; before that nothing changes. -/
def Bridge.applyLimit (b : Bridge) : Bridge :=
  match b.alm.loading with
  | some (a, _) => if b.alm.start + b.attemptLimit a ≤ b.tick then b.loadExpired a else b
  | none =>
    match b.alm.staged with
    | some p => if b.alm.committing && b.commitLate then b.commitExpired p else b
    | none => b

/-! LOAD. -/

/-- LOAD begins (R38, R40): the archive is asked for the shelf image, at rank 3 (R16). -/
def Bridge.beginLoad (b : Bridge) (w : Writer) : Bridge :=
  let b := (b.put .almResult 0).set .almStatus Fld.almStatus_AUX_LOST (bit b.kept.latch)
  ({ b with alm := { b.alm with start := b.tick, next := [] } } : Bridge).askShelf 3 (if w = .svc then 3 else 2)

/-- The archive has delivered the shelf image of a LOAD from `source`, or has not (R34, R435). -/
def Bridge.shelfRead (b : Bridge) (source : Nat) (bytes : Option (List Byte)) : Bridge :=
  let a : Attempt := ⟨source, 0, 0, bytes⟩
  match b.loadCheck bytes with
  | .inl r => b.refuseLoad a r
  | .inr g => { b with alm := { b.alm with loading := some (a, g) } }

/-! The command register. -/

/-- COMPACT waits for the engine's domain (R26, R51, R403). -/
def Bridge.compactCmd (b : Bridge) (w : Writer) : Bridge :=
  b.whenOpen [95] (.compact w) (fun b => b.compact.almResult 0 0 (recordOf 0))

/-- A write of ALM_CMD by `w`, with the refusals of R47 in their order. -/
def Bridge.almCmd (b : Bridge) (w : Writer) (cmd : Nat) : Bridge :=
  let sealed_ : Bool := b.get .almStatus Fld.almStatus_SEALED = 1
  if b.almBusy then b.almRefuse 0x12
  else if (cmd = 4 || cmd = 5) && sealed_ then b.almRefuse 0x16
  else if cmd = 5 && b.mode ≠ 2 && b.mode ≠ 3 then b.almRefuse 0x0E
  else match cmd with
    | 1 => b.beginStage
    | 2 => match b.alm.staged with | some p => b.beginCommit w p | none => b.almRefuse 0x12
    | 3 => ({ b with alm := { b.alm with staged := none } } : Bridge).almResult 0 0 (recordOf 0)
    | 4 => b.sealCmd
    | 5 => b.beginLoad w
    | _ => b.compactCmd w

/-- A command row that writes ALM_CMD: the chief director's and the board controller's (R4, R42). -/
def Bridge.almRow (b : Bridge) (i : Instr) (w : Writer) (cmd : Nat) : Bridge :=
  b.ctlGate i w 0x00100100 (fun b =>
    if b.authorised w .almCmd then b.almCmd w cmd else b.rejectBy w 0x00100100 false 5)

def execStage (w : Writer) (s : State) : Host.Outcome State Fault Refusal :=
  .next { s with b := (s.b.almRow (.stage w) w 1).settled s.mem }

def execCommit (w : Writer) (s : State) : Host.Outcome State Fault Refusal :=
  .next { s with b := (s.b.almRow (.commit w) w 2).settled s.mem }

def execCancel (w : Writer) (s : State) : Host.Outcome State Fault Refusal :=
  .next { s with b := (s.b.almRow (.cancel w) w 3).settled s.mem }

def execSeal (w : Writer) (s : State) : Host.Outcome State Fault Refusal :=
  .next { s with b := (s.b.almRow (.seal w) w 4).settled s.mem }

def execLoad (w : Writer) (s : State) : Host.Outcome State Fault Refusal :=
  .next { s with b := (s.b.almRow (.load w) w 5).settled s.mem }

def execCompact (w : Writer) (s : State) : Host.Outcome State Fault Refusal :=
  .next { s with b := (s.b.almRow (.compact w) w 6).settled s.mem }

end Sys2Proof.Machine
end

