-- ==== Sys2Proof/Machine/ArchiveCmds.lean ====
section
/-!
DEFINITION. The archive arbiter (R16, R435, R470): which request is served next, what serving does, the spills and refills of
the logbooks among it (R256), and the two ways in which a request fails.
-/
namespace Sys2Proof.Machine

open Sys2Proof

/-- Count archive bytes of a rank's users: 0 journal, 1 spill, 2 eyepiece, 3 data (R470). -/
def Bridge.archCount (b : Bridge) (k n : Nat) : Bridge :=
  { b with eng := { b.eng with archUsed := b.eng.archUsed.set k (b.eng.archUsed.getD k 0 + n) } }

/-- The request that the arbiter serves now, while the archive's domains are open: the least rank; within rank 3 spills and data
accesses take turns (R12, R16, R26). -/
def Bridge.archNext (b : Bridge) : Option ArchReq :=
  if !b.domsOpen [81, 82] then none else
  let rank := b.archReqs.foldl (fun n r => min n r.rank) 5
  let l := b.archReqs.filter (fun r => r.rank = rank)
  match (if rank = 3 then l.find? (fun r => (r.user = 1) = b.eng.archTurn) else none) with
  | some r => some r
  | none => l.head?

/-- Take a request off the arbiter; the turn within rank 3 passes. -/
def Bridge.archTake (b : Bridge) (r : ArchReq) : Bridge :=
  { b with
    archReqs := b.archReqs.filter (fun x => x.id ≠ r.id)
    eng := { b.eng with archTurn := if r.rank = 3 then decide (r.user ≠ 1) else b.eng.archTurn } }

/-- Drop the journal item that a request was to write (R379). -/
def Bridge.archDrop (b : Bridge) (id : Nat) : Bridge :=
  b.putPair { b.eng.pair with journal := b.eng.pair.journal.filter (fun x => x.1 ≠ id) }

/-- A request fails to its requester without data (R16, R34, R90, R257, R379, R446). -/
def Bridge.archFail (b : Bridge) (r : ArchReq) : Bridge :=
  match r.user with
  | 0 => match r.job with
    | some j => b.finish j (.err .archiveTimeout)
    | none => b
  | 1 => b.spillFail r.arg
  | 2 => b.archDrop r.id
  | 3 => b.shelfRead r.arg none
  | 5 => b.stagePatch none
  | _ => b.eyeFail r.arg

/-- The archive's answer to a data access. -/
def Job.archAnswer (j : Job) (m : List Host.Cell) : Res :=
  match j.op with
  | .read n => .ok (memRead m j.addr n) false
  | _ => .ok [] false

/-- The archive transfer of a queue has been done: a spill has emptied the oldest tail slots, or a refill has filled the head
window, so that waiting reads are served and the next transfer may start (R256). -/
def Bridge.spillDone (b : Bridge) (q : Nat) : Bridge :=
  let x := b.queue q
  if !x.busy then b else
  let held := x.heldSlots
  let n := held.2 - held.1
  let y : Queue := if 0 < x.moving then { x with tail := x.tail - n } else { x with head := n }
  let b := (((b.putQueue q { y with busy := false, moving := 0 }).archCount 1 (8 * n)).moveQueue q)
  b.serveStalled q (x.stalled.length + 1)

/-- A request is served; `m` is the archive memory before it. -/
def Bridge.archDone (b : Bridge) (m : List Host.Cell) (r : ArchReq) : Bridge :=
  match r.user with
  | 0 => match r.job with
    | some j => (b.archCount 3 j.span).finish j (j.archAnswer m)
    | none => b
  | 1 => b.spillDone r.arg
  | 2 => (b.archCount 0 64).journalled r.id true
  | 3 => (b.archCount 3 (shelfImage m).length).shelfRead r.arg (some (shelfImage m))
  | 5 => (b.archCount 3 (shelfImage m).length).stagePatch (some (shelfImage m))
  | _ => ((b.archCount 2 64).eyeShow r.arg false).eyeDone r.arg

/-- What a served request writes to the archive: a data write its enabled bytes. -/
def ArchReq.stored (r : ArchReq) (m : List Host.Cell) : List Host.Cell :=
  match r.job with
  | some j => match j.op with
    | .write d _ => memWrite m j.addr d
    | _ => m
  | none => m

/-- Whether a request reads archive data. -/
def ArchReq.reads (r : ArchReq) : Bool :=
  match r.job with
  | some j => match j.op with | .read _ => true | _ => false
  | none => true

/-- An uncorrectable error in what a request read (R435): counted, recorded for the users that R437 names, contained. -/
def Bridge.archBad (b : Bridge) (r : ArchReq) : Bridge :=
  let b := (b.bump .fltEcc Fld.fltEcc_ARCHIVE_UNCORR).raise .flt 3
  let user : Nat := match r.user with | 1 => 1 | 2 => 3 | 3 => 2 | 5 => 2 | 4 => 4 | _ => 0
  let b := if user = 0 then b else
    b.draw.2.record 0x12 .arc none none b.draw.1 (BitVec.ofNat 64 user)
  if r.user = 2 then b.journalled r.id false else b.archFail r

/-- Serve the arbiter's next request. -/
def State.archServe (s : State) (e : ArchiveEnd) (r : ArchReq) : State :=
  let b := s.b.archTake r
  if e = .uncorrectable && r.reads then { s with b := (b.archBad r).settled s.mem }
  else { s with mem := r.stored s.mem, b := (b.archDone s.mem r).settled (r.stored s.mem) }

/-- An archive request is served (R16): in every mode in which the archive is ready. -/
def execArchiveRequestServed (e : ArchiveEnd) (s : State) : Host.Outcome State Fault Refusal :=
  .next (if s.b.get .arcStat Fld.arcStat_READY = 0 || s.b.mode = 11 then s else
    match s.b.archNext with
    | some r => s.archServe e r
    | none => s)

/-- A spill or refill of queue `q` has its turn at the arbiter and is done (R16, R256). -/
def execSpillRefillDone (q : Nat) (s : State) : Host.Outcome State Fault Refusal :=
  .next (if s.b.get .arcStat Fld.arcStat_READY = 0 || s.b.mode = 11 then s else
    match s.b.archNext with
    | some r => if r.user = 1 && r.arg = q then s.archServe .served r else s
    | none => s)

/-- The archive request timeout, level 3 (R16, R430): counted, and the request fails to its requester. -/
def Bridge.archTimeout (b : Bridge) (id : Nat) : Bridge :=
  match b.archReqs.find? (fun r => r.id = id) with
  | none => b
  | some r =>
    if b.tick < r.t0 + b.ladder 3 then b
    else (((b.archTake r).bump .arcStat Fld.arcStat_TIMEOUTS).raise .arc 0).archFail r

def execArchiveTimeout (id : Nat) (s : State) : Host.Outcome State Fault Refusal :=
  .next { s with b := if s.b.mode = 11 then s.b else (s.b.archTimeout id).settled s.mem }

end Sys2Proof.Machine
end

