-- ==== Sys2Proof/Machine/LinkCmds.lean ====
section
/-!
DEFINITION. The commands of the reliable links (R344 to R366).
-/
namespace Sys2Proof.Machine

open Sys2Proof

def execPayload (k : Nat) (h : FlitHdr) (words : List Word) (corrected : Bool) (s : State) : Host.Outcome State Fault Refusal :=
  .next { s with b := (s.b.payload k h words corrected).settled s.mem }

def execIdle (k : Nat) (h : FlitHdr) (corrected : Bool) (s : State) : Host.Outcome State Fault Refusal :=
  .next { s with b := (s.b.idleFlit k h corrected).settled s.mem }

def execBadFlit (k : Nat) (s : State) : Host.Outcome State Fault Refusal := .next { s with b := (s.b.badFlit k).settled s.mem }

/-- A PAUSE flit, or training symbols in place of flits, start a pause: the lanes are the far end's to re-lock, and this end answers
with HOLD on every lane but those it must re-lock itself (R361). -/
def execPause (k : Nat) (_lanes : BitVec 16) (s : State) : Host.Outcome State Fault Refusal :=
  .next { s with b := (s.b.startPause k 0).settled s.mem }

def execRetrainReq (k : Nat) (ctl : CtlWord) (s : State) : Host.Outcome State Fault Refusal :=
  .next { s with b := (s.b.retrainReq k ctl).settled s.mem }

/-- A RETRAIN_ACK answers this end's request (R362). -/
def execRetrainAck (k : Nat) (_ctl : CtlWord) (s : State) : Host.Outcome State Fault Refusal :=
  .next { s with b := (if (s.b.link k).reqSent.isSome then s.b.startRetrain k else s.b).settled s.mem }

/-- A DOWN flit: FAR_DOWN (R366). -/
def execDown (k : Nat) (s : State) : Host.Outcome State Fault Refusal :=
  .next { s with b := (s.b.linkDown k 6).settled s.mem }

/-- The replay timer was not restarted within [t, t + R) (R355); it does not run during a pause or retrain (R364). It runs anew from the
replay its expiry begins (log entry 130). -/
def execReplayTimerExpire (k : Nat) (s : State) : Host.Outcome State Fault Refusal :=
  let l := s.b.link k
  .next { s with b := (match l.buf with
    | f :: _ =>
      if s.b.linkState k = 2 && l.replayFrom + s.b.replayTicks k ≤ s.b.tick then
        (s.b.putLink { l with replayFrom := s.b.tick }).replay k f.seq true
      else s.b
    | [] => s.b).settled s.mem }

/-- A credit kind has been awaited for the credit timeout (R358). -/
def execCreditTimeout (k kind : Nat) (s : State) : Host.Outcome State Fault Refusal :=
  .next { s with b := (match (s.b.link k).creditWait.find? (fun (p : Nat × Nat) => p.1 = kind) with
    | some p => if s.b.linkState k = 2 && p.2 + s.b.creditTicks k ≤ s.b.tick then (s.b.raise .ifv 4).linkDown k 2 else s.b
    | none => s.b).settled s.mem }

/-- DOWN_HOLD has passed with AUTO_UP set, or with UP commanded meanwhile (R366); AUTO_UP is not acted on during Dimmed (R397). -/
def execDownHoldExpire (k : Nat) (s : State) : Host.Outcome State Fault Refusal :=
  let b := s.b
  let due := b.linkState k = 0 && (b.get (.ifvLinkCtrl k) Fld.ifvLinkCtrl_AUTO_UP = 1 || (b.link k).upAsked) &&
    (b.link k).downAt + b.get (.ifvLinkCtrl k) Fld.ifvLinkCtrl_DOWN_HOLD ≤ b.tick && 4 ≤ b.mode && b.mode ≠ 9 && b.mode ≠ 11
  .next { s with b := if due then (b.startTraining k).settled s.mem else b }

def execTrainingPhaseDone (k : Nat) (info : TrainInfo) (s : State) : Host.Outcome State Fault Refusal :=
  .next { s with b := (s.b.phaseDone k info).settled s.mem }

def execTrainingPhaseTimeout (k : Nat) (s : State) : Host.Outcome State Fault Refusal :=
  .next { s with b := (s.b.phaseTimeout k).settled s.mem }

/-- Every 1 µs without an ACK the request is sent again (R362). -/
def execRetrainReqResend (k : Nat) (s : State) : Host.Outcome State Fault Refusal :=
  .next { s with b := match (s.b.link k).reqSent with
    | some t => if t + 50 ≤ s.b.tick then s.b.requestRetrain k else s.b
    | none => s.b }

/-- A retrain longer than 40 µs from the ACK (R362). -/
def execRetrainTimeout (k : Nat) (s : State) : Host.Outcome State Fault Refusal :=
  .next { s with b := (match (s.b.link k).ackAt with
    | some t => if s.b.linkState k = 4 && t + 2000 < s.b.tick then s.b.linkDown k 3 else s.b
    | none => s.b).settled s.mem }

end Sys2Proof.Machine
end

