-- ==== Sys2Proof/Machine/Barriers.lean ====
section
/-!
DEFINITION. The barrier commands (R139 to R142, R150): the posted and the read form, completion and the read-form limit.
-/
namespace Sys2Proof.Machine

open Sys2Proof

/-- Post a barrier of a function (R141): its entry joins the posting buffer. -/
def Bridge.postBarrier (b : Bridge) (ap fn scope : Nat) : Bridge :=
  let (id, b) := b.startBarrier ap fn scope 0 0 none (.hostFn ap fn)
  let j : Job := { id := id, origin := .hostWrite, src := .hostFn ap fn, owner := none, director := false, idx := 0, gen := 0,
                   space := 4, port := ap, addr := 0, op := .flush, off := 0, order := 0, fn := fn, t0 := b.tick }
  b.pbPush { ap := ap, fn := fn, kind := .barrier, job := j, width := 1 }

/-- Start a read-form barrier of a function, which answers the host of Aperture `reader`, or the service port (R141). -/
def Bridge.readBarrier (b : Bridge) (ap fn scope tag : Nat) (reader : Option Nat) : Bridge :=
  let (id, b) := b.startBarrier ap fn scope 1 tag none (.hostFn ap fn)
  { b with barriers := b.barriers.map (fun x => if x.id = id then { x with reader := reader } else x) }

/-- A write of SCOPE to ORD_BARRIER; SCOPE 3 starts nothing (R141). -/
def Bridge.postBy (b : Bridge) (s : BarSel) (scope : Nat) : Bridge :=
  match s with
  | .vf ap vf => if 3 ≤ scope then b.rejectVf .ord vf 0x6F00 11 else b.postBarrier ap vf scope
  | .pf0 w ap =>
    let off := 0x600100 + 0x40 * ap
    if 4 ≤ ap then b.rejectBy w off false 4
    else if !b.authorised w (.ordBarrier ap) then b.rejectBy w off false 5
    else if b.part.apertures ≤ ap then b.rejectBy w off false 7
    else if 3 ≤ scope then b.rejectBy w off false 11
    else b.postBarrier ap 0 scope

/-- A posted barrier of a VF through its BAR0, or of PF0 through control space. -/
def execBarrierPost (s : BarSel) (scope : Nat) (st : State) : Host.Outcome State Fault Refusal :=
  let i := Instr.barrierPost s scope
  .next { st with b := (match s with
    | .vf ap vf => st.b.hostGate i ap (fun b => b.fcGate i ap (fun b =>
        if vf = 0 || !b.fnAnswers ap vf then b.bump (.aptFnEvents ap) Fld.aptFnEvents_DROPPED_POSTED
        else if 1024 ≤ b.pbWaiting ap + b.pbIssued ap && scope < 3 then b.fcHold ap i
        else b.postBy s scope))
    | .pf0 w ap => st.b.ctlGate i w (0x600100 + 0x40 * ap) (fun b => b.postBy s scope)).settled st.mem }

/-- Whether a read of control space by `w` at an offset goes ahead now: in Dimmed the board controller reads PWR_ and FLT_
registers, anything else wakes and waits (R398, R399); in Service a director's waits (R402). -/
def Bridge.readGate (b : Bridge) (i : Instr) (w : Writer) (off : Nat) (serve : Bridge → Bridge) : Bridge :=
  let quiet : Bool := w = .svc && (Blk.ofOffset off = .pwr || Blk.ofOffset off = .flt)
  if b.mode < 2 || !b.writerThere w then b
  else if b.mode = 9 && !quiet then
    (if b.get .pwrMode Fld.pwrMode_PARKED = 1 then b else (b.startWake (if w = .svc then 5 else 1)).holdCmd i)
  else if b.mode = 10 && w ≠ .svc then b.holdCmd i
  else serve b

/-- Who waits for a control-space read. -/
def Writer.reader : Writer → Option Nat
  | .svc => none
  | .dir a => some a

/-- A read of a barrier register of PF0 by `w` in control space; an Aperture that is not there reads 0. -/
def Bridge.readBarrierBy (b : Bridge) (w : Writer) (ap scope tag : Nat) : Bridge :=
  if b.part.apertures ≤ ap || b.mode = 3 then
    match w with
    | .svc => b.emit (.regData 0)
    | .dir a => b.emit (.hostCpl a tag .sc (List.replicate 8 0) false)
  else b.readBarrier ap 0 scope tag (Writer.reader w)

/-- A read of ORD_BARRIER_ENG, _DOME or _SYS (R141). -/
def execBarrierRead (s : BarSel) (scope tag : Nat) (st : State) : Host.Outcome State Fault Refusal :=
  let i := Instr.barrierRead s scope tag
  let k := min scope 2
  .next { st with b := (match s with
    | .vf ap vf => st.b.hostGate i ap (fun b => b.fcGate i ap (fun b =>
        if vf ≠ 0 && b.fnAnswers ap vf then b.readBarrier ap vf k tag (some ap) else b.refuseRead ap vf tag .unsupported))
    | .pf0 w ap => st.b.readGate i w (0x600108 + 0x40 * ap + 8 * k) (fun b => b.readBarrierBy w ap k tag)).settled st.mem }

/-- The barrier of a function that completes now: the first, once its writes are gone (R140). -/
def Bridge.nextBarrier (b : Bridge) (ap fn : Nat) : Option Barrier :=
  b.barriers.find? (fun x => x.ap = ap && x.fn = fn && x.form ≠ 3 && b.barrierDue x && b.barrierFirst x)

def execBarrierComplete (ap fn : Nat) (s : State) : Host.Outcome State Fault Refusal :=
  .next { s with b := if s.b.mode = 11 then s.b else
    match s.b.nextBarrier ap fn with
    | some x => (s.b.completeBarrier x).settled s.mem
    | none => s.b }

/-- Answer the reader of a read-form barrier with a status word. -/
def Bridge.answerBarrier (b : Bridge) (x : Barrier) (w : Word) : Bridge :=
  match x.job with
  | some j => b.finish j (.ok (((wbytes w).drop (j.addr % 8)).take j.span) false)
  | none => match x.reader with
    | some a => b.emit (.hostCpl a x.tag .sc (wbytes w) false)
    | none => b.emit (.regData w)

/-- BAR_LIMIT expires for a read-form barrier (R142): it is answered with TIMED_OUT and goes on. -/
def Bridge.barTimedOut (b : Bridge) (x : Barrier) : Bridge :=
  let w := x.word false true
  let k := x.ap * 4096 + x.fn
  let b := { b with
    barriers := b.barriers.map (fun (y : Barrier) => if y.id = x.id then { y with answered := true } else y)
    barStat := if wget (alGet 0 k b.barStat) Fld.ordStatus_SEQ = x.seq then alPut k w b.barStat else b.barStat }
  (b.answerBarrier x w).raise .ord 1

def execBarLimitExpire (ap fn : Nat) (s : State) : Host.Outcome State Fault Refusal :=
  let b := s.b
  let due := fun (x : Barrier) => x.ap = ap && x.fn = fn && x.form = 1 && !x.answered &&
    x.t0 + b.get (.ordAptCfg ap) Fld.ordAptCfg_BAR_LIMIT ≤ b.tick
  .next { s with b := if b.mode = 11 then b else
    match b.barriers.find? due with
    | some x => (b.barTimedOut x).settled s.mem
    | none => b }

end Sys2Proof.Machine
end

