-- ==== Sys2Proof/Machine/InstanceCmds.lean ====
section
/-!
DEFINITION. The commands that write the catalogue and the instance table (R44, R115, R116, R202, R211 to R231): commits,
CREATE, DESTROY, RESET, the tenant's own request, and the end of a reset.
-/
namespace Sys2Proof.Machine

open Sys2Proof

/-! Held commands (R44). -/

/-- Whether commits, instance commands and share writes are held: during a COMMIT, and during a LOAD in Dawn. -/
def Bridge.almHolds (b : Bridge) : Bool := b.alm.committing || (b.mode = 2 && (b.alm.loading.isSome || b.shelfWait))

/-- Hold a command with the words that its writer has staged. -/
def Bridge.almHold (b : Bridge) (i : Instr) (ws : List Word) : Bridge :=
  { b with alm := { b.alm with held := b.alm.held ++ [(⟨i, ws⟩ : Held)] } }

/-! Catalogue commits. -/

/-- A commit of an image to entry `i` (R115, R116, R218). That of an enabled entry waits for its catalogue bank to open (R26, R403). -/
def Bridge.catCommitCore (b : Bridge) (w : Writer) (i : Nat) (ws : List Word) : Bridge :=
  let code := b.commitCheck w i ws
  if code ≠ 0 then b.commitStatus w.bank i code true
  else if ig ws entEN = 1 && !b.domsOpen [60 + i / 4096] then
    (b.commitStatus w.bank i 0 false).whenOpen [60 + i / 4096] (.catCommit w i) id ws
  else match b.commitHolder i with
  | some v => match b.inst? v with
    | some x => (b.commitStatus w.bank i 0 false).putInst { x with heldCommits := x.heldCommits ++ [(w, i, ws)] }
    | none => b.commitEffect w i ws
  | none => b.commitEffect w i ws

/-- A write of CAT_COMMIT: the image of the writer's bank is taken now. -/
def Bridge.catCommitBy (b : Bridge) (w : Writer) (i : Nat) : Bridge :=
  if b.almHolds then (b.commitStatus w.bank i 0 false).almHold (.catCommit w i) (b.staged w.bank)
  else b.catCommitCore w i (b.staged w.bank)

def execCatCommit (w : Writer) (idx : Nat) (s : State) : Host.Outcome State Fault Refusal :=
  .next { s with b := (s.b.ctlGate (.catCommit w idx) w 0x300120 (fun b => b.catCommitBy w (idx % 65536))).settled s.mem }

/-! Instance commands. -/

/-- The Aperture that a command acts on (R233): APERTURE for the chief director and the board controller, the writer's own
for any other director. -/
def viAperture (w : Writer) (ap : Nat) : Nat :=
  match w with
  | .svc => ap
  | .dir a => if a = 0 then ap else a

/-- CREATE with the amounts of VI_CREATE_A and VI_CREATE_B (R213 to R215, R219). -/
def Bridge.createCmd (b : Bridge) (w : Writer) (ap vf : Nat) (a d : Word) : Bridge :=
  let n := w.bank
  if !w.mayAct ap then b.viStatus n 1 0 else
  match b.createNumbers ap vf a d none with
  | .inr code => b.viStatus n code 0
  | .inl (v, ch, g) =>
    let c := wmk [(Fld.viCmd_OP, 1), (Fld.viCmd_APERTURE, ap), (Fld.viCmd_VF, vf)]
    let r := wmk [(⟨0, 11⟩, v), (⟨16, 13⟩, ch), (⟨32, 16⟩, g)]
    if b.mirrors then (b.viBegin n v).mirror (.delta (.create c a d r)) (some (.create w ap vf))
    else (b.createApply c a d r true).viStatus n 0 v

/-- The code of a DESTROY or RESET of VI `v` (R214). -/
def Bridge.viCode (b : Bridge) (w : Writer) (ap v : Nat) : Nat :=
  if !w.mayAct ap then 1
  else if !b.apEnabled ap then 2
  else if b.viLive v && b.viAp v = ap then 0
  else 8

/-- DESTROY (R217 to R219): a destroy in progress absorbs it. -/
def Bridge.destroyCmd (b : Bridge) (w : Writer) (ap v : Nat) : Bridge :=
  let code := b.viCode w ap v
  if code ≠ 0 then b.viStatus w.bank code v
  else if b.mirrors && b.viState v ≠ 3 then
    (b.viBegin w.bank v).mirror (.delta (.destroy v ap)) (some (.destroy w ap v))
  else (b.viBegin w.bank v).startReset v 5 (some w.bank)

/-- RESET (R218, R219, R225): a reset or destroy in progress absorbs it. -/
def Bridge.resetCmd (b : Bridge) (w : Writer) (ap v : Nat) : Bridge :=
  let code := b.viCode w ap v
  if code ≠ 0 then b.viStatus w.bank code v
  else if b.mirrors && b.viState v < 2 then
    (b.viBegin w.bank v).mirror (.resetStart v 0) (some (.reset w ap v))
  else ((b.viBegin w.bank v).startReset v 0 (some w.bank)).mirrorLater (.resetStart v 0)

/-- Run an instance command with the words staged for it. -/
def Bridge.viRun (b : Bridge) (i : Instr) (ws : List Word) : Bridge :=
  match i with
  | .create w ap vf => b.createCmd w ap vf (ws.getD 0 0) (ws.getD 1 0)
  | .destroy w ap v => b.destroyCmd w ap v
  | .reset w ap v => b.resetCmd w ap v
  | _ => b

/-- The command that a VI_CMD image is, on the Aperture that it acts on. -/
def viInstr (w : Writer) (c : Word) : Instr :=
  let ap := viAperture w (wget c Fld.viCmd_APERTURE)
  match wget c Fld.viCmd_OP with
  | 1 => .create w ap (wget c Fld.viCmd_VF)
  | 2 => .destroy w ap (wget c Fld.viCmd_VI)
  | _ => .reset w ap (wget c Fld.viCmd_VI)

/-- A write of VI_CMD by `w` (R44, R213). -/
def Bridge.viBy (b : Bridge) (w : Writer) (i : Instr) : Bridge :=
  let ws := [b.raw (.viCreateA w.bank), b.raw (.viCreateB w.bank)]
  if b.almHolds then (b.viBegin w.bank 0).almHold i ws else b.viRun i ws

/-- A command row that writes VI_CMD. -/
def Bridge.viRow (b : Bridge) (row : Instr) (w : Writer) (c : Word) : Bridge :=
  b.ctlGate row w 0xA00100 (fun b => (b.put (.viCmd w.bank) c).viBy w (viInstr w c))

def execCreate (w : Writer) (ap vf : Nat) (s : State) : Host.Outcome State Fault Refusal :=
  .next { s with b := (s.b.viRow (.create w ap vf) w
    (wmk [(Fld.viCmd_OP, 1), (Fld.viCmd_APERTURE, ap), (Fld.viCmd_VF, vf)])).settled s.mem }

def execDestroy (w : Writer) (ap vi : Nat) (s : State) : Host.Outcome State Fault Refusal :=
  .next { s with b := (s.b.viRow (.destroy w ap vi) w
    (wmk [(Fld.viCmd_OP, 2), (Fld.viCmd_APERTURE, ap), (Fld.viCmd_VI, vi)])).settled s.mem }

def execReset (w : Writer) (ap vi : Nat) (s : State) : Host.Outcome State Fault Refusal :=
  .next { s with b := (s.b.viRow (.reset w ap vi) w
    (wmk [(Fld.viCmd_OP, 3), (Fld.viCmd_APERTURE, ap), (Fld.viCmd_VI, vi)])).settled s.mem }

/-- A tenant's write of VI_SELF_CMD (R229): a wrong key, or a request under policy 0, is recorded. -/
def Bridge.selfRequest (b : Bridge) (v vf : Nat) (key : Byte) (reset : Bool) : Bridge :=
  if key ≠ 0xA5#8 then b.rejectVf .vi vf 0x6008 11
  else if !reset then b
  else if b.get (.viCtrl v) Fld.viCtrl_SELF_POLICY = 0 then b.rejectVf .vi vf 0x6008 10
  else ((b.raise .vi 2).startReset v 3 none).reportReset v 3

def execSelfResetRequest (ap vf : Nat) (key : Byte) (reset : Bool) (s : State) : Host.Outcome State Fault Refusal :=
  .next { s with b := (s.b.hostGate (.selfResetRequest ap vf key reset) ap (fun b =>
    match b.viOf ap vf with
    | some v =>
      if b.fnAnswers ap vf then b.selfRequest v vf key reset
      else b.bump (.aptFnEvents ap) Fld.aptFnEvents_DROPPED_POSTED
    | none => b.bump (.aptFnEvents ap) Fld.aptFnEvents_DROPPED_POSTED)).settled s.mem }

/-- Every write of a reset has drained (R226). -/
def execInstanceResetDrained (vi : Nat) (s : State) : Host.Outcome State Fault Refusal :=
  .next { s with b := if s.b.mode = 11 then s.b else (s.b.resetDrained vi).settled s.mem }

/-- The drain deadline (R227). -/
def execDrainDeadline (vi : Nat) (s : State) : Host.Outcome State Fault Refusal :=
  .next { s with b := if s.b.mode = 11 then s.b else (s.b.drainDeadline vi).settled s.mem }

end Sys2Proof.Machine
end

