-- ==== Sys2Proof/Machine/Control.lean ====
section
/-!
DEFINITION. Writes to control space (R4, R11, R54, R441, R452 to R466): the checks in their order, what each register does
with a write, kept fields and their mirroring (R25, R49, R377), and the command rows that are plain register accesses.
-/
namespace Sys2Proof.Machine

open Sys2Proof

/-! What each register does with a write. -/

/-- A write of IFV_LINK_CTRL: a new WIDTH_CAP retrains the link (R368). -/
def Bridge.widthWrite (b : Bridge) (k : Nat) (v : Word) (lo hi : Bool) : Bridge :=
  let old := b.get (.ifvLinkCtrl k) Fld.ifvLinkCtrl_WIDTH_CAP
  let b := b.store (.ifvLinkCtrl k) v lo hi
  if b.get (.ifvLinkCtrl k) Fld.ifvLinkCtrl_WIDTH_CAP = old then b else b.requestRetrain k

/-- A write of a block's rejection register: clearing VALID clears COUNT (R455). -/
def Bridge.rejectClear (b : Bridge) (k : Blk) (v : Word) (lo hi : Bool) : Bridge :=
  let b := b.store (.blkReject k) v lo hi
  if b.get (.blkReject k) Fld.blkReject_VALID = 0 then b.set (.blkReject k) Fld.blkReject_COUNT 0 else b

/-- A write of TRN_SVC_CMD: with OP set it starts the cycle (R321). -/
def Bridge.svcCmdWrite (b : Bridge) (v : Word) (lo hi : Bool) : Bridge :=
  let b := b.store .trnSvcCmd v lo hi
  if hi && b.get .trnSvcCmd Fld.trnSvcCmd_OP ≠ 0 then b.svcCycle else b

/-- A write of FLT_QUAR_CTRL (R441, R442): RELEASE is remembered in Quarantine until the self-reset (log entry 30). -/
def Bridge.quarWrite (b : Bridge) (v : Word) (lo hi : Bool) : Bridge :=
  let b := b.store .fltQuarCtrl v lo hi
  if !lo then b else
  let b := if b.mode = 11 && wget v Fld.fltQuarCtrl_RELEASE = 1 then b.set .fltQuarCtrl Fld.fltQuarCtrl_RELEASE 1 else b
  if wget v Fld.fltQuarCtrl_ENTER = 1 then b.fatal 6 0 0 else b

/-- A write of LOG_SPILL_CFG: a new end of the open area raises LAYOUT (R470). -/
def Bridge.spillWrite (b : Bridge) (v : Word) (lo hi : Bool) : Bridge :=
  let old := b.logMib
  let b := b.store .logSpillCfg v lo hi
  if b.logMib = old then b else b.raise .arc 1

/-- A write of an event register: every route whose OR it leaves at 1 raises its vector (R459). -/
def Bridge.eventWrite (b : Bridge) (r : Reg) (v : Word) (lo hi : Bool) : Bridge :=
  let b := b.store r v lo hi
  b.raiseRoutes (fun a => b.routePending a)

/-- A write of ID_EVENT_ROUTE: a route whose OR rises raises its vector (R459). -/
def Bridge.routeWrite (b : Bridge) (a : Nat) (v : Word) (lo hi : Bool) : Bridge :=
  let b' := b.store (.idEventRoute a) v lo hi
  b'.raiseRoutes (fun k => k = a && !b.routePending a && b'.routePending a)

/-- A write of LNE_EYE_SEL (R338). -/
def Bridge.eyeMapWrite (b : Bridge) (n : Nat) (v : Word) (lo hi : Bool) : Bridge :=
  (b.store (.lneEyeSel n) v lo hi).eyeSelHold n (b.raw (.lneEyeSel n))

/-- A write of CAT_DRAIN: the bank watches the new entry from now on (R119). -/
def Bridge.drainWrite (b : Bridge) (n : Nat) (v : Word) (lo hi : Bool) : Bridge :=
  let b := b.store (.catDrain n) v lo hi
  { b with eng := { b.eng with drainWait := b.eng.drainWait.filter (· ≠ n) } }

/-- A write of VI_CMD: the word that its halves form is the command's; the half with OP runs it (R233, R462). -/
def Bridge.viCmdWrite (b : Bridge) (w : Writer) (n : Nat) (v : Word) (lo hi : Bool) : Bridge :=
  let c := mergeHalves (b.raw (.viCmd n)) v lo hi &&& (Reg.viCmd n).woMask
  let b := b.put (.viCmd n) c
  if lo then b.viBy w (viInstr w c) else b

/-- A write of PWR_MODE_CMD (R413). -/
def Bridge.modeCmd (b : Bridge) (w : Writer) (cmd : Nat) : Bridge :=
  match cmd with
  | 1 => b.dimCmd w
  | 2 => b.parkCmd w
  | 3 => b.serviceCmd w
  | _ => b.releaseCmd w

/-- A write of DSP_SCHED_CMD (R200). -/
def Bridge.schedWrite (b : Bridge) (a : Nat) (v : Word) : Bridge :=
  let b := if wget v Fld.dspSchedCmd_SWAP_TO = 1 then b.swapCmd a 0 else b
  if wget v Fld.dspSchedCmd_SWAP_FROM = 1 then b.swapCmd a 1 else b

/-- An access of ALM_SHELF_DATA goes to the archive as a data access, and OFFSET moves on (R16, R60). -/
def Bridge.shelfAccess (b : Bridge) (w : Writer) (op : JobOp) (lo hi : Bool) : Bridge :=
  let (id, b) := b.fresh
  let j : Job := { id := id, origin := .shelf w, src := .bridge, owner := none, director := true, idx := 0, gen := 0, space := 2, port := 0,
                   addr := b.shelfAt, op := op, off := 0, order := 0, lo := bit lo, hi := bit hi, t0 := b.tick }
  (b.toTarget j).set .almShelfAddr Fld.almShelfAddr_OFFSET (b.shelfAt + 8)

/-- The effect of an accepted write. Commands act when the half that holds them is written (R462). -/
def Bridge.regEffect (b : Bridge) (w : Writer) (r : Reg) (v : Word) (lo hi : Bool) : Bridge :=
  let cmd := fun (f : Bridge → Bridge) => if lo then f b else b
  match r with
  | .almCmd => cmd (fun b => b.almCmd w (wget v Fld.almCmd_CMD))
  | .catCommit _ => cmd (fun b => b.catCommitBy w (wget v Fld.catCommit_INDEX))
  | .ordBarrier a => cmd (fun b => b.postBarrier a 0 (wget v Fld.ordBarrier_SCOPE))
  | .fndChCmd c => cmd (fun b => b.chanAct (.chan w c) c (wget v Fld.fndChCmd_CMD))
  | .fndShadow c k => b.shadowWrite (.chan w c) k (mergeHalves (b.raw r) v lo hi)
  | .dspSchedCmd a => cmd (fun b => b.schedWrite a v)
  | .trnTintSet => cmd (fun b => b.tint true (v.setWidth 4))
  | .trnTintClr => cmd (fun b => b.tint false (v.setWidth 4))
  | .ifvLinkCmd k => cmd (fun b => b.linkCmd k (wget v Fld.ifvLinkCmd_CMD))
  | .ifvPairCmd => cmd (fun b => if wget v Fld.ifvPairCmd_CMD = 1 then b.adoptCmd w else b.handback)
  | .pwrModeCmd => cmd (fun b => b.modeCmd w (wget v Fld.pwrModeCmd_CMD))
  | .viCmd n => b.viCmdWrite w n v lo hi
  | .dspViShare i => b.changeShare i (r.stored (b.raw r) v lo hi)
  | .dspViBucket i x => b.changeBucket i x (r.stored (b.raw r) v lo hi)
  | .ifvLinkCtrl k => b.widthWrite k v lo hi
  | .idEventRoute a => b.routeWrite a v lo hi
  | .blkEvent _ | .blkEventEn _ => b.eventWrite r v lo hi
  | .blkReject k => b.rejectClear k v lo hi
  | .logSpillCfg => b.spillWrite v lo hi
  | .trnSvcCmd => b.svcCmdWrite v lo hi
  | .lneEyeSel n => b.eyeMapWrite n v lo hi
  | .catDrain n => b.drainWrite n v lo hi
  | .eyeSel n => (b.store r v lo hi).eyeCapture n
  | .fltQuarCtrl => b.quarWrite v lo hi
  | .almShelfData => b.shelfAccess w
      (.write ((wbytes v).zipIdx.map (fun p => if (p.2 < 4 && lo) || (4 ≤ p.2 && hi) then some p.1 else none)) false) lo hi
  | _ => b.store r v lo hi

/-! Kept fields. -/

/-- Whether a write changes a kept field (R49). -/
def Reg.keptChange (r : Reg) (old new : Word) : Bool := r.fields.any (fun f => f.kept && f.changed old new)

/-- Whether a write is a share write, which a commit holds (R44). -/
def Reg.isShare : Reg → Bool
  | .dspViShare _ | .dspViBucket .. => true
  | _ => false

/-- The half mask of a type 0x01 record (R50). -/
def halfBits (lo hi : Bool) : Nat := bit lo + 2 * bit hi

/-- The byte enables of the halves. -/
def halfEnables (lo hi : Bool) : BitVec 8 := BitVec.ofNat 8 ((if lo then 0x0F else 0) + (if hi then 0xF0 else 0))

/-- The effect of a kept write and its delta record (R49). -/
def Bridge.keptWrite (b : Bridge) (w : Writer) (r : Reg) (v : Word) (lo hi : Bool) : Bridge :=
  let new := r.stored (b.raw r) v lo hi
  (b.regEffect w r v lo hi).appendDelta (.regWrite r.offset (halfBits lo hi) new)

/-- An accepted write: a kept change takes effect with a delta record, in Paired mode
after the partner's acknowledgement; anything else at once. -/
def Bridge.regWrite (b : Bridge) (w : Writer) (r : Reg) (v : Word) (lo hi : Bool) : Bridge :=
  let row := Instr.registerWrite w r.offset (halfEnables lo hi) v
  let new := r.stored (b.raw r) v lo hi
  if !r.keptChange (b.raw r) new then b.regEffect w r v lo hi
  else if b.mirrors then b.mirror (.delta (.regWrite r.offset (halfBits lo hi) new)) (some row)
  else b.keptWrite w r v lo hi

/-! The write. -/

/-- Record that a write enabled one half in part (R461). -/
def Bridge.narrowNote (b : Bridge) (w : Writer) (off : Nat) (lo hi : Bool) (be : BitVec 8) : Bridge :=
  if lo && !hi && be.toNat / 16 ≠ 0 then b.rejectBy w off true 3
  else if hi && !lo && be.toNat % 16 ≠ 0 then b.rejectBy w off false 3
  else b

/-- A write of the 8 bytes at an offset by `w` with byte enables (R452, R455 to R457, R461, R462): rejected whole by the
first reason that applies, or accepted. A share write waits behind a commit with its checks (R44), a write of the channel store for its
domain (R26, R403). -/
def Bridge.ctlWrite (b : Bridge) (w : Writer) (off : Nat) (be : BitVec 8) (v : Word) : Bridge :=
  let off := off / 8 * 8
  let lo : Bool := be.toNat % 16 = 15
  let hi : Bool := be.toNat / 16 = 15
  let half := onlyHigh be
  let reg := Reg.ofOffset w.bank off
  let open11 := match reg with | some .fltQuarCtrl | some (.eyeSel _) => true | _ => false
  if b.mode = 11 && !open11 then b.rejectBy w off half 1
  else if b.mode = 3 && !(Blk.ofOffset off).inBare then b.rejectBy w off half 2
  else if !lo && !hi then b.rejectBy w off half 3
  else match reg with
    | none => b.rejectBy w off half 4
    | some r =>
      if r.isShare && b.almHolds then b.almHold (.registerWrite w off be v) [] else
      let reason := b.rejectReason w r v lo hi
      if reason ≠ 0 then b.rejectBy w off half reason
      else b.whenOpen r.storeDoms (.registerWrite w off be v) (fun b => (b.regWrite w r v lo hi).narrowNote w off lo hi be)

/-- The same on a state. -/
def State.ctlWrite (s : State) (w : Writer) (off : Nat) (be : BitVec 8) (v : Word) : State := { s with b := s.b.ctlWrite w off be v }

/-- A write by mode (R393, R396, R398, R399, R402, R418, R441): the board controller's PARK acts in Dimmed without a wake. -/
def State.ctlGate (s : State) (i : Instr) (w : Writer) (off : Nat) (park : Bool) (serve : State → State) : State :=
  let b := s.b
  if b.mode < 2 || b.heldReset || !b.writerThere w then s else
  let b := b.svcMark w false
  let s := { s with b := b }
  if b.mode = 9 && !(park && w = .svc && off = 0x01000108) then
    (if b.get .pwrMode Fld.pwrMode_PARKED = 1 then s
     else { s with b := (b.startWake (if w = .svc then 5 else 1)).holdCmd i })
  else if b.mode = 10 && w ≠ .svc then { s with b := b.holdCmd i }
  else serve s

/-- Settle a state. -/
def State.settled (s : State) : State := { s with b := s.b.settled s.mem }

/-- A row that is one register write. -/
def State.ctlRow (s : State) (i : Instr) (w : Writer) (off : Nat) (be : BitVec 8) (v : Word) : State :=
  let park : Bool := be.toNat % 16 = 15 && wget v Fld.pwrModeCmd_CMD = 2
  (s.ctlGate i w off park (fun s => s.ctlWrite w off be v)).settled

/-! Rows that write one register. -/

def execShelfDataWrite (w : Writer) (value : Word) (s : State) : Host.Outcome State Fault Refusal :=
  .next (s.ctlRow (.shelfDataWrite w value) w (Reg.almShelfData).offset 0xFF value)

/-- A write of DSP_VI_SHARE or of a direction's DSP_VI_BUCKET (R202, R209). -/
def shareReg (vi : Nat) : ShareReg → Reg
  | .share => .dspViShare vi
  | .bucket d => .dspViBucket vi (dirNum d)

def execShareWrite (w : Writer) (vi : Nat) (r : ShareReg) (value : Word) (s : State) : Host.Outcome State Fault Refusal :=
  .next (s.ctlRow (.shareWrite w vi r value) w (shareReg vi r).offset 0xFF value)

/-- A write of WIDTH_CAP, the other fields of IFV_LINK_CTRL as they stand (R368). -/
def execWidthCapWrite (w : Writer) (k cap : Nat) (s : State) : Host.Outcome State Fault Refusal :=
  .next (s.ctlRow (.widthCapWrite w k cap) w (Reg.ifvLinkCtrl k).offset 0xFF
    (wput (s.b.readReg s.mem (.ifvLinkCtrl k)) Fld.ifvLinkCtrl_WIDTH_CAP cap))

/-- The word of a service-port Transit cycle (R321): OP 1 reads, OP 2 writes TRN_SVC_DATA; the read-only bits as they stand. -/
def State.svcCmdFull (s : State) (op addr : Nat) (be : BitVec 8) : Word :=
  let w := s.b.raw .trnSvcCmd
  [(Fld.trnSvcCmd_ADDR, addr), (Fld.trnSvcCmd_BE, be.toNat), (Fld.trnSvcCmd_OP, op)].foldl (fun w p => wput w p.1 p.2) w

def execSvcTransitRead (w : Writer) (addr : Nat) (be : BitVec 8) (s : State) : Host.Outcome State Fault Refusal :=
  .next (s.ctlRow (.svcTransitRead w addr be) w (Reg.trnSvcCmd).offset 0xFF (s.svcCmdFull 1 addr be))

def execSvcTransitWrite (w : Writer) (addr : Nat) (be : BitVec 8) (s : State) : Host.Outcome State Fault Refusal :=
  .next (s.ctlRow (.svcTransitWrite w addr be) w (Reg.trnSvcCmd).offset 0xFF (s.svcCmdFull 2 addr be))

def execRanksWrite (w : Writer) (value : Word) (s : State) : Host.Outcome State Fault Refusal :=
  .next (s.ctlRow (.ranksWrite w value) w (Reg.trnRanks).offset 0xFF value)

/-- A write of EYE_SEL (R444): in Quarantine too (R441). -/
def execEyeSel (w : Writer) (value : Word) (s : State) : Host.Outcome State Fault Refusal :=
  .next (s.ctlRow (.eyeSel w value) w (Reg.eyeSel w.bank).offset 0xFF value)

/-! Reads. -/

/-- Read a register with the effects of reading, `lo` and `hi` saying which halves are covered; the value goes out. The shelf's comes
from the archive (R16). -/
def Bridge.readRow (b : Bridge) (m : List Host.Cell) (w : Writer) (off : Nat) (lo hi : Bool) : Bridge :=
  if Reg.ofOffset w.bank (off / 8 * 8) = some .almShelfData then b.shelfAccess w (.read 8) lo hi
  else (b.readEffects w.bank off lo hi).emit (.regData (b.readAt m w.bank off &&& halfMask lo hi))

/-- A read of control space by `w`: a barrier register starts a barrier (R141). -/
def Bridge.readCtl (b : Bridge) (m : List Host.Cell) (w : Writer) (off : Nat) (lo hi : Bool) : Bridge :=
  match (List.range 4).findSome? (fun a => (barrierReg false a off).map (fun k => (a, k))) with
  | some (a, k) => b.readBarrierBy w a k 0
  | none => b.readRow m w off lo hi

/-- A row that reads control space. -/
def State.readCtlRow (s : State) (i : Instr) (w : Writer) (off : Nat) (lo hi : Bool) : State :=
  { s with b := (s.b.readGate i w off (fun b => b.readCtl s.mem w off lo hi)).settled s.mem }

def execShelfDataRead (w : Writer) (s : State) : Host.Outcome State Fault Refusal :=
  .next (s.readCtlRow (.shelfDataRead w) w (Reg.almShelfData).offset true true)

/-- A read that covers fields of access RC (R11, R462). -/
def execRcFieldRead (w : Writer) (off : Nat) (lo hi : Bool) (s : State) : Host.Outcome State Fault Refusal :=
  .next (s.readCtlRow (.rcFieldRead w off lo hi) w off lo hi)

def execSvcRead64 (off : Nat) (s : State) : Host.Outcome State Fault Refusal :=
  .next (s.readCtlRow (.svcRead64 off) .svc off true true)

/-- A read of 32 bits: the half at the offset. -/
def execSvcRead32 (off : Nat) (s : State) : Host.Outcome State Fault Refusal :=
  .next (s.readCtlRow (.svcRead32 off) .svc off (off % 8 < 4) (4 ≤ off % 8))

/-- A read of EYE_REC[7] in the writer's bank (R444). -/
def execEyeRecAutoIncRead (w : Writer) (s : State) : Host.Outcome State Fault Refusal :=
  .next (s.readCtlRow (.eyeRecAutoIncRead w) w (Reg.eyeRec w.bank 7).offset true true)

/-- An on-die capture ends (R445), once the eyepiece's domain is open (R26, R403); one from the archive ends when the archive
answers. -/
def Bridge.eyeEnd (b : Bridge) (w : Writer) : Bridge :=
  if !b.eyeBusy w.bank || b.archReqs.any (fun r => r.user = 4 && r.arg = w.bank) then b
  else b.whenOpen [92] (.eyeCaptureDone w) (fun b => b.eyeDone w.bank)

def execEyeCaptureDone (w : Writer) (s : State) : Host.Outcome State Fault Refusal :=
  .next { s with b := (s.b.eyeEnd w).settled s.mem }

/-- Whether the service port's last write is still being applied: it waits for a wake, for a domain, behind the almanac or for the
partner (R466). -/
def Bridge.svcWriting (b : Bridge) : Bool :=
  let mine := fun (i : Instr) => match i with
    | .registerWrite .svc .. | .svcWrite64 .. | .svcWrite32 .. | .catCommit .svc .. | .create .svc .. | .destroy .svc ..
    | .reset .svc .. => true
    | _ => false
  b.eng.held.any mine || b.alm.held.any (fun h => mine h.cmd) || b.eng.domHeld.any (fun h => mine h.2.cmd) || b.eng.pair.outgoing.any (fun x => x.action.any mine) || b.eng.pair.queued.any (fun x => x.2.any mine)

/-- The status byte's answer (R466). -/
def Bridge.statusByte (b : Bridge) : Bridge :=
  if b.mode < 2 then b
  else b.emit (.svcData [BitVec.ofNat 8 (bit b.svcAlert + 2 * bit b.svcWriting + 4 * bit b.eng.svcErr)])

/-- The status byte is no register access and wakes nothing (R466). -/
def execSvcStatus (s : State) : Host.Outcome State Fault Refusal :=
  .next { s with b := s.b.statusByte }

end Sys2Proof.Machine
end

