-- ==== Sys2Proof/Machine/HostPosted.lean ====
section
/-!
DEFINITION. Host posted writes (R69, R113, R133, R137, R461, R463): arrival at the posting buffer, and the issue of an
Aperture's oldest entry, with what writes to control space, instance pages and interrupt tables do there.
-/
namespace Sys2Proof.Machine

open Sys2Proof

/-! The 8-byte accesses of a write. -/

/-- The enables of up to 8 bytes. -/
def byteEnables (l : List (Option Byte)) : BitVec 8 :=
  BitVec.ofNat 8 (l.zipIdx.foldl (fun n p => if p.1.isSome then n + 2 ^ p.2 else n) 0)

/-- A write cut into 8-byte accesses in ascending order (R463): offset, byte enables, value. -/
def wordWrites (a : Nat) (d : List (Option Byte)) : List (Nat × BitVec 8 × Word) :=
  (cutAt 8 (d.length + 1) a d.length).map (fun p =>
    let l : List (Option Byte) := List.replicate (p.1 % 8) none ++ (d.drop (p.1 - a)).take p.2
    (p.1 / 8 * 8, byteEnables l, wordOfBytes ((l.map (fun (x : Option Byte) => x.getD 0) ++ List.replicate 8 0).take 8)))

def lowHalf (be : BitVec 8) : Bool := be.toNat % 16 = 15
def highHalf (be : BitVec 8) : Bool := be.toNat / 16 = 15

/-! An instance page (R153, R221). -/

/-- The block in which writes to an offset of VF BAR0 are recorded (R221). -/
def pageBlk (ap off : Nat) : Blk :=
  if off < 0x4000 then .fnd else if off < 0x6000 then .log else if off < 0x6F00 then .vi else if off < 0x7000 then .ord
  else if off < 0xF100 then .apt ap else .vi

/-- Why a write to an offset of an instance page is refused, but for the checks that its register makes itself (R456):
4 no register, 6 a read-only register whose value it would change; 0 none. -/
def Bridge.pageReason (b : Bridge) (v ap fn off : Nat) (w : Word) (lo hi : Bool) : Nat :=
  let ro := if mergeHalves (b.pageWord v ap fn off) w lo hi = b.pageWord v ap fn off then 0 else 6
  if off < 0x4000 then
    (if b.viChannels v ≤ off / 0x80 || 0x68 ≤ off % 0x80 then 4 else if off % 0x80 ≤ 0x40 then 0 else ro)
  else if off = 0x6008 then 0
  else if off = 0x6000 || off = 0x6010 then ro
  else if off = 0x6F00 then 0
  else if 0x6F00 < off && off < 0x6F28 then
    (if mergeHalves (alGet 0 (ap * 4096 + fn) b.barStat) w lo hi = alGet 0 (ap * 4096 + fn) b.barStat then 0 else 6)
  else if 0x7000 ≤ off && off < 0xF000 then (if b.vectors ap fn ≤ (off - 0x7000) / 16 then 4 else 0)
  else if 0xF000 ≤ off && off < 0xF100 then ro
  else 4

/-- What an accepted write to an instance page does. -/
def Bridge.pageEffect (b : Bridge) (v ap fn off : Nat) (w : Word) (lo hi : Bool) : Bridge :=
  if off < 0x4000 then
    let s := ChanSel.slot ap fn (off / 0x80)
    let k := off % 0x80 / 8
    let c := b.viFirstCh v + off / 0x80
    if k < 8 then b.shadowWrite s k (mergeHalves (b.raw (.fndShadow c k)) w lo hi)
    else if k ≠ 8 || !lo then b
    else
      let cmd := wget w Fld.fndChCmd_CMD
      if 1 ≤ cmd && cmd ≤ 5 then b.chanAct s c cmd else b.rejectChan s 0x40 0x720000 11
  else if off = 0x6008 then
    (if lo then b.selfRequest v fn (w.setWidth 8) (wbit w 8) else b)
  else if off = 0x6F00 then (if lo then b.postBy (.vf ap fn) (wget w Fld.ordBarrier_SCOPE) else b)
  else if 0x7000 ≤ off && off < 0xF000 then b.tableWrite ap fn (off - 0x7000) w lo hi
  else b

/-- Whether a write of an access enables a half in part beside a whole one (R461). -/
def partHalf (be : BitVec 8) : Option Bool :=
  if lowHalf be && !highHalf be && be.toNat / 16 ≠ 0 then some true
  else if highHalf be && !lowHalf be && be.toNat % 16 ≠ 0 then some false
  else none

/-- A write of 8 bytes to the page of VI `v`, which VF `fn` of `ap` shows; no logbook port. -/
def Bridge.pageStore (b : Bridge) (v ap fn off : Nat) (be : BitVec 8) (w : Word) : Bridge :=
  let lo := lowHalf be
  let hi := highHalf be
  let no := fun (b : Bridge) (half : Bool) (r : Nat) => b.reject (pageBlk ap off) off half r 5 fn
  if !lo && !hi then no b (onlyHigh be) 3
  else
    let r := b.pageReason v ap fn off w lo hi
    if r ≠ 0 then no b (!lo) r else
    match partHalf be with
    | some half => no (b.pageEffect v ap fn off w lo hi) half 3
    | none => b.pageEffect v ap fn off w lo hi

/-- A write to PF0's interrupt table page, BAR4 (R71, R461): recorded at its BAR4 offset by the Aperture's block. -/
def Bridge.irqPageStore (b : Bridge) (ap off : Nat) (be : BitVec 8) (w : Word) : Bridge :=
  let lo := lowHalf be
  let hi := highHalf be
  let no := fun (b : Bridge) (half : Bool) (r : Nat) => b.reject (.apt ap) off half r (ap + 1) 0
  let old := b.pbaWord ap 0 ((off - 0x8000) / 8)
  if !lo && !hi then no b (onlyHigh be) 3
  else if off < 0x8000 then
    (if b.vectors ap 0 ≤ off / 16 then no b (!lo) 4 else
     let b := b.tableWrite ap 0 off w lo hi
     match partHalf be with | some half => no b half 3 | none => b)
  else if 0x8100 ≤ off then no b (!lo) 4
  else if mergeHalves old w lo hi = old then b else no b (!lo) 6

/-- A write to an instance page: one access to a logbook port, where a producer's waits behind a spill (R257), or its 8-byte accesses one by one (R463). -/
def Bridge.pageWrite (b : Bridge) (e : PbEntry) (d : List (Option Byte)) : Bridge :=
  let j := e.job
  let a := j.addr
  match b.viOf e.ap e.fn with
  | none => b.freePb j.id
  | some v =>
    if a < 0x6000 && 0x4000 < a + d.length then
      let k := (a - 0x4000) / 0x200
      let q := b.viFirstLq v + k
      let who : PortWho := ⟨5, e.fn, 0x4000 + 0x200 * k, false⟩
      let off := (a - 0x4000) % 0x200
      if a < 0x4000 then (b.portRefused q).finish j (.err .logbookRefused)
      else if b.viQueues v ≤ k then (b.freePb j.id).reject .log a false 4 5 e.fn
      else if off < 0x188 && (b.queue q).tailHeld then
        b.putQueue q { b.queue q with blocked := (b.queue q).blocked ++ [⟨who, off, d, some j, .bridge⟩] }
      else
        let (b, ok) := b.portWrite q off d who
        if ok then b.freePb j.id else b.finish j (.err .logbookRefused)
    else
      (wordWrites a d).foldl (fun (b : Bridge) p => b.pageStore v e.ap e.fn p.1 p.2.1 p.2.2) (b.freePb j.id)

/-! Issue. -/

/-- The first entry of an Aperture's posting buffer that has not been issued. -/
def Bridge.nextEntry (b : Bridge) (ap : Nat) : Option PbEntry := b.pbs.find? (fun e => e.ap = ap && e.kind ≠ .issued)

/-- The domains that an entry crosses to its target (R26, R137): the posting buffers', and those of the target space; the dispatcher
holds a peer request for its own. -/
def Bridge.entryDoms (b : Bridge) (e : PbEntry) : List Nat :=
  let j := e.job
  let regs := fun (bank : Nat) => match j.op with
    | .write d _ => (wordWrites j.addr d).flatMap (fun p => match Reg.ofOffset bank p.1 with | some r => r.storeDoms | none => [])
    | _ => []
  (89 + e.ap / 2) :: match j.space with
    | 0 => if b.merReady j.port then [54 + j.port] else []
    | 1 => [83, 84]
    | 2 => [81, 82]
    | 3 => queueDoms (j.addr / 4096)
    | 6 => regs e.ap
    | 7 => (match b.viOf e.ap e.fn with
      | some v =>
        if j.addr < 0x4000 then [chanDom (b.viFirstCh v + j.addr / 0x80)]
        else if j.addr < 0x6000 then queueDoms (b.viFirstLq v + (j.addr - 0x4000) / 0x200)
        else []
      | none => [])
    | _ => []

/-- Whether an entry may issue now (R26, R129, R131, R137): no barrier, no earlier read of its source on its path that waits, every
shutter open, and at a READY Meridian port a tag and credits. A peer write that waits for dispatch has been offered already. -/
def Bridge.entryFree (b : Bridge) (e : PbEntry) : Bool :=
  let j := e.job
  e.kind = .waiting && !b.reqs.any (fun i => i.id = j.id) && b.domsOpen (b.entryDoms e) &&
    !b.hostReads.any (fun x => x.ap = e.ap && x.fn = e.fn && x.id < j.id &&
      x.jobs.any (fun i => i.space = j.space && i.port = j.port)) &&
    !b.acquiring j.src j.space j.port && (j.space ≠ 0 || !b.merReady j.port || (b.merMaySend j && b.merRoom j))

/-- An entry is issued: it stays in the buffer until its write is acknowledged (R137). -/
def Bridge.markIssued (b : Bridge) (id : Nat) : Bridge :=
  { b with pbs := b.pbs.map (fun (e : PbEntry) =>
      if e.kind = .waiting && e.job.id = id then { e with kind := .issued } else e) }

/-- Writes of 8-byte accesses to control space by the director of an Aperture. -/
def State.dirWrites (s : State) (ap : Nat) (l : List (Nat × BitVec 8 × Word)) : State :=
  l.foldl (fun (s : State) p => s.ctlWrite (.dir ap) p.1 p.2.1 p.2.2) s

/-- Issue an entry with data `d` to its target. -/
def State.issueEntry (s : State) (e : PbEntry) (d : List (Option Byte)) : State :=
  let j := e.job
  if j.space = 6 then ({ s with b := s.b.freePb j.id } : State).dirWrites e.ap (wordWrites j.addr d)
  else if j.space = 7 then { s with b := (s.b.markIssued j.id).pageWrite e d }
  else if j.space = 8 then
    { s with b := (wordWrites j.addr d).foldl (fun (b : Bridge) p => b.irqPageStore e.ap p.1 p.2.1 p.2.2) (s.b.freePb j.id) }
  else if j.space = 4 then { s with b := s.b.toTarget j }
  else { s with b := (s.b.markIssued j.id).toTarget j }

/-- Issue an Aperture's oldest waiting entry, when it may issue; the shutters that it waits for open. -/
def State.issueNext (s : State) (ap : Nat) : State :=
  match s.b.nextEntry ap with
  | none => s
  | some e =>
    if !s.b.entryFree e then (if e.kind = .waiting then { s with b := s.b.needDoms (s.b.entryDoms e) } else s) else
    match e.job.op with
    | .write d _ => s.issueEntry e d
    | _ => s

/-! Arrival. -/

/-- The barrier that a posted write is: one access to ORD_BARRIER that enables its low half (R141, R150); its byte enables,
and its SCOPE. -/
def Bridge.barrierOf (b : Bridge) (r : HostWrite) : Option (BarSel × BitVec 8 × Nat) :=
  match b.hostMatch r.ap r.addr with
  | some (fn, 0, off) =>
    let reg := off / 8 * 8
    let sel : Option BarSel :=
      if fn ≠ 0 then (if reg = 0x6F00 then some (.vf r.ap fn) else none)
      else ((List.range 4).find? (fun a => reg = 0x600100 + 0x40 * a)).map (fun a => .pf0 (.dir r.ap) a)
    match sel, wordWrites off r.data with
    | some s, [(_, be, v)] =>
      if lowHalf be && !r.poisoned && b.mode ≠ 3 && b.fnAnswers r.ap fn then some (s, be, wget v Fld.ordBarrier_SCOPE) else none
    | _, _ => none
  | _ => none

/-- A posted write of the host that is let in: dropped while its Aperture is under reset (R87), a barrier, or a write for the
posting buffer. -/
def Bridge.hostEnter (b : Bridge) (r : HostWrite) : Bridge :=
  if b.apResetting r.ap then b.bump (.aptFnEvents r.ap) Fld.aptFnEvents_DROPPED_POSTED else
  match b.barrierOf r with
  | none => b.hostWrite r
  | some (sel, be, scope) =>
    let b := b.postBy sel scope
    match sel, partHalf be with
    | .vf _ vf, some half => b.reject .ord 0x6F00 half 3 5 vf
    | .pf0 w a, some half => b.rejectBy w (0x600100 + 0x40 * a) half 3
    | _, none => b

/-- A posted write of the host arrives: one that the posting buffer has no room for is held by flow control (R137). -/
def Bridge.hostArrive (b : Bridge) (r : HostWrite) : Bridge :=
  let t := b.hostEnter r
  if t.pbWaiting r.ap + t.pbIssued r.ap ≤ 1024 then t else b.fcHold r.ap (.hostPostedWrite r)

/-- In Quarantine a posted write to control space meets the checks of a write there, and any other is dropped (R441). -/
def State.quarWrite (s : State) (r : HostWrite) : State :=
  match s.b.hostMatch r.ap r.addr with
  | some (0, 0, off) => s.dirWrites r.ap (wordWrites off r.data)
  | _ => s

def execHostPostedWrite (r : HostWrite) (s : State) : Host.Outcome State Fault Refusal :=
  .next (if s.b.mode = 11 then (if s.b.apEnabled r.ap then s.quarWrite r else s)
    else { s with b := (s.b.hostGate (.hostPostedWrite r) r.ap (fun b =>
      b.fcGate (.hostPostedWrite r) r.ap (fun b => b.hostArrive r))).settled s.mem })

end Sys2Proof.Machine
end

