-- ==== Sys2Proof/Machine/Mirrored.lean ====
section
/-!
DEFINITION. Write-through changes at the sender (R25, R45, R116, R219, R377, R378): what takes effect at the partner's ACK,
and what a refusal or the mirror ack timeout does.
-/
namespace Sys2Proof.Machine

open Sys2Proof

/-- Whether a command is a COMMIT of the almanac. -/
def isCommit : Option Instr → Bool
  | some (.commit _) => true
  | _ => false

/-- The effect of an acknowledged change: its command runs now; a COMMIT's when the last record of its patch is acknowledged (R45). -/
def Bridge.ackEffect (b : Bridge) (m : List Host.Cell) (x : OutChange) : Bridge :=
  match x.action, x.change with
  | some (.catCommit w i), .delta (.catEntry _ ws) => b.commitApply w.bank i ws
  | some (.create w _ _), .delta (.create c a d r) => (b.createApply c a d r true).viStatus w.bank 0 (wget r ⟨0, 11⟩)
  | some (.destroy w _ v), _ => b.startReset v 5 (some w.bank)
  | some (.reset w _ v), _ => b.startReset v 0 (some w.bank)
  | some (.registerWrite w off be v), _ =>
    match Reg.ofOffset w.bank off with
    | some r => b.keptWrite w r v (lowHalf be) (highHalf be)
    | none => b
  | some (.commit _), _ =>
    if b.eng.pair.outgoing.any (fun y => isCommit y.action) || b.eng.pair.queued.any (fun y => isCommit y.2) then b
    else { b with alm := { b.alm with mirroring := false } }
  | none, .delta .mark => (b.putPair { b.eng.pair with resyncSent := true }).resyncDone
  | _, _ => b

/-- Whether an acknowledged change has taken effect: a patch's waits for the end of its COMMIT, and RESYNC_END is none. -/
def OutChange.applied (x : OutChange) : Bool := !isCommit x.action && x.change ≠ .delta .mark

/-- Whether a change is a record of the patch whose COMMIT waits for the partner (R45). -/
def Bridge.inPatch (b : Bridge) (x : OutChange) : Bool :=
  b.alm.committing && b.alm.mirroring && isCommit x.action

/-- An ACK is received (R378): the change takes effect, or its refusal is reported. -/
def Bridge.ackRx (b : Bridge) (m : List Host.Cell) (seq code : Nat) : Bridge :=
  match b.eng.pair.outgoing.find? (fun x => x.seq = seq) with
  | none => b
  | some x =>
    let b := b.putPair { b.eng.pair with outgoing := b.eng.pair.outgoing.filter (fun y => y.seq ≠ seq) }
    let b := b.set .ifvMirrorStat Fld.ifvMirrorStat_MAX_ACK
      (max (b.get .ifvMirrorStat Fld.ifvMirrorStat_MAX_ACK) (min (b.tick - x.sent) 65535))
    let b :=
      if code ≠ 0 then (if b.inPatch x then b.retractPatch (b.alm.patchSeq.getD x.seq) false else b.refuseAction code x.action)
      else
        let b := b.ackEffect m x
        if x.applied then b.putPair { b.eng.pair with lastApplied := max b.eng.pair.lastApplied seq } else b
    b.sendChanges 64

/-- The oldest change that has waited for its ACK as long as the mirror ack timeout (R378, R430). -/
def Bridge.ackLate (b : Bridge) : Option OutChange :=
  b.eng.pair.outgoing.find? (fun x => x.change ≠ .delta .mark && x.sent + b.ladder 7 ≤ b.tick)

/-- The mirror ack timeout expires: the change and every later one are refused and retracted; a change of a patch takes the whole patch
with it (R45). -/
def Bridge.ackTimeout (b : Bridge) : Bridge :=
  match b.ackLate with
  | some x => if b.mode = 11 then b
    else if b.inPatch x then b.retractPatch (b.alm.patchSeq.getD x.seq) true
    else b.retractFrom x.seq true
  | none => b

/-- With the link down nothing is mirrored, and the changes that were still to be sent take effect without an ACK (R385). -/
def Bridge.unmirror (b : Bridge) (m : List Host.Cell) : Bridge :=
  if b.eng.pair.queued = [] || b.mode = 6 || b.mode = 11 || !b.ifvDown then b else
  b.eng.pair.queued.foldl (fun (b : Bridge) x => b.ackEffect m ⟨0, b.tick, x.1, x.2⟩)
    (b.putPair { b.eng.pair with queued := [] })

end Sys2Proof.Machine
end

