-- ==== Sys2Proof/Machine/Resume.lean ====
section
/-!
DEFINITION. What runs when a wait ends (R26, R44, R396, R399, R402): requests held at their faces until wake or RELEASE,
and commands held behind a commit or a load of the almanac; with them the commands that can end such a wait.
-/
namespace Sys2Proof.Machine

open Sys2Proof

/-! Rows that end a wait, without what runs after it. -/

/-- A plain register write (R456). -/
def State.registerRow (s : State) (w : Writer) (off : Nat) (be : BitVec 8) (v : Word) : State :=
  s.ctlRow (.registerWrite w off be v) w off be v

/-- A service-port transaction that ended early sets status bit 2 and changes nothing else (R466). -/
def State.svcCut (s : State) : State := if s.b.mode < 2 then s else { s with b := s.b.svcMark .svc true }

/-- A service-port write of 64 bits (R466). -/
def State.svc64 (s : State) (off : Nat) (v : Word) (complete : Bool) : State :=
  if complete then s.ctlRow (.svcWrite64 off v complete) .svc off 0xFF v else s.svcCut

/-- A service-port write of 32 bits: the half at the offset (R461, R466). -/
def State.svc32 (s : State) (off : Nat) (v : BitVec 32) (complete : Bool) : State :=
  let w : Word := v.setWidth 64
  if !complete then s.svcCut
  else if off % 8 < 4 then s.ctlRow (.svcWrite32 off v complete) .svc off 0x0F w
  else s.ctlRow (.svcWrite32 off v complete) .svc off 0xF0 (w <<< 32)

/-- RELEASE in Service (R402). -/
def State.releaseRow (s : State) (w : Writer) : State :=
  { s with b := (s.b.pwrCmd (.release w) w true (fun b => b.releaseCmd w)).settled s.mem }

/-! Held requests. -/

/-- Serve a request that was held at its face. -/
def serveHeld (i : Instr) (s : State) : State :=
  let run := fun (o : Host.Outcome State Fault Refusal) => match o with | .next t => t | _ => s
  match i with
  | .stage w => run (execStage w s)
  | .commit w => run (execCommit w s)
  | .cancel w => run (execCancel w s)
  | .seal w => run (execSeal w s)
  | .load w => run (execLoad w s)
  | .compact w => run (execCompact w s)
  | .shelfDataWrite w v => run (execShelfDataWrite w v s)
  | .shelfDataRead w => run (execShelfDataRead w s)
  | .registerWrite w off be v => s.registerRow w off be v
  | .rcFieldRead w off lo hi => run (execRcFieldRead w off lo hi s)
  | .svcWrite64 off v complete => s.svc64 off v complete
  | .svcWrite32 off v complete => s.svc32 off v complete
  | .svcRead32 off => run (execSvcRead32 off s)
  | .svcRead64 off => run (execSvcRead64 off s)
  | .hostPostedWrite r => run (execHostPostedWrite r s)
  | .hostRead r => run (execHostRead r s)
  | .hostAtomicOp r => run (execHostAtomicOp r s)
  | .hostConfigRequest ap tag fn acc => run (execHostConfigRequest ap tag fn acc s)
  | .catCommit w idx => run (execCatCommit w idx s)
  | .barrierPost b scope => run (execBarrierPost b scope s)
  | .barrierRead b scope tag => run (execBarrierRead b scope tag s)
  | .shadowWrite c w v => run (execShadowWrite c w v s)
  | .arm c => run (execArm c s)
  | .disarm c => run (execDisarm c s)
  | .resume c => run (execResume c s)
  | .skip c => run (execSkip c s)
  | .abort c => run (execAbort c s)
  | .swapTo w ap => run (execSwapTo w ap s)
  | .swapFrom w ap => run (execSwapFrom w ap s)
  | .shareWrite w vi r v => run (execShareWrite w vi r v s)
  | .create w ap vf => run (execCreate w ap vf s)
  | .destroy w ap vi => run (execDestroy w ap vi s)
  | .reset w ap vi => run (execReset w ap vi s)
  | .selfResetRequest ap vf key r => run (execSelfResetRequest ap vf key r s)
  | .append p l => run (execAppend p l s)
  | .packet p l => run (execPacket p l s)
  | .logPortClose p => run (execLogPortClose p s)
  | .consume p len tag => run (execConsume p len tag s)
  | .dropRest p => run (execDropRest p s)
  | .setMark p => run (execSetMark p s)
  | .clearMark p => run (execClearMark p s)
  | .rewind p => run (execRewind p s)
  | .flush p => run (execFlush p s)
  | .meridianRead p k => run (execMeridianRead p k s)
  | .meridianWrite p k => run (execMeridianWrite p k s)
  | .rload p k => run (execRload p k s)
  | .cstore p k => run (execCstore p k s)
  | .atomic p k => run (execAtomic p k s)
  | .interrupt p k => run (execInterrupt p k s)
  | .meridianBarrier p k => run (execMeridianBarrier p k s)
  | .ifvRetrain w k => run (execIfvRetrain w k s)
  | .ifvDown w k => run (execIfvDown w k s)
  | .ifvUp w k => run (execIfvUp w k s)
  | .widthCapWrite w k cap => run (execWidthCapWrite w k cap s)
  | .svcTransitRead w a be => run (execSvcTransitRead w a be s)
  | .svcTransitWrite w a be => run (execSvcTransitWrite w a be s)
  | .ranksWrite w v => run (execRanksWrite w v s)
  | .tirqAssert line => run (execTirqAssert line s)
  | .tintSet w l => run (execTintSet w l s)
  | .tintClr w l => run (execTintClr w l s)
  | .adopt w => run (execAdopt w s)
  | .handback w => run (execHandback w s)
  | .dim w => run (execDim w s)
  | .park w => run (execPark w s)
  | .service w => run (execService w s)
  | .release w => s.releaseRow w
  | .hold w v => run (execHold w v s)
  | .quarantineRelease w x a b => run (execQuarantineRelease w x a b s)
  | .enter w => run (execEnter w s)
  | .eyeSel w v => run (execEyeSel w v s)
  | .eyeRecAutoIncRead w => run (execEyeRecAutoIncRead w s)
  | .eyeCaptureDone w => run (execEyeCaptureDone w s)
  | _ => s

/-- Run a command that was held behind the almanac, with the words staged for it (R44). -/
def runHeld (h : Held) (s : State) : State :=
  match h.cmd with
  | .catCommit w i => { s with b := s.b.catCommitCore w i h.words }
  | .create .. | .destroy .. | .reset .. => { s with b := s.b.viRun h.cmd h.words }
  | .registerWrite w off be v => s.ctlWrite w off be v
  | _ => s

/-- Serve what was held at the faces, in order of arrival, in the modes that serve traffic. -/
def State.serveFaces (s : State) : State :=
  if s.b.eng.held = [] || s.b.mode < 4 || 9 ≤ s.b.mode then s else
  s.b.eng.held.foldl (fun (s : State) i => serveHeld i s) { s with b := { s.b with eng := { s.b.eng with held := [] } } }

/-- Run what was held behind the almanac, in order of arrival. -/
def State.serveAlm (s : State) : State :=
  if s.b.alm.held = [] || s.b.almHolds then s else
  (s.b.alm.held.foldl (fun (s : State) h => runHeld h s) { s with b := { s.b with alm := { s.b.alm with held := [] } } }).settled

/-- Run the commands whose domains have opened, in order of arrival, with the words that they took (R26). -/
def State.serveDoms (s : State) : State :=
  let l := s.b.eng.domHeld
  if l = [] then s else
  l.foldl (fun (s : State) (x : List Nat × Held) =>
    if !s.b.domsOpen x.1 then { s with b := { s.b with eng := { s.b.eng with domHeld := s.b.eng.domHeld ++ [x] } } }
    else if x.2.words = [] then serveHeld x.2.cmd s else (runHeld x.2 s).settled)
    { s with b := { s.b with eng := { s.b.eng with domHeld := [] } } }

/-- Let in what flow control held, in order of arrival, as far as there is room (R137). -/
def State.serveFc (s : State) : State :=
  let l := s.b.eng.fcWait
  if l = [] then s else
  l.foldl (fun (s : State) x => serveHeld x.2 s) { s with b := { s.b with eng := { s.b.eng with fcWait := [] } } }

/-- Let the changes take effect that isolation keeps from the partner (R385). -/
def State.serveMirror (s : State) : State := { s with b := s.b.unmirror s.mem }

/-- Everything that no longer waits runs. -/
def State.resume (s : State) : State := s.serveMirror.serveAlm.serveFaces.serveDoms.serveFc

/-! The rows. -/

def execRegisterWrite (w : Writer) (off : Nat) (be : BitVec 8) (value : Word) (s : State) : Host.Outcome State Fault Refusal :=
  .next (s.registerRow w off be value).resume

def execSvcWrite64 (off : Nat) (value : Word) (complete : Bool) (s : State) : Host.Outcome State Fault Refusal :=
  .next (s.svc64 off value complete).resume

def execSvcWrite32 (off : Nat) (value : BitVec 32) (complete : Bool) (s : State) : Host.Outcome State Fault Refusal :=
  .next (s.svc32 off value complete).resume

def execPostedEntryIssue (ap : Nat) (s : State) : Host.Outcome State Fault Refusal :=
  .next (if s.b.issues || s.b.mode = 3 then (s.issueNext ap).settled.resume else s)

/-- The open time of a domain has passed (R403): what waited for it goes on. -/
def execShutterOpened (n : Nat) (s : State) : Host.Outcome State Fault Refusal :=
  .next (if s.b.domState n = 1 then ({ s with b := s.b.setDom n 2 } : State).settled.resume else s)

def execRelease (w : Writer) (s : State) : Host.Outcome State Fault Refusal := .next (s.releaseRow w).resume

/-- The wake ends (R399): back to the mode of PWR_MODE.RETURN, and what waited runs. -/
def execWakeComplete (s : State) : Host.Outcome State Fault Refusal :=
  .next (if s.b.wakeDone then (({ s with b := s.b.finishWake } : State).settled).resume else s)

/-- A load attempt ends (R39, R40, R52). -/
def execAlmanacLoadDone (s : State) : Host.Outcome State Fault Refusal :=
  .next (({ s with b := if s.b.mode = 11 then s.b else s.b.loadDone } : State).settled).resume

/-- The apply limit of a load attempt or a commit expires (R40). -/
def execApplyLimitExpire (s : State) : Host.Outcome State Fault Refusal :=
  .next (({ s with b := if s.b.mode = 11 then s.b else s.b.applyLimit } : State).settled).resume

/-- A commit ends (R42). -/
def execAlmCommitDone (s : State) : Host.Outcome State Fault Refusal :=
  .next (({ s with b := if s.b.mode = 11 then s.b else s.b.commitDone } : State).settled).resume

/-- A mirror ACK is received (R378). -/
def execAck (seq code : Nat) (s : State) : Host.Outcome State Fault Refusal :=
  .next (({ s with b := s.b.mirrorRx (fun b => b.ackRx s.mem seq code) } : State).settled).resume

/-- The mirror ack timeout expires (R378). -/
def execMirrorAckTimeout (s : State) : Host.Outcome State Fault Refusal :=
  .next (({ s with b := s.b.ackTimeout } : State).settled).resume

end Sys2Proof.Machine
end

