-- ==== Sys2Proof/Machine/Dispatch.lean ====
section
/-!
DEFINITION. The dispatch: one arm per command, each one direct call of the command's meaning.
-/
namespace Sys2Proof.Machine

open Sys2Proof

/-- The effect of a command on everything but the queue. -/
def exec (i : Instr) (s : State) : Host.Outcome State Fault Refusal :=
  match i with
  | .vauxPowerOn pwrgood perstReleased straps slot0 slot1 => Sys2Proof.Machine.execVauxPowerOn pwrgood perstReleased straps slot0 slot1 s
  | .vauxLost => Sys2Proof.Machine.execVauxLost s
  | .pwrgoodRise straps slot0 slot1 => Sys2Proof.Machine.execPwrgoodRise straps slot0 slot1 s
  | .pwrgoodFall => Sys2Proof.Machine.execPwrgoodFall s
  | .perstAssert => Sys2Proof.Machine.execPerstAssert s
  | .perstRelease straps slot0 slot1 => Sys2Proof.Machine.execPerstRelease straps slot0 slot1 s
  | .almanacLoadDone => Sys2Proof.Machine.execAlmanacLoadDone s
  | .applyLimitExpire => Sys2Proof.Machine.execApplyLimitExpire s
  | .serviceLoadWaitExpire => Sys2Proof.Machine.execServiceLoadWaitExpire s
  | .chartingComplete => Sys2Proof.Machine.execChartingComplete s
  | .bareRelink => Sys2Proof.Machine.execBareRelink s
  | .stage w => Sys2Proof.Machine.execStage w s
  | .commit w => Sys2Proof.Machine.execCommit w s
  | .almCommitDone => Sys2Proof.Machine.execAlmCommitDone s
  | .cancel w => Sys2Proof.Machine.execCancel w s
  | .seal w => Sys2Proof.Machine.execSeal w s
  | .load w => Sys2Proof.Machine.execLoad w s
  | .compact w => Sys2Proof.Machine.execCompact w s
  | .shelfDataWrite w value => Sys2Proof.Machine.execShelfDataWrite w value s
  | .shelfDataRead w => Sys2Proof.Machine.execShelfDataRead w s
  | .registerWrite w off be value => Sys2Proof.Machine.execRegisterWrite w off be value s
  | .rcFieldRead w off lo hi => Sys2Proof.Machine.execRcFieldRead w off lo hi s
  | .svcWrite64 off value complete => Sys2Proof.Machine.execSvcWrite64 off value complete s
  | .svcWrite32 off value complete => Sys2Proof.Machine.execSvcWrite32 off value complete s
  | .svcRead32 off => Sys2Proof.Machine.execSvcRead32 off s
  | .svcRead64 off => Sys2Proof.Machine.execSvcRead64 off s
  | .svcStatus => Sys2Proof.Machine.execSvcStatus s
  | .hostPostedWrite r => Sys2Proof.Machine.execHostPostedWrite r s
  | .hostRead r => Sys2Proof.Machine.execHostRead r s
  | .hostAtomicOp r => Sys2Proof.Machine.execHostAtomicOp r s
  | .hostConfigRequest ap tag fn acc => Sys2Proof.Machine.execHostConfigRequest ap tag fn acc s
  | .hostCompletion c => Sys2Proof.Machine.execHostCompletion c s
  | .completionTimeout idx => Sys2Proof.Machine.execCompletionTimeout idx s
  | .ledgerEntryFree idx => Sys2Proof.Machine.execLedgerEntryFree idx s
  | .busMasterEnableClear ap fn => Sys2Proof.Machine.execBusMasterEnableClear ap fn s
  | .busMasterEnableSet ap fn => Sys2Proof.Machine.execBusMasterEnableSet ap fn s
  | .vfFlr ap vf => Sys2Proof.Machine.execVfFlr ap vf s
  | .pf0Flr ap => Sys2Proof.Machine.execPf0Flr ap s
  | .apertureLinkEvent ap ev => Sys2Proof.Machine.execApertureLinkEvent ap ev s
  | .barResize ap vfBar sizeLog2 => Sys2Proof.Machine.execBarResize ap vfBar sizeLog2 s
  | .numvfsWrite ap n => Sys2Proof.Machine.execNumvfsWrite ap n s
  | .interruptMethodChange ap fn msixEn msiEn => Sys2Proof.Machine.execInterruptMethodChange ap fn msixEn msiEn s
  | .vectorUnmask ap fn u => Sys2Proof.Machine.execVectorUnmask ap fn u s
  | .laneMarginingCommand ap lane p measured => Sys2Proof.Machine.execLaneMarginingCommand ap lane p measured s
  | .postedEntryIssue ap => Sys2Proof.Machine.execPostedEntryIssue ap s
  | .catCommit w idx => Sys2Proof.Machine.execCatCommit w idx s
  | .barrierPost b scope => Sys2Proof.Machine.execBarrierPost b scope s
  | .barrierRead b scope tag => Sys2Proof.Machine.execBarrierRead b scope tag s
  | .barrierComplete ap fn => Sys2Proof.Machine.execBarrierComplete ap fn s
  | .barLimitExpire ap fn => Sys2Proof.Machine.execBarLimitExpire ap fn s
  | .shadowWrite c w value => Sys2Proof.Machine.execShadowWrite c w value s
  | .arm c => Sys2Proof.Machine.execArm c s
  | .disarm c => Sys2Proof.Machine.execDisarm c s
  | .resume c => Sys2Proof.Machine.execResume c s
  | .skip c => Sys2Proof.Machine.execSkip c s
  | .abort c => Sys2Proof.Machine.execAbort c s
  | .channelQuiet c => Sys2Proof.Machine.execChannelQuiet c s
  | .runlistPlace d => Sys2Proof.Machine.execRunlistPlace d s
  | .segmentTake f => Sys2Proof.Machine.execSegmentTake f s
  | .stealProbe f d => Sys2Proof.Machine.execStealProbe f d s
  | .finderClockGate f => Sys2Proof.Machine.execFinderClockGate f s
  | .segmentWatchdogExpire c seg => Sys2Proof.Machine.execSegmentWatchdogExpire c seg s
  | .wedgeEscalation c => Sys2Proof.Machine.execWedgeEscalation c s
  | .dispatch ap d => Sys2Proof.Machine.execDispatch ap d s
  | .swapTo w ap => Sys2Proof.Machine.execSwapTo w ap s
  | .swapFrom w ap => Sys2Proof.Machine.execSwapFrom w ap s
  | .shareWrite w vi r value => Sys2Proof.Machine.execShareWrite w vi r value s
  | .guideOpen d => Sys2Proof.Machine.execGuideOpen d s
  | .create w ap vf => Sys2Proof.Machine.execCreate w ap vf s
  | .destroy w ap vi => Sys2Proof.Machine.execDestroy w ap vi s
  | .reset w ap vi => Sys2Proof.Machine.execReset w ap vi s
  | .selfResetRequest ap vf key reset => Sys2Proof.Machine.execSelfResetRequest ap vf key reset s
  | .instanceResetDrained vi => Sys2Proof.Machine.execInstanceResetDrained vi s
  | .drainDeadline vi => Sys2Proof.Machine.execDrainDeadline vi s
  | .append p bytes => Sys2Proof.Machine.execAppend p bytes s
  | .packet p bytes => Sys2Proof.Machine.execPacket p bytes s
  | .logPortClose p => Sys2Proof.Machine.execLogPortClose p s
  | .consume p len tag => Sys2Proof.Machine.execConsume p len tag s
  | .consumeStallExpire q => Sys2Proof.Machine.execConsumeStallExpire q s
  | .dropRest p => Sys2Proof.Machine.execDropRest p s
  | .setMark p => Sys2Proof.Machine.execSetMark p s
  | .clearMark p => Sys2Proof.Machine.execClearMark p s
  | .rewind p => Sys2Proof.Machine.execRewind p s
  | .flush p => Sys2Proof.Machine.execFlush p s
  | .unreadTimeout q => Sys2Proof.Machine.execUnreadTimeout q s
  | .spillRefillDone q => Sys2Proof.Machine.execSpillRefillDone q s
  | .archiveTimeout id => Sys2Proof.Machine.execArchiveTimeout id s
  | .meridianRead p pkt => Sys2Proof.Machine.execMeridianRead p pkt s
  | .meridianWrite p pkt => Sys2Proof.Machine.execMeridianWrite p pkt s
  | .rload p pkt => Sys2Proof.Machine.execRload p pkt s
  | .cstore p pkt => Sys2Proof.Machine.execCstore p pkt s
  | .atomic p pkt => Sys2Proof.Machine.execAtomic p pkt s
  | .interrupt p pkt => Sys2Proof.Machine.execInterrupt p pkt s
  | .caps p pkt => Sys2Proof.Machine.execCaps p pkt s
  | .meridianBarrier p pkt => Sys2Proof.Machine.execMeridianBarrier p pkt s
  | .meridianCpl p pkt => Sys2Proof.Machine.execMeridianCpl p pkt s
  | .meridianCpld p pkt => Sys2Proof.Machine.execMeridianCpld p pkt s
  | .meridianTimeout p tag => Sys2Proof.Machine.execMeridianTimeout p tag s
  | .meridianTagFree p tag => Sys2Proof.Machine.execMeridianTagFree p tag s
  | .meridianRetryResend p tag => Sys2Proof.Machine.execMeridianRetryResend p tag s
  | .payload k h words corrected => Sys2Proof.Machine.execPayload k h words corrected s
  | .idle k h corrected => Sys2Proof.Machine.execIdle k h corrected s
  | .badFlit k => Sys2Proof.Machine.execBadFlit k s
  | .pause k lanes => Sys2Proof.Machine.execPause k lanes s
  | .retrainReq k ctl => Sys2Proof.Machine.execRetrainReq k ctl s
  | .retrainAck k ctl => Sys2Proof.Machine.execRetrainAck k ctl s
  | .down k => Sys2Proof.Machine.execDown k s
  | .replayTimerExpire k => Sys2Proof.Machine.execReplayTimerExpire k s
  | .creditTimeout k kind => Sys2Proof.Machine.execCreditTimeout k kind s
  | .downHoldExpire k => Sys2Proof.Machine.execDownHoldExpire k s
  | .trainingPhaseDone k info => Sys2Proof.Machine.execTrainingPhaseDone k info s
  | .trainingPhaseTimeout k => Sys2Proof.Machine.execTrainingPhaseTimeout k s
  | .retrainReqResend k => Sys2Proof.Machine.execRetrainReqResend k s
  | .retrainTimeout k => Sys2Proof.Machine.execRetrainTimeout k s
  | .ifvRetrain w k => Sys2Proof.Machine.execIfvRetrain w k s
  | .ifvDown w k => Sys2Proof.Machine.execIfvDown w k s
  | .ifvUp w k => Sys2Proof.Machine.execIfvUp w k s
  | .widthCapWrite w k cap => Sys2Proof.Machine.execWidthCapWrite w k cap s
  | .lossOfLock lane elastic => Sys2Proof.Machine.execLossOfLock lane elastic s
  | .lossOfSignal lane => Sys2Proof.Machine.execLossOfSignal lane s
  | .losHeldExpire lane => Sys2Proof.Machine.execLosHeldExpire lane s
  | .microRetrainDone lane => Sys2Proof.Machine.execMicroRetrainDone lane s
  | .microRetrainTimeout lane => Sys2Proof.Machine.execMicroRetrainTimeout lane s
  | .refclkWindow k count => Sys2Proof.Machine.execRefclkWindow k count s
  | .scanComplete lane eyes yields => Sys2Proof.Machine.execScanComplete lane eyes yields s
  | .eyeHoldExpire lane => Sys2Proof.Machine.execEyeHoldExpire lane s
  | .transitWriteCycle b => Sys2Proof.Machine.execTransitWriteCycle b s
  | .transitReadCycle b => Sys2Proof.Machine.execTransitReadCycle b s
  | .tgtWaitExpire slot => Sys2Proof.Machine.execTgtWaitExpire slot s
  | .delayedHoldExpire slot => Sys2Proof.Machine.execDelayedHoldExpire slot s
  | .arbitrationDecision ext => Sys2Proof.Machine.execArbitrationDecision ext s
  | .grantUnused => Sys2Proof.Machine.execGrantUnused s
  | .transitUnclaimed addr => Sys2Proof.Machine.execTransitUnclaimed addr s
  | .dataPhaseWaitExpire addr => Sys2Proof.Machine.execDataPhaseWaitExpire addr s
  | .grantHoldExpire addr => Sys2Proof.Machine.execGrantHoldExpire addr s
  | .transitBurstDone e => Sys2Proof.Machine.execTransitBurstDone e s
  | .transitRetryGapExpire => Sys2Proof.Machine.execTransitRetryGapExpire s
  | .svcTransitRead w addr be => Sys2Proof.Machine.execSvcTransitRead w addr be s
  | .svcTransitWrite w addr be => Sys2Proof.Machine.execSvcTransitWrite w addr be s
  | .ranksWrite w value => Sys2Proof.Machine.execRanksWrite w value s
  | .tirqAssert line => Sys2Proof.Machine.execTirqAssert line s
  | .tirqRepeat line => Sys2Proof.Machine.execTirqRepeat line s
  | .tintSet w bits => Sys2Proof.Machine.execTintSet w bits s
  | .tintClr w bits => Sys2Proof.Machine.execTintClr w bits s
  | .hello h => Sys2Proof.Machine.execHello h s
  | .change seq c => Sys2Proof.Machine.execChange seq c s
  | .ack seq code => Sys2Proof.Machine.execAck seq code s
  | .ckpt confirm chans => Sys2Proof.Machine.execCkpt confirm chans s
  | .logpkt q words => Sys2Proof.Machine.execLogpkt q words s
  | .logptr p => Sys2Proof.Machine.execLogptr p s
  | .resyncEnd seq => Sys2Proof.Machine.execResyncEnd seq s
  | .retract seq => Sys2Proof.Machine.execRetract seq s
  | .mirrorAckTimeout => Sys2Proof.Machine.execMirrorAckTimeout s
  | .checkpointSend => Sys2Proof.Machine.execCheckpointSend s
  | .heartbeatEdge => Sys2Proof.Machine.execHeartbeatEdge s
  | .heartbeatLost => Sys2Proof.Machine.execHeartbeatLost s
  | .tclkNotSeen => Sys2Proof.Machine.execTclkNotSeen s
  | .fenceExpire => Sys2Proof.Machine.execFenceExpire s
  | .mirrorStrobeTimeout => Sys2Proof.Machine.execMirrorStrobeTimeout s
  | .fabricClockStop => Sys2Proof.Machine.execFabricClockStop s
  | .adopt w => Sys2Proof.Machine.execAdopt w s
  | .handback w => Sys2Proof.Machine.execHandback w s
  | .dim w => Sys2Proof.Machine.execDim w s
  | .dimIdleExpire => Sys2Proof.Machine.execDimIdleExpire s
  | .wake src => Sys2Proof.Machine.execWake src s
  | .wakeComplete => Sys2Proof.Machine.execWakeComplete s
  | .park w => Sys2Proof.Machine.execPark w s
  | .service w => Sys2Proof.Machine.execService w s
  | .release w => Sys2Proof.Machine.execRelease w s
  | .siderealAlarm => Sys2Proof.Machine.execSiderealAlarm s
  | .shutterOpenRequest n => Sys2Proof.Machine.execShutterOpenRequest n s
  | .shutterOpened n => Sys2Proof.Machine.execShutterOpened n s
  | .shutterClose n => Sys2Proof.Machine.execShutterClose n s
  | .calibrationDone edges => Sys2Proof.Machine.execCalibrationDone edges s
  | .calibrationPeriod => Sys2Proof.Machine.execCalibrationPeriod s
  | .fatalInternalError cause struct index => Sys2Proof.Machine.execFatalInternalError cause struct index s
  | .quarantineHoldExpire straps slot0 slot1 => Sys2Proof.Machine.execQuarantineHoldExpire straps slot0 slot1 s
  | .hold w v => Sys2Proof.Machine.execHold w v s
  | .quarantineRelease w straps slot0 slot1 => Sys2Proof.Machine.execQuarantineRelease w straps slot0 slot1 s
  | .enter w => Sys2Proof.Machine.execEnter w s
  | .thermtrip => Sys2Proof.Machine.execThermtrip s
  | .eyeSel w value => Sys2Proof.Machine.execEyeSel w value s
  | .eyeCaptureDone w => Sys2Proof.Machine.execEyeCaptureDone w s
  | .eyeRecAutoIncRead w => Sys2Proof.Machine.execEyeRecAutoIncRead w s
  | .hostLinkStateChange ap l => Sys2Proof.Machine.execHostLinkStateChange ap l s
  | .hostLinkError ap e => Sys2Proof.Machine.execHostLinkError ap e s
  | .archiveRequestServed e => Sys2Proof.Machine.execArchiveRequestServed e s
  | .eccCorrected struct => Sys2Proof.Machine.execEccCorrected struct s
  | .lossOfSignalEnd lane => Sys2Proof.Machine.execLossOfSignalEnd lane s
  | .tirqDeassert line => Sys2Proof.Machine.execTirqDeassert line s

end Sys2Proof.Machine
end

