-- ==== Sys2Proof/Machine/Tick.lean ====
section
/-!
DEFINITION. One sidereal tick of 20 ns, which passes when no command waits (log entry 2): the tick counter, the lifetime
tick counters, the token buckets, the checkpoint age, PAIR_HB_OUT, the lane symbols of the links, and what stood waiting for time alone.
-/
namespace Sys2Proof.Machine

open Sys2Proof

/-- Tokens that 1 MB/s adds in a tick, in units of 2^-24 byte (R201): 60 fabric cycles of 5,592.4 units. -/
def tokensPerTick : Nat := 335544

/-- Add a tick's tokens to every bucket in use, up to the DEPTH in force (R201, R202). -/
def Bridge.refill (b : Bridge) : Bridge :=
  { b with eng := { b.eng with buckets := b.eng.buckets.map (fun (p : Nat × Bucket) =>
      let w := p.2.pend.getD (b.raw (.dspViBucket (p.1 / 2) (p.1 % 2)))
      let depth := wget w Fld.dspViBucket_DEPTH_KIB * 1024 * 2 ^ 24
      (p.1, { p.2 with fill := min depth (p.2.fill + wget w Fld.dspViBucket_RATE * tokensPerTick) })) } }

/-- PAIR_HB_OUT (R382): it toggles every 25 ticks in M4 to M10 while pair enable is 1 and nothing holds it low, muting or another
event. -/
def Bridge.heartbeat (b : Bridge) : Bridge :=
  let p := b.eng.pair
  let runs : Bool := b.paired && 4 ≤ b.mode && b.mode ≤ 10 && !p.hbHold && b.pst Fld.ifvPairStat_MUTED = 0
  b.putPair { p with hbOut := runs && (if b.tick % 25 = 0 then !p.hbOut else p.hbOut) }

/-- The tick counts of FLT_LIFE (R440): M4 to M8 and M10, and M9. -/
def Bridge.lifeTick (b : Bridge) : Bridge :=
  if (4 ≤ b.mode && b.mode ≤ 8) || b.mode = 10 then b.life 27 else if b.mode = 9 then b.life 28 else b

/-- A tick of the sidereal clock, which runs while VAUX is present (R408). -/
def Bridge.tickOn (b : Bridge) : Bridge :=
  if b.mode = 0 then b else
  let b := { b with tick := b.tick + 1 }
  let b := (b.lifeTick.heartbeat).bump .ifvJournal Fld.ifvJournal_CKPT_AGE
  if b.mode < 2 || b.mode = 9 || b.mode = 11 then b else (List.range 5).foldl (fun (b : Bridge) k => b.linkTick k) b.refill

/-- A tick, and whatever no longer waits after it. -/
def State.tickOn (s : State) : State :=
  let s := { s with b := s.b.tickOn }
  if s.b.mode < 2 || s.b.heldReset then s else s.settled.resume

end Sys2Proof.Machine
end

