-- ==== Sys2Proof/Safety.lean ====
section
/-!
DEFINITION. What claims call sound: the canonical form of the archive memory; the bridges in which nothing waits to be
served, and what settling then changes.
-/
namespace Sys2Proof.Machine

open Sys2Proof

/-- The archive memory is in canonical form: equal memories are equal data. -/
def State.sound (s : State) : Prop := memWf s.mem = true

/-- Nothing stands half-way inside the bridge: no request has ended unreported; no packet, port access, producer, Transit
target work, host read, barrier or function-level reset of PF0 waits; and no channel holds segments or is ACTIVE. Settling
then has nothing to serve. -/
def Bridge.calm (b : Bridge) : Bool :=
  b.eng.done.isEmpty && b.eng.pair.tx.isEmpty && b.eng.merPorts.all (fun x => x.waiting.isEmpty) && b.eng.logWait.isEmpty &&
    b.eng.queues.all (fun q => q.2.blocked.isEmpty) && b.eng.trn.wq.isEmpty && b.eng.trn.pendingWait.isEmpty &&
    b.eng.trn.delayed.isEmpty && b.eng.chans.all (fun x => x.segs.isEmpty && decide (b.chState x.c ≠ 1)) &&
    b.hostReads.isEmpty && b.barriers.isEmpty && b.eng.pfFlrs.isEmpty

/-- No command is held: at its face, behind the almanac, for a shutter domain or for room in a posting buffer (R26, R44, R137,
R396, R399, R402); and no change waits to be sent to the partner (R374, R377). -/
def Bridge.nothingHeld (b : Bridge) : Bool :=
  b.eng.held.isEmpty && b.alm.held.isEmpty && b.eng.domHeld.isEmpty && b.eng.fcWait.isEmpty && b.eng.pair.queued.isEmpty

/-- Whether event bit `n` of block `k` is set (R459). -/
def Bridge.event (b : Bridge) (k : Blk) (n : Nat) : Bool := (b.raw (.blkEvent k)).getLsbD n

/-- The modes in which the bridge serves traffic: M4 to M8 (R393). -/
def Bridge.serving (b : Bridge) : Bool := 4 ≤ b.mode && b.mode ≤ 8

/-- A write of writer `w` to the register at `off` reaches its block at once: the writer is there, and the mode neither
rejects nor holds it (R393, R396, R399, R402, R418, R424, R441). -/
def Bridge.takes (b : Bridge) (w : Writer) (off : Nat) : Bool :=
  decide (2 ≤ b.mode) && !b.heldReset && b.writerThere w && decide (b.mode ≠ 9) && decide (b.mode ≠ 11) &&
    (decide (b.mode ≠ 10) || decide (w = .svc)) && (decide (b.mode ≠ 3) || (Blk.ofOffset off).inBare)

/-- No strap changed around its sampling (R419). -/
def strapsSteady (x : Straps) : Bool := !x.unstableSrc && !x.unstableBare && !x.unstablePair

/-- A bridge that has just started with cause `n` under steady straps (R37, R419, R424, R440): ID_BOOT shows both; Bare at
once where the host is the source; waiting in M2 where the service port is. -/
def Bridge.startedFrom (b : Bridge) (n : Nat) (x : Straps) : Prop :=
  b.get .idBoot Fld.idBoot_CAUSE = n ∧ b.get .idBoot Fld.idBoot_BOOT_BARE_N = bit x.bootBareN ∧
  b.get .idBoot Fld.idBoot_ALM_SRC = x.almSrc.toNat ∧ b.get .idBoot Fld.idBoot_PAIR_ID = bit x.pairId ∧
  (x.bootBareN = false ∨ x.almSrc = 2 → b.mode = 3 ∧ b.pins.hostTerm = true) ∧
  (x.bootBareN = true → x.almSrc = 3 → b.mode = 2 ∧ b.alm.waitService = true) ∧ (b.mode = 2 ∨ b.mode = 3)

/-- An access to a channel is served (R26, R153, R183): a VF's on a trained path in the modes that serve, a control-space write
that reaches its block; the channel `c` exists, the writer may act on it, and the domain that holds it is open. -/
def Bridge.servesChan (b : Bridge) (x : ChanSel) (c : Nat) : Prop :=
  (match x with
   | .slot ap vf _ => b.hostThere ap = true ∧ b.serving = true ∧ vf ≠ 0 ∧ b.fnAnswers ap vf = true
   | .chan w n => b.takes w (0x720000 + 8 * n) = true) ∧ b.chanOf x = some c ∧ b.chanAllowed x c = true ∧
  b.domsOpen [chanDom c] = true

/-- The bridge as a channel access finds it: a service-port write clears the port's error status (R466). -/
def Bridge.asSeenBy (b : Bridge) : ChanSel → Bridge
  | .slot .. => b
  | .chan w _ => b.svcMark w false

/-- An access to a logbook port is served (R240, R396, R402): the bridge's own and the finders' from Charting on, another
source's in the modes that serve traffic, a VF's while it answers. -/
def Bridge.portServes (b : Bridge) (p : PortSel) : Bool :=
  (match p.src with
   | .bridge | .finder _ => decide (4 ≤ b.mode) && decide (b.mode ≠ 11)
   | _ => b.serving) && b.portOpen p

/-- A bus event as the bridge finds it (R315, R316, R392): on a bridge that does not drive TCLK it shows that TCLK runs. -/
def Bridge.busSeen (b : Bridge) : Bridge :=
  if b.get .trnBusCfg Fld.trnBusCfg_ARBITER = 0 then
    { b.set .ifvPairStat Fld.ifvPairStat_TCLK_SEEN 1 with eng := { b.eng with pair := { b.eng.pair with tclkEdge := b.tick } } }
  else b

/-- A mirror packet is taken (R381, R382, R397, R441): the pair is enabled, Ifevin is not down, and the mode runs the engine. -/
def Bridge.hearsPartner (b : Bridge) : Bool :=
  b.paired && decide (4 ≤ b.mode) && decide (b.mode ≠ 9) && decide (b.mode ≠ 11) &&
    decide (2 ≤ b.get (.ifvLinkStat 4) Fld.ifvLinkStat_STATE)

/-- The registers through which settling reports: event status, the director's interrupt status and the domains' counts. -/
def Reg.reports : Reg → Bool
  | .blkEvent _ => true
  | .idIntPend _ _ => true
  | .pwrDomStat _ => true
  | _ => false

/-- `t` is `b` but for what settling reports: events raised with their vectors and messages, LTR messages, domains that
open for standing work, and the windows that it keeps. -/
structure Bridge.Reported (b t : Bridge) : Prop where
  shape : t = { b with
    nextId := t.nextId, out := t.out, regs := t.regs, pendVec := t.pendVec, reqs := t.reqs
    eng := { b.eng with
      ltr := t.eng.ltr, quotaWait := t.eng.quotaWait, drainWait := t.eng.drainWait, links := t.eng.links, doms := t.eng.doms
      dimSince := t.eng.dimSince } }
  raw : ∀ r, Reg.reports r = false → t.raw r = b.raw r
  events : ∀ k n, (b.raw (.blkEvent k)).getLsbD n = true → (t.raw (.blkEvent k)).getLsbD n = true
  out : ∃ l, t.out = b.out ++ l
  reqs : ∃ l, t.reqs = b.reqs ++ l ∧ ∀ j ∈ l, j.origin.isMessage = true
  pendVec : ∀ p ∈ b.pendVec, p ∈ t.pendVec
  link : ∀ k, t.link k = { b.link k with creditWait := (t.link k).creditWait }
  dom : ∀ n, t.domState n = b.domState n ∨ (b.domState n = 0 ∧ t.domState n = 1)

/-- The commands that can change the archive memory: those with which the arbiter serves a request (R16), and the loss of VAUX. -/
def writesMemory : Instr → Bool
  | .vauxLost | .archiveRequestServed _ | .spillRefillDone _ => true
  | _ => false

end Sys2Proof.Machine
end

