-- ==== Sys2Proof/Certificates/Slice0/Obligations.lean ====
section
/-!
DEFINITION. The statements, from the numbered rules of the spec.
-/

open Sys2Proof
open Sys2Proof.Machine

/-! The block as a whole.  -/

/-- A step with commands waiting runs the one at the front of the queue, on the state with the rest of the queue. -/
def Obligations.StepRunsFrontCommand : Prop :=
  ∀ (s : State) (c : Instr) (rest : List Instr),
    step { s with pending := c :: rest } = exec c { s with pending := rest }

/-- Log entry 2, the model's choice: a step with no command waiting is one tick of 20 ns. Without VAUX nothing changes (R408); in M1 the
tick counter advances by one and no register but the journal's age changes. -/
def Obligations.EmptyQueueTicks : Prop :=
  ∀ s : State, s.pending = [] →
    (s.b.mode = 0 → step s = .next s) ∧
    (s.b.mode = 1 → ∃ t, step s = .next t ∧ t.b.tick = s.b.tick + 1 ∧ t.mem = s.mem ∧ t.pending = [] ∧
      (∀ r, r ≠ .ifvJournal → t.b.raw r = s.b.raw r))

/-- Every command answers a next state, in every state, and leaves the queue to the step. -/
def Obligations.ExecAnswersNext : Prop :=
  ∀ (c : Instr) (s : State), ∃ t, exec c s = .next t ∧ t.pending = s.pending

/-- The archive memory stays in canonical form over every step. -/
def Obligations.StepKeepsMemoryCanonical : Prop :=
  ∀ s t : State, s.sound → step s = .next t → t.sound

/-- After reset the archive memory is in canonical form and lists nothing, and no command waits. -/
def Obligations.ResetSound : Prop :=
  State.reset.sound ∧ State.reset.pending = [] ∧ ∀ a, memGet State.reset.mem a = memDefault

/-- R16, R60, R470: what the archive memory keeps. A command that stores nothing leaves every byte as it was. A request that the archive
serves, in every mode but Quarantine and only while the archive is ready, stores the enabled bytes of its write and no other. -/
def Obligations.ArchiveMemoryFrame : Prop :=
  (∀ (c : Instr) (s t : State), writesMemory c = false → exec c s = .next t → t.mem = s.mem) ∧
  (∀ (e : ArchiveEnd) (s : State),
    (s.b.get .arcStat Fld.arcStat_READY = 1 → s.b.mode ≠ 11 → ∀ r, s.b.archNext = some r →
      exec (.archiveRequestServed e) s = .next (s.archServe e r)) ∧
    (s.b.get .arcStat Fld.arcStat_READY = 0 ∨ s.b.mode = 11 ∨ s.b.archNext = none →
      exec (.archiveRequestServed e) s = .next s)) ∧
  (∀ (e : ArchiveEnd) (s : State) (r : ArchReq),
    (∀ j d k, r.job = some j → j.op = .write d k →
      let m := (s.archServe e r).mem
      (∀ i, i < d.length → memGet m (j.addr + i) = ((d[i]?).getD none).getD (memGet s.mem (j.addr + i))) ∧
      ∀ x, (x < j.addr ∨ j.addr + d.length ≤ x) → memGet m x = memGet s.mem x) ∧
    ((∀ j, r.job = some j → ∀ d k, j.op ≠ .write d k) → (s.archServe e r).mem = s.mem))

/-- R460: SVC_ALERT_N is asserted exactly while a block has an event that its SVC_EN selects, while the bridge is parked, and in
Quarantine. -/
def Obligations.ServiceAlert : Prop :=
  ∀ b : Bridge, b.svcAlert = true ↔
    (∃ k ∈ Blk.all, ∃ n, n < 32 ∧ b.event k n = true ∧ (b.raw (.blkEventEn k)).getLsbD (32 + n) = true) ∨
    b.get .pwrMode Fld.pwrMode_PARKED = 1 ∨ b.mode = 11

/-! Supplies, pins and starts.  -/

/-- From R394 and R411: the loss of VAUX leaves M0, the kept page as it is initialised and no byte of the archive listed. VAUX reaching
its threshold in M0, while PWRGOOD is low or PERST_N asserted, leaves M1 with both pins as they are, the retention latch set and the kept
page as the island initialises it. From R394, R401 and R410: PWRGOOD falling in M2 to M11 leaves M1 with the Transit outputs floating and
PAIR_HB_OUT low. In every mode with VAUX the alarm of the island, the kept page, the tick counter and the archive memory stay, and
THERMTRIP_N is released; in M1 nothing else changes. -/
def Obligations.SuppliesRiseAndFall : Prop :=
  ((∀ s : State, ∃ t, exec .vauxLost s = .next t ∧ t.b.mode = 0 ∧ t.mem = [] ∧ t.b.pins.vaux = false ∧ t.b.kept = Kept.fresh) ∧
   (∀ (s : State) (pg pr : Bool) (x : Straps) (f g : FlashSlot), s.b.mode = 0 → (pg && pr) = false →
     ∃ t, exec (.vauxPowerOn pg pr x f g) s = .next t ∧ t.b.mode = 1 ∧ t.b.kept = Kept.fresh ∧ t.b.kept.latch = true ∧
       t.b.pins.vaux = true ∧ t.b.pins.pwrgood = pg ∧ t.b.pins.perstReleased = pr ∧ t.mem = s.mem)) ∧
  (∀ s : State, 1 ≤ s.b.mode → s.b.pins.pwrgood = true →
     ∃ t, exec .pwrgoodFall s = .next t ∧ t.b.mode = 1 ∧ t.b.pins.pwrgood = false ∧ t.b.pins.thermtrip = false ∧
       t.b.raw .pwrSidWake = s.b.raw .pwrSidWake ∧ t.b.kept = s.b.kept ∧ t.b.tick = s.b.tick ∧ t.mem = s.mem ∧
       (s.b.mode ≠ 1 → t.b.pins.transitFloat = true ∧ t.b.eng.pair.hbOut = false) ∧
       (s.b.mode = 1 → t.b = { s.b with pins := { s.b.pins with pwrgood := false, thermtrip := false } }))

/-- From R394 and R418: PERST_N asserted in M2 to M11 leaves M2. Every register but ID_BOOT, PWR_SID_CAL and PWR_MODE holds its reset
value; ID_BOOT is as it was; PWR_SID_CAL keeps TRIM, CALIBRATED and ERROR_PPM. Everything else is as at reset but the part and its fuse,
the pins, the tick counter, the kept page, the archive memory and the model's own records: no almanac is in force and every engine, buffer
and table is empty. PERST_N is low, the Transit outputs float, the host terminations are off and PAIR_HB_OUT is low; the other pins are as
they were. In M1 only the pin changes, and in M0 nothing. -/
def Obligations.PerstHoldsReset : Prop :=
  (∀ s : State, 2 ≤ s.b.mode → ∃ t, exec .perstAssert s = .next t ∧ t.b.mode = 2 ∧ t.b.heldReset = true ∧
    (∀ r, r ≠ .idBoot → r ≠ .pwrSidCal → r ≠ .pwrMode → t.b.raw r = r.resetValue s.b.part) ∧
    t.b.raw .idBoot = s.b.raw .idBoot ∧
    (∀ f ∈ [Fld.pwrSidCal_TRIM, Fld.pwrSidCal_CALIBRATED, Fld.pwrSidCal_ERROR_PPM],
      t.b.get .pwrSidCal f = s.b.get .pwrSidCal f) ∧
    t.b = { Bridge.reset with
      part := s.b.part, authFuse := s.b.authFuse, tick := s.b.tick, freeCtr := s.b.freeCtr, nextId := s.b.nextId, out := s.b.out
      kept := s.b.kept, regs := t.b.regs
      pins := { s.b.pins with perstReleased := false, transitFloat := true, hostTerm := false } } ∧
    t.b.eng.pair.hbOut = false ∧ t.b.alm.inForce = none ∧ t.mem = s.mem) ∧
  (∀ s : State, s.b.mode = 1 →
    exec .perstAssert s = .next { s with b := { s.b with pins := { s.b.pins with perstReleased := false } } }) ∧
  (∀ s : State, s.b.mode = 0 → exec .perstAssert s = .next s)

/-- From R37, R394, R419, R424, R440 and R443, under steady straps: VAUX with both pins high, the rise of PWRGOOD, the release of PERST_N,
the end of a Quarantine hold and the board controller's RELEASE, while no capture is in progress, each start the bridge. ID_BOOT shows the
cause and the straps. A low BOOT_BARE_N or ALM_SRC 2 leads to Bare, ALM_SRC 3 to a wait in M2 for the service port. From R443: at the
third self-reset in a row the end of the hold leads to Bare, with FLT_QUAR_STAT.BOOT_LOOP and its event. -/
def Obligations.StartsAndBootLoop : Prop :=
  (∀ (s : State) (x : Straps) (f g : FlashSlot), strapsSteady x = true →
     (s.b.mode = 0 → ∃ t, exec (.vauxPowerOn true true x f g) s = .next t ∧ t.b.startedFrom 0 x) ∧
     (s.b.mode = 1 → s.b.pins.pwrgood = false → s.b.pins.perstReleased = true →
       ∃ t, exec (.pwrgoodRise x f g) s = .next t ∧ t.b.startedFrom 1 x ∧ t.b.pins.pwrgood = true) ∧
     (s.b.mode = 2 ∨ (s.b.mode = 1 ∧ s.b.pins.pwrgood = true) → s.b.pins.perstReleased = false →
       ∃ t, exec (.perstRelease x f g) s = .next t ∧ t.b.startedFrom 2 x ∧ t.b.pins.perstReleased = true) ∧
     (s.b.holdOver = true → s.b.kept.loops < 2 →
       ∃ t, exec (.quarantineHoldExpire x f g) s = .next t ∧ t.b.startedFrom 3 x ∧ t.b.kept.loops = s.b.kept.loops + 1) ∧
     (s.b.mode = 11 → s.b.capturing = false → s.b.kept.loops < 2 →
       ∃ t, exec (.quarantineRelease .svc x f g) s = .next t ∧ t.b.startedFrom 3 x)) ∧
  (∀ (s : State) (x : Straps) (f g : FlashSlot), s.b.holdOver = true → 2 ≤ s.b.kept.loops →
     ∃ t, exec (.quarantineHoldExpire x f g) s = .next t ∧ t.b.mode = 3 ∧
       t.b.get .fltQuarStat Fld.fltQuarStat_BOOT_LOOP = 1 ∧ t.b.event .flt 4 = true)

/-! The almanac.  -/

/-- From R47: a command of ALM_CMD that its writer may give is refused by the first of these checks: 0x12 while a load, stage or commit is
in progress, 0x16 for SEAL and LOAD once sealed, 0x0E for LOAD outside M2 and M3, 0x12 for COMMIT with nothing staged. A refusal reports
its code with DONE, changes no other register but those that settling reports through, and leaves the almanac, the kept page and the
archive memory as they were. -/
def Obligations.AlmanacCommandsRefused : Prop :=
  ∀ (s : State) (w : Writer), s.b.takes w 0x00100100 = true → s.b.authorised w .almCmd = true → s.b.calm = true →
    let refused := fun (c : Instr) (code : Nat) => ∃ t, exec c s = .next t ∧
      t.b.get .almResult Fld.almResult_CODE = code ∧ t.b.get .almResult Fld.almResult_DONE = 1 ∧
      t.b.alm = s.b.alm ∧ t.b.kept = s.b.kept ∧ t.mem = s.mem ∧
      (∀ r, r ≠ .almResult → Reg.reports r = false → t.b.raw r = s.b.raw r)
    let sealed_ := s.b.get .almStatus Fld.almStatus_SEALED = 1
    (s.b.almBusy = true → ∀ c ∈ [.stage w, .commit w, .cancel w, .seal w, .load w, .compact w], refused c 0x12) ∧
    (s.b.almBusy = false → sealed_ → refused (.seal w) 0x16 ∧ refused (.load w) 0x16) ∧
    (s.b.almBusy = false → ¬ sealed_ → s.b.mode ≠ 2 → s.b.mode ≠ 3 → refused (.load w) 0x0E) ∧
    (s.b.almBusy = false → s.b.alm.staged = none → refused (.commit w) 0x12)

/-- From R38, R42, R46 and R51, for a writer that may give the command while no other is in progress. STAGE and LOAD ask the archive for
the shelf image, with DONE at 0. COMMIT of a patch that the in-use checks refuse reports their code; one that they pass begins, where
nothing is mirrored, with DONE at 0. CANCEL discards the patch. SEAL sets SEALED in M4 and after; before it answers 0x0E (log entry 62,
the model's choice). COMPACT compacts the delta log, the almanac engine's domain being open. -/
def Obligations.AlmanacCommandsAct : Prop :=
  ∀ (s : State) (w : Writer), s.b.takes w 0x00100100 = true → s.b.authorised w .almCmd = true → s.b.calm = true →
    s.b.almBusy = false →
    let done := fun (t : State) (code : Nat) =>
      t.b.get .almResult Fld.almResult_CODE = code ∧ t.b.get .almResult Fld.almResult_DONE = 1 ∧ t.mem = s.mem
    let asks := fun (t : State) (user : Nat) => t.b.get .almResult Fld.almResult_DONE = 0 ∧ t.mem = s.mem ∧
      ∃ r, t.b.archReqs = s.b.archReqs ++ [r] ∧ r.user = user ∧ r.rank = 3 ∧ r.t0 = s.b.tick ∧ r.job = none
    let sealed_ := s.b.get .almStatus Fld.almStatus_SEALED = 1
    (∃ t, exec (.stage w) s = .next t ∧ asks t 5 ∧ t.b.alm = s.b.alm) ∧
    (¬ sealed_ → s.b.mode = 2 ∨ s.b.mode = 3 → ∃ t, exec (.load w) s = .next t ∧ asks t 3) ∧
    (∀ p r, s.b.alm.staged = some p → (s.b.svcMark w false).inUse p = some r →
      ∃ t, exec (.commit w) s = .next t ∧ done t (r.code % 256) ∧ t.b.alm = s.b.alm) ∧
    (∀ p, s.b.alm.staged = some p → (s.b.svcMark w false).inUse p = none → s.b.mirrors = false →
      ∃ t, exec (.commit w) s = .next t ∧ t.b.get .almResult Fld.almResult_DONE = 0 ∧ t.mem = s.mem ∧
        t.b.alm = { s.b.alm with committing := true, start := s.b.tick }) ∧
    (∃ t, exec (.cancel w) s = .next t ∧ done t 0 ∧ t.b.alm = { s.b.alm with staged := none }) ∧
    (¬ sealed_ → 4 ≤ s.b.mode →
      ∃ t, exec (.seal w) s = .next t ∧ done t 0 ∧ t.b.get .almStatus Fld.almStatus_SEALED = 1 ∧ t.b.alm = s.b.alm) ∧
    (¬ sealed_ → s.b.mode < 4 → ∃ t, exec (.seal w) s = .next t ∧ done t 0x0E ∧ t.b.alm = s.b.alm) ∧
    (s.b.domsOpen [95] = true →
      ∃ t, exec (.compact w) s = .next t ∧ done t 0 ∧ t.b.kept = (s.b.svcMark w false).compact.kept ∧ t.b.alm = s.b.alm)

/-- From R34, R38 and R42: the archive's answer to a STAGE. An image that the checks of a patch pass is held as the staged patch, CODE 0
and DONE; one that they refuse leaves the almanac as it was, with their code and DONE. The answer to a LOAD that passes its checks leaves
the attempt waiting for the end of its application. From R42 and R45: where changes are mirrored a COMMIT of a patch with records begins
by mirroring it: it is in progress, nothing of it is in force yet, and the patch stays staged. From R40 and R42, for a commit that is in
progress and no longer mirroring, the engine's domain being open. Within its limit the end of the commit leaves nothing staged, CODE 0 and
DONE. Past its limit the commit ends with CODE 0x13 and DONE, the almanac in force as it was. Then what settling and the end of the wait
let run runs. -/
def Obligations.CommitOfPatch : Prop :=
  (∀ (s : State) (r : ArchReq), s.b.get .arcStat Fld.arcStat_READY = 1 → s.b.mode ≠ 11 → s.b.calm = true →
     s.b.archNext = some r → r.job = none →
     let b0 := (s.b.archTake r).archCount 3 (shelfImage s.mem).length
     (r.user = 5 → ∀ p, b0.stageCheck (shelfImage s.mem) = .inr p →
       ∃ t, exec (.archiveRequestServed .served) s = .next t ∧ t.b.alm = { s.b.alm with staged := some p } ∧ t.mem = s.mem ∧
         t.b.get .almResult Fld.almResult_CODE = 0 ∧ t.b.get .almResult Fld.almResult_DONE = 1) ∧
     (r.user = 5 → ∀ x, b0.stageCheck (shelfImage s.mem) = .inl x →
       ∃ t, exec (.archiveRequestServed .served) s = .next t ∧ t.b.alm = s.b.alm ∧ t.mem = s.mem ∧
         t.b.get .almResult Fld.almResult_CODE = x.code % 256 ∧ t.b.get .almResult Fld.almResult_DONE = 1) ∧
     (r.user = 3 → ∀ g, b0.loadCheck (some (shelfImage s.mem)) = .inr g →
       ∃ t, exec (.archiveRequestServed .served) s = .next t ∧ t.mem = s.mem ∧
         t.b.alm = { s.b.alm with loading := some (⟨r.arg, 0, 0, some (shelfImage s.mem)⟩, g) })) ∧
  (∀ (s : State) (w : Writer) (p : Image), s.b.takes w 0x00100100 = true → s.b.authorised w .almCmd = true →
     s.b.almBusy = false → s.b.alm.staged = some p → (s.b.svcMark w false).inUse p = none → s.b.mirrors = true → p.deltas ≠ [] →
     let b := (s.b.svcMark w false).beginCommit w p
     exec (.commit w) s = .next { s with b := b.settled s.mem } ∧
     b.alm.committing = true ∧ b.alm.mirroring = true ∧ b.alm.staged = some p ∧ b.alm.inForce = s.b.alm.inForce) ∧
  (∀ (s : State) (p : Image), s.b.mode ≠ 11 → s.b.alm.committing = true → s.b.alm.mirroring = false → s.b.alm.staged = some p →
     s.b.domsOpen [95] = true →
     exec .almCommitDone s = .next ({ s with b := s.b.commitDone } : State).settled.resume ∧
     (s.b.commitLate = false → s.b.commitDone.alm.staged = none ∧ s.b.commitDone.alm.committing = false ∧
       s.b.commitDone.get .almResult Fld.almResult_CODE = 0 ∧ s.b.commitDone.get .almResult Fld.almResult_DONE = 1) ∧
     (s.b.commitLate = true → s.b.commitDone.alm.committing = false ∧ s.b.commitDone.alm.inForce = s.b.alm.inForce ∧
       s.b.commitDone.get .almResult Fld.almResult_CODE = 0x13 ∧ s.b.commitDone.get .almResult Fld.almResult_DONE = 1) ∧
     (s.b.alm.loading = none → s.b.commitLate = true → s.b.commitDone = s.b.commitExpired p ∧
       exec .applyLimitExpire s = .next ({ s with b := s.b.commitExpired p } : State).settled.resume))

/-- From R37, R41, R52 and R420: a load attempt that ends within its limit leads to M4. Nothing loads any more, an image is in force (the
attempt's own where the delta log is empty), the kept page is active and names the image's digest and the source, the retention latch is
clear, ALM_STATUS shows the source and ALM_RESULT reads CODE 0 with DONE. Then what waited runs. From R40: a load attempt past its limit
is abandoned, by APPLY_LIMIT_EXPIRE and by its own end alike. Where no attempt follows it, nothing loads, no image is in force, the
ledger, the posting buffers and the functions' configuration are as at reset, ALM_RESULT reads CODE 0x13 with DONE, and the bridge is in
M3 when flash was the source and in the same mode otherwise. From R423: when 800 ms have passed since tick s without a LOAD, the wait for
the service port ends: ALM_RESULT reads CODE 0x15 with DONE, nothing loads, and the bridge is in M3 with its host terminations on. Before
that nothing changes. -/
def Obligations.LoadAttempts : Prop :=
  (∀ (s : State) (a : Attempt) (g : Image), s.b.mode ≠ 11 → s.b.alm.loading = some (a, g) → a.source < 4 →
     s.b.tick < s.b.alm.start + s.b.attemptLimit a →
     let b := s.b.finishLoad a g
     exec .almanacLoadDone s = .next ({ s with b := b } : State).settled.resume ∧
     b.mode = 4 ∧ b.alm.loading = none ∧ b.alm.inForce.isSome = true ∧ (s.b.kept.log = [] → b.alm.inForce = some g) ∧
     b.kept.active = true ∧ b.kept.source = a.source ∧ b.kept.digest = g.digest ∧ b.kept.latch = false ∧
     b.get .almResult Fld.almResult_CODE = 0 ∧ b.get .almResult Fld.almResult_DONE = 1 ∧
     b.get .almStatus Fld.almStatus_SOURCE = a.source) ∧
  (∀ (s : State) (a : Attempt) (g : Image), s.b.mode = 2 ∨ s.b.mode = 3 → s.b.alm.loading = some (a, g) →
     s.b.alm.start + s.b.attemptLimit a ≤ s.b.tick →
     let b := s.b.loadExpired a
     (∀ c ∈ [Instr.applyLimitExpire, .almanacLoadDone], exec c s = .next ({ s with b := b } : State).settled.resume) ∧
     (s.b.alm.next = [] → b.mode = (if a.source = 1 then 3 else s.b.mode) ∧ b.alm.loading = none ∧ b.alm.inForce = none ∧
       b.ledger = [] ∧ b.pbs = [] ∧ b.cfg = [] ∧
       b.get .almResult Fld.almResult_CODE = 0x13 ∧ b.get .almResult Fld.almResult_DONE = 1)) ∧
  (∀ s : State, s.b.mode = 2 → s.b.alm.waitService = true →
     (s.b.alm.tickS + 40000000 ≤ s.b.tick →
       ∃ t, exec .serviceLoadWaitExpire s = .next t ∧ t.b.mode = 3 ∧ t.b.pins.hostTerm = true ∧ t.b.alm.waitService = false ∧
         t.b.alm.loading = none ∧ t.b.get .almResult Fld.almResult_CODE = 0x15 ∧ t.b.get .almResult Fld.almResult_DONE = 1 ∧
         t.mem = s.mem) ∧
     (s.b.tick < s.b.alm.tickS + 40000000 → exec .serviceLoadWaitExpire s = .next s))

/-- From R394, R421 and R443: Charting complete with pair enable 0 enters M5; READY_TICKS is the time from tick s modulo 2^32, and the
count of Quarantine self-resets is 0. With pair enable 1 the count is 0 too, and then the pair decides. Before Charting is complete
nothing changes. From R425: 1 ms after a LOAD in Bare, AP0's link reads Detect and PF0's configuration fields are as their restoration
leaves them (restoreCfg). Before that nothing changes. -/
def Obligations.ChartingAndRelink : Prop :=
  (∀ s : State,
     (s.b.charted = true → s.b.paired = false → s.b.calm = true → ∃ t, exec .chartingComplete s = .next t ∧ t.b.mode = 5 ∧
       t.b.get .idBoot Fld.idBoot_READY_TICKS = (s.b.tick - s.b.alm.tickS) % 2 ^ 32 ∧ t.b.kept = { s.b.kept with loops := 0 } ∧
       t.mem = s.mem) ∧
     (s.b.charted = true → s.b.paired = true → exec .chartingComplete s = .next { s with b := s.b.chartDone.settled s.mem } ∧
       s.b.chartDone.kept.loops = 0) ∧
     (s.b.charted = false → exec .chartingComplete s = .next s)) ∧
  (∀ (s : State) (n : Nat), s.b.alm.bareRelinkAt = some n → s.b.calm = true →
     (n ≤ s.b.tick → ∃ t, exec .bareRelink s = .next t ∧ t.b.get (.aptLinkEff 0) Fld.aptLinkEff_STATE = 0 ∧
       t.b.alm = { s.b.alm with bareRelinkAt := none } ∧ t.b.cfg = (s.b.restoreCfg 0 0).cfg ∧ t.mem = s.mem) ∧
     (s.b.tick < n → exec .bareRelink s = .next s))

/-! Channels and finders.  -/

/-- From R153, R155 and R159: a write to shadow word `k` stores it, reserved bits apart, moves EMPTY to LOADED and restarts HOPS; while
the shadow is ARMED or AUTOLOADING it is ignored and recorded. No other register changes but those that settling reports through, and
nothing of a channel's transfer. From R159 and R162: DISARM moves an ARMED shadow to LOADED. Where no shadow is ARMED it leaves the shadow
as it is and is recorded (log entry 120, the model's choice). Both restart HOPS and leave the channel's state and its transfer. From R159:
ARM on an ARMED shadow changes neither set, neither state and nothing of a transfer, and is recorded. -/
def Obligations.ShadowStates : Prop :=
  (∀ (s : State) (x : ChanSel) (c k : Nat) (v : Word), s.b.servesChan x c → k < 8 → s.b.calm = true →
     (s.b.chShadow c < 2 → ∃ t, exec (.shadowWrite x k v) s = .next t ∧
       t.b.raw (.fndShadow c k) = (Reg.fndShadow c k).stored (s.b.raw (.fndShadow c k)) v true true ∧
       t.b.chShadow c = 1 ∧ t.b.chState c = s.b.chState c ∧ t.b.get (.fndChStatus c) Fld.fndChStatus_HOPS = 0 ∧ t.mem = s.mem ∧
       (∀ r, r ≠ .fndShadow c k → r ≠ .fndChStatus c → Reg.reports r = false → t.b.raw r = s.b.raw r) ∧
       (∀ d, t.b.chan d = s.b.chan d)) ∧
     (2 ≤ s.b.chShadow c → ∃ t, exec (.shadowWrite x k v) s = .next t ∧
       t.b.get (.blkReject .fnd) Fld.blkReject_REASON = 10 ∧ t.b.get (.blkReject .fnd) Fld.blkReject_VALID = 1 ∧ t.mem = s.mem ∧
       (∀ r, r ≠ .blkReject .fnd → Reg.reports r = false → t.b.raw r = s.b.raw r) ∧ (∀ d, t.b.chan d = s.b.chan d))) ∧
  (∀ (s : State) (x : ChanSel) (c : Nat), s.b.servesChan x c → s.b.calm = true →
     ∃ t, exec (.disarm x) s = .next t ∧ t.b.chShadow c = (if s.b.chShadow c = 2 then 1 else s.b.chShadow c) ∧
       t.b.chState c = s.b.chState c ∧ t.b.get (.fndChStatus c) Fld.fndChStatus_HOPS = 0 ∧ t.mem = s.mem ∧
       (∀ r, r ≠ .fndChStatus c → (r = .blkReject .fnd → s.b.chShadow c = 2) → Reg.reports r = false → t.b.raw r = s.b.raw r) ∧
       (s.b.chShadow c ≠ 2 → t.b.get (.blkReject .fnd) Fld.blkReject_REASON = 10 ∧
         t.b.get (.blkReject .fnd) Fld.blkReject_VALID = 1) ∧
       (∀ d, t.b.chan d = s.b.chan d)) ∧
  (∀ (s : State) (x : ChanSel) (c : Nat), s.b.servesChan x c → s.b.calm = true → s.b.chShadow c = 2 →
     ∃ t, exec (.arm x) s = .next t ∧ t.b.get (.blkReject .fnd) Fld.blkReject_REASON = 10 ∧
       t.b.get (.blkReject .fnd) Fld.blkReject_VALID = 1 ∧ t.b.chShadow c = 2 ∧ t.b.chState c = s.b.chState c ∧ t.mem = s.mem ∧
       (∀ k, t.b.raw (.fndShadow c k) = s.b.raw (.fndShadow c k) ∧ t.b.raw (.fndActive c k) = s.b.raw (.fndActive c k)) ∧
       (∀ d, t.b.chan d = s.b.chan d))

/-- From R158 to R160, for ARM on a channel whose instance is not being reset and whose shadow is not ARMED: after the guide has seen the
doorbell the shadow is checked. A check that fails shows its code in ARM_ERR, raises the event and leaves shadow and state. One that
passes makes the shadow ARMED where the channel is not idle; an idle channel becomes ACTIVE with the shadow's words in its active set. -/
def Obligations.ArmPromotes : Prop :=
  ∀ (s : State) (x : ChanSel) (c : Nat), s.b.servesChan x c → s.b.chanResets c = false → s.b.chShadow c ≠ 2 →
    let b0 := ((s.b.asSeenBy x).set (.fndChStatus c) Fld.fndChStatus_HOPS 0).doorbell (s.b.get (.fndChCtrl c) Fld.fndChCtrl_HOME_DOME)
    let e := b0.armCheck c ((List.range 8).map (fun w => b0.raw (.fndShadow c w)))
    let b := b0.armChan c
    exec (.arm x) s = .next { s with b := b.settled s.mem } ∧
    (e ≠ 0 → b.get (.fndChStatus c) Fld.fndChStatus_ARM_ERR = e % 16 ∧ b.event .fnd 1 = true ∧
      b.chShadow c = s.b.chShadow c ∧ b.chState c = s.b.chState c) ∧
    (e = 0 → s.b.chShadow c < 2 → (s.b.chanOwner c).isSome = true →
      (s.b.chState c ≠ 0 → b.chShadow c = 2 ∧ b.chState c = s.b.chState c ∧
        b.get (.fndChStatus c) Fld.fndChStatus_ARM_ERR = 0) ∧
      (s.b.chState c = 0 → b.chState c = 1 ∧ ∀ k, k < 8 → b.raw (.fndActive c k) = s.b.raw (.fndShadow c k)))

/-- From R180: RESUME, SKIP and ABORT on a channel that is not HALTED are recorded and change no channel's state, shadow or transfer. On a
HALTED channel that is not QUIET, before its window of R230 has ended, the command is held. From R180: a recovery command is applied to a
QUIET HALTED channel, before its window of R230 has ended, and a held one at CHANNEL_QUIET. After a failed read or write RESUME makes the
channel ACTIVE, with no failed segment and the latch not valid; after a failed autoload with an ARMED shadow ABORT leaves it IDLE with the
shadow LOADED and the latch not valid. -/
def Obligations.ChannelRecovery : Prop :=
  (∀ (s : State) (x : ChanSel) (c : Nat), s.b.servesChan x c →
     ∀ p ∈ [(Instr.resume x, 3), (.skip x, 4), (.abort x, 5)],
       (s.b.chState c ≠ 2 → s.b.calm = true → ∃ t, exec p.1 s = .next t ∧ t.b.get (.blkReject .fnd) Fld.blkReject_REASON = 10 ∧
         t.b.chState c = s.b.chState c ∧ t.b.chShadow c = s.b.chShadow c ∧ (∀ d, t.b.chan d = s.b.chan d) ∧ t.mem = s.mem) ∧
       (s.b.chState c = 2 → s.b.quiet c = false → s.b.wedged c ((s.b.chanOwner c).getD 0) = false →
         let b0 := (s.b.asSeenBy x).set (.fndChStatus c) Fld.fndChStatus_HOPS 0
         let b := b0.putChan { b0.chan c with held := some p.2 }
         exec p.1 s = .next { s with b := b.settled s.mem } ∧ b.chan c = { s.b.chan c with held := some p.2 } ∧
         b.chState c = 2 ∧ b.chShadow c = s.b.chShadow c ∧ ∀ d, d ≠ c → b.chan d = s.b.chan d)) ∧
  ((∀ (s : State) (x : ChanSel) (c v : Nat), s.b.servesChan x c → s.b.chState c = 2 → s.b.quiet c = true →
     s.b.chanOwner c = some v → s.b.wedged c v = false →
     let b0 := (s.b.asSeenBy x).set (.fndChStatus c) Fld.fndChStatus_HOPS 0
     exec (.resume x) s = .next { s with b := (b0.applyRecovery c v 3).settled s.mem } ∧
     exec (.skip x) s = .next { s with b := (b0.applyRecovery c v 4).settled s.mem } ∧
     exec (.abort x) s = .next { s with b := (b0.applyRecovery c v 5).settled s.mem }) ∧
   (∀ (s : State) (c v cmd : Nat), (s.b.chan c).held = some cmd → s.b.chanOwner c = some v → s.b.mode ≠ 11 → s.b.chState c = 2 →
     s.b.quiet c = true → exec (.channelQuiet c) s = .next { s with b := (s.b.applyRecovery c v cmd).settled s.mem }) ∧
   (∀ (b : Bridge) (c v : Nat), b.get (.fndChFaultInfo c) Fld.fndChFaultInfo_DIRECTION ≤ 1 →
     (∃ g ∈ (b.chan c).segs, g.st = .failed) →
     (b.applyRecovery c v 3).chState c = 1 ∧ (b.applyRecovery c v 3).get (.fndChFaultInfo c) Fld.fndChFaultInfo_VALID = 0 ∧
     ∀ g ∈ ((b.applyRecovery c v 3).chan c).segs, g.st ≠ .failed) ∧
   (∀ (b : Bridge) (c v : Nat), b.get (.fndChFaultInfo c) Fld.fndChFaultInfo_DIRECTION = 2 → b.chShadow c = 2 →
     (b.applyRecovery c v 5).chState c = 0 ∧ (b.applyRecovery c v 5).chShadow c = 1 ∧
     (b.applyRecovery c v 5).get (.fndChFaultInfo c) Fld.fndChFaultInfo_VALID = 0 ∧ ((b.applyRecovery c v 5).chan c).held = none))

/-- From R188 and R189 to R194. RUNLIST_PLACE serves a dome's waiting channels; a channel's turn, while the mode lets segments be placed
and its window and the list have room, places its first unplaced segment on its home dome's list. A free finder takes the best segment of
its own dome's list. A clocked finder with nothing of its own probes the dome that its visits name: it steals there or goes on to the
next. A probe that begins a fabric cycle finds nothing to steal on a list of fewer than two segments. From R407: a finder that holds no
segment, finds no work and has been idle for GATE_IDLE fabric cycles, 60 to a tick, is clock-gated; no register, no other finder and no
byte of the archive changes. Before that nothing changes. -/
def Obligations.FindersTakeStealAndGate : Prop :=
  ((∀ (s : State) (d : Nat), 4 ≤ s.b.mode → s.b.mode < 10 →
     exec (.runlistPlace d) s = .next { s with b := (s.b.placeDome d 513).settled s.mem }) ∧
   (∀ (b : Bridge) (c : Nat) (g : Seg), b.mode ≠ 10 → b.mode ≠ 11 → b.chState c = 1 →
     (b.chan c).segs.find? (fun g => g.st = .unplaced) = some g →
     let d := b.get (.fndChCtrl c) Fld.fndChCtrl_HOME_DOME
     ((b.runList d).filter (fun p => p.1 = c)).length < b.get (.dspDomeCfg d) Fld.dspDomeCfg_CH_WINDOW →
     (b.runList d).length < 512 →
     ∃ n, (b.placeOne c).1.seg c g.idx = some { g with st := .waiting, dome := d, prio := b.effPrio c, seqNo := n }) ∧
   (∀ (s : State) (f : Nat), s.b.finderFree f = true →
     let x := s.b.finder f
     let vs := s.b.visits (f / 8)
     (∀ p, bestSeg true (s.b.ownWork f) = some p → exec (.segmentTake f) s =
       .next { s with b := (((s.b.inCycle f).putFinder { x with clocked := true, probe := 0 }).take f p).settled s.mem }) ∧
     (∀ d, x.clocked = true → s.b.activeOn f = [] → s.b.ownWork f = [] → vs[x.probe % max 1 vs.length]? = some d →
       let b := s.b.inCycle (256 + f)
       (∀ p, b.stealable d = some p →
         exec (.stealProbe f d) s = .next { s with b := ((b.putFinder { x with probe := 0 }).steal f d p).settled s.mem }) ∧
       (b.stealable d = none →
         exec (.stealProbe f d) s = .next { s with b := b.putFinder { x with probe := (x.probe + 1) % vs.length } }))) ∧
   (∀ (b : Bridge) (f d : Nat), b.eng.cycle.tick ≠ b.tick → (b.runList d).length < 2 → (b.inCycle (256 + f)).stealable d = none)) ∧
  (∀ (s : State) (f : Nat), (s.b.finder f).clocked = true → s.b.activeOn f = [] → s.b.ownWork f = [] →
     let idle := 60 * (s.b.finder f).idleSince + s.b.get (.pwrDomeClk (f / 8)) Fld.pwrDomeClk_GATE_IDLE
     (idle ≤ 60 * s.b.tick → ∃ t, exec (.finderClockGate f) s = .next t ∧ (t.b.finder f).clocked = false ∧
       (∀ r, t.b.raw r = s.b.raw r) ∧ (∀ g, g ≠ f → t.b.finder g = s.b.finder g) ∧ t.mem = s.mem) ∧
     (60 * s.b.tick < idle → exec (.finderClockGate f) s = .next s))

/-- From R163, R179 and R230. The watchdog fails a segment on a finder that saw no beat for level 9: its reads are abandoned, the event is
raised and the segment fails with cause WATCHDOG. It ends an autoload whose read has been outstanding as long in the same way. Before that
nothing but settling happens. A channel HALTED by WATCHDOG for WEDGE_MS with no recovery command has its instance reset under policy 2,
with trigger 4. -/
def Obligations.WatchdogAndEscalation : Prop :=
  (∀ (s : State) (c i : Nat) (g : Seg), s.b.mode ≠ 11 → s.b.seg c i = some g → g.taken = true →
    let l := s.b.watchdogLatch c g
    let gone := (s.b.abandonReads (fun j => j.origin.ofSeg c (fun n => n = i))).raise .fnd 3
    (g.lastBeat + s.b.ladder 9 ≤ s.b.tick → exec (.segmentWatchdogExpire c i) s =
      .next { s with b := (gone.failSeg c i l.1 .watchdog l.2.2.1 l.2.2.2 l.2.1).settled s.mem }) ∧
    (s.b.tick < g.lastBeat + s.b.ladder 9 → exec (.segmentWatchdogExpire c i) s = .next { s with b := s.b.settled s.mem })) ∧
  (∀ (s : State) (c i : Nat), s.b.mode ≠ 11 → s.b.seg c i = none → (s.b.chan c).loading = true →
    (s.b.chan c).loadTick + s.b.ladder 9 ≤ s.b.tick → ∃ gen, exec (.segmentWatchdogExpire c i) s = .next { s with b :=
      ((((s.b.abandonReads (fun j => j.origin = .descriptor c)).raise .fnd 3).setShadow c 1).loadFailed c .watchdog gen).settled s.mem }) ∧
  (∀ (s : State) (c v : Nat), s.b.mode ≠ 11 → s.b.chanOwner c = some v → s.b.chState c = 2 →
    s.b.get (.fndChFaultInfo c) Fld.fndChFaultInfo_CAUSE = Cause.watchdog.code → (s.b.chan c).held = none →
    s.b.get (.viCtrl v) Fld.viCtrl_SELF_POLICY = 2 →
    (s.b.chan c).haltTick + 50000 * s.b.get (.viCtrl v) Fld.viCtrl_WEDGE_MS ≤ s.b.tick →
    exec (.wedgeEscalation c) s = .next { s with b := (((s.b.startReset v 4 none).raise .vi 3).reportReset v 4).settled s.mem })

/-! The catalogue and instances.  -/

/-- From R115, R116 and R124, for a CAT_COMMIT that nothing holds. One that a check refuses reports its code with DONE and changes no
other register but those that settling reports through, nor the kept page. One that every check passes, where nothing is mirrored, with
its bank's domain open and no reset holding the entry: the entry's words are the writer's staged image with the generation one on, modulo
256, and CAT_COMMIT_STATUS reads CODE 0 with DONE; no other entry and no instance's entry in the table changes. From R44: a CAT_COMMIT, an
instance command and a share write that arrive while the almanac holds them, during a COMMIT or during a LOAD in M2, wait in order of
arrival. The first two wait with the words that their writer has staged and leave DONE at 0; no register changes but their status and
command registers and those that settling reports through. -/
def Obligations.CommitsAndHeldRequests : Prop :=
  (∀ (s : State) (w : Writer) (i : Nat), s.b.takes w 0x300120 = true → s.b.almHolds = false → i < 65536 → s.b.calm = true →
     let ws := s.b.staged w.bank
     let code := s.b.commitCheck w i ws
     let status := fun (t : State) (f : Fld) => t.b.get (.catCommitStatus w.bank) f
     (code ≠ 0 → ∃ t, exec (.catCommit w i) s = .next t ∧ status t Fld.catCommitStatus_CODE = code ∧
       status t Fld.catCommitStatus_DONE = 1 ∧ status t Fld.catCommitStatus_INDEX = i ∧ t.mem = s.mem ∧ t.b.kept = s.b.kept ∧
       (∀ r, r ≠ .catCommitStatus w.bank → Reg.reports r = false → t.b.raw r = s.b.raw r)) ∧
     (code = 0 → s.b.domsOpen [60 + i / 4096] = true → s.b.commitHolder i = none → s.b.mirrors = false →
       ∃ t, exec (.catCommit w i) s = .next t ∧
       status t Fld.catCommitStatus_CODE = 0 ∧ status t Fld.catCommitStatus_DONE = 1 ∧
       t.b.ent i entGEN = (s.b.ent i entGEN + 1) % 256 ∧
       t.b.raw (.catEntry i 0) = wput (ws.getD 0 0) entGEN (s.b.ent i entGEN + 1) ∧
       (∀ k, 1 ≤ k → k < 4 → t.b.raw (.catEntry i k) = ws.getD k 0) ∧ t.mem = s.mem ∧
       (∀ j k, j ≠ i → t.b.raw (.catEntry j k) = s.b.raw (.catEntry j k)) ∧
       (∀ v, t.b.raw (.viEntry v) = s.b.raw (.viEntry v)))) ∧
  (∀ (s : State) (w : Writer) (i ap n : Nat) (sh : ShareReg) (v : Word), s.b.almHolds = true → i < 65536 → ap < 4 → n < 2048 →
     s.b.calm = true →
     (s.b.takes w 0x300120 = true → ∃ t, exec (.catCommit w i) s = .next t ∧
       t.b.alm.held = s.b.alm.held ++ [⟨.catCommit w i, s.b.staged w.bank⟩] ∧
       t.b.get (.catCommitStatus w.bank) Fld.catCommitStatus_DONE = 0 ∧
       (∀ r, r ≠ .catCommitStatus w.bank → Reg.reports r = false → t.b.raw r = s.b.raw r)) ∧
     (s.b.takes w 0xA00100 = true →
       ∀ p ∈ [(Instr.create w ap n, Instr.create w (viAperture w ap) n), (.destroy w ap n, .destroy w (viAperture w ap) n),
           (.reset w ap n, .reset w (viAperture w ap) n)],
         ∃ t, exec p.1 s = .next t ∧ t.b.get (.viCmdStatus w.bank) Fld.viCmdStatus_DONE = 0 ∧
           t.b.alm.held = s.b.alm.held ++ [⟨p.2, [s.b.raw (.viCreateA w.bank), s.b.raw (.viCreateB w.bank)]⟩] ∧
           (∀ r, r ≠ .viCmd w.bank → r ≠ .viCmdStatus w.bank → Reg.reports r = false → t.b.raw r = s.b.raw r)) ∧
     (s.b.takes w (shareReg n sh).offset = true → ∃ t, exec (.shareWrite w n sh v) s = .next t ∧
       t.b.alm.held = s.b.alm.held ++ [⟨.registerWrite w (shareReg n sh).offset 0xFF v, []⟩] ∧
       (∀ r, Reg.reports r = false → t.b.raw r = s.b.raw r)))

/-- From R213, R214, R217, R219, R225 and R233: the row of CREATE, DESTROY or RESET that nothing holds writes VI_CMD and runs its command
on the Aperture that the writer may name. DESTROY and RESET of a VI that the command's checks refuse report their code with DONE; where
nothing is mirrored, of a live instance with no reset in progress, they leave VI_ENTRY.STATE at 3 and at 2 with DONE at 0. From R214, R215
and R219: what CREATE leaves. Without authority over the Aperture CODE 1 with DONE, and where no numbers can be given the code that says
why; both change no VI_ENTRY. Where nothing is mirrored numbers that can be given make VI `v` live and READY for its function with the
channels and queues asked for, with CODE 0 and the VI number; no other VI_ENTRY changes. Where changes are mirrored no VI_ENTRY changes
until the partner answers. -/
def Obligations.InstanceLifeCommands : Prop :=
  (∀ (s : State) (w : Writer) (ap n : Nat), s.b.takes w 0xA00100 = true → s.b.almHolds = false → ap < 4 → n < 2048 →
     let a := viAperture w ap
     let A := s.b.raw (.viCreateA w.bank)
     let B := s.b.raw (.viCreateB w.bank)
     let cmd := fun (op : Nat) (f : Fld) => (s.b.svcMark w false).put (.viCmd w.bank)
       (wmk [(Fld.viCmd_OP, op), (Fld.viCmd_APERTURE, ap), (f, n)])
     let status := fun (b : Bridge) (f : Fld) => b.get (.viCmdStatus w.bank) f
     let destroyed := (cmd 2 Fld.viCmd_VI).destroyCmd w a n
     let reset := (cmd 3 Fld.viCmd_VI).resetCmd w a n
     exec (.create w ap n) s = .next { s with b := ((cmd 1 Fld.viCmd_VF).createCmd w a n A B).settled s.mem } ∧
     exec (.destroy w ap n) s = .next { s with b := destroyed.settled s.mem } ∧
     exec (.reset w ap n) s = .next { s with b := reset.settled s.mem } ∧
     (s.b.viCode w a n ≠ 0 → ∀ b ∈ [destroyed, reset], status b Fld.viCmdStatus_CODE = s.b.viCode w a n ∧
       status b Fld.viCmdStatus_DONE = 1 ∧ status b Fld.viCmdStatus_VI = n) ∧
     (s.b.viCode w a n = 0 → s.b.mirrors = false → s.b.inst? n = none →
       destroyed.viState n = 3 ∧ status destroyed Fld.viCmdStatus_DONE = 0 ∧
       reset.viState n = 2 ∧ status reset Fld.viCmdStatus_DONE = 0)) ∧
  (∀ (b : Bridge) (w : Writer) (ap vf : Nat) (A B : Word), ap < 4 → vf < 2048 →
     let t := b.createCmd w ap vf A B
     (w.mayAct ap = false → t.get (.viCmdStatus w.bank) Fld.viCmdStatus_CODE = 1 ∧
       t.get (.viCmdStatus w.bank) Fld.viCmdStatus_DONE = 1 ∧ ∀ v, t.raw (.viEntry v) = b.raw (.viEntry v)) ∧
     (w.mayAct ap = true → ∀ code, b.createNumbers ap vf A B none = .inr code →
       t.get (.viCmdStatus w.bank) Fld.viCmdStatus_CODE = code % 256 ∧ t.get (.viCmdStatus w.bank) Fld.viCmdStatus_DONE = 1 ∧
       ∀ v, t.raw (.viEntry v) = b.raw (.viEntry v)) ∧
     (w.mayAct ap = true → b.mirrors = false → ∀ v ch g, b.createNumbers ap vf A B none = .inl (v, ch, g) → v < 2048 →
       t.get (.viCmdStatus w.bank) Fld.viCmdStatus_CODE = 0 ∧ t.get (.viCmdStatus w.bank) Fld.viCmdStatus_VI = v ∧
       t.viLive v = true ∧ t.viState v = 1 ∧ t.viAp v = ap ∧ t.viVf v = vf ∧
       t.viChannels v = wget A Fld.viCreateA_CHANNELS ∧ t.viQueues v = wget A Fld.viCreateA_QUEUES ∧
       (∀ u, u ≠ v → t.raw (.viEntry u) = b.raw (.viEntry u))) ∧
     (w.mayAct ap = true → b.mirrors = true → ∀ x, b.createNumbers ap vf A B none = .inl x → ∀ v, t.raw (.viEntry v) = b.raw (.viEntry v)))

/-- From R217, R218 and R225: what starts a reset. An instance not under reset has one from this tick, with its trigger and the writes to
drain, and VI_ENTRY.STATE 3 under trigger 5, 2 under any other. One in progress absorbs it: VI_ENTRY and the outputs stay, a DESTROY is
held for its end, a function-level reset and a RESET are noted in it, and a squash by failover makes it its own. From R226, R227 and R231.
INSTANCE_RESET_DRAINED ends a reset when none of its writes is undrained; before that it only settles. At the drain deadline the undrained
writes are abandoned and counted in the reset; before it only settling happens. A reset that ends with trigger 0, and nothing absorbed or
held, leaves the instance READY with no reset in progress, and VI_LAST_RESET names it, the trigger and the count of abandoned writes. From
R229: a tenant's write of VI_SELF_CMD while its function answers. A wrong key and a request under policy 0 are recorded with reason 11 and
10 and change no other register but those that settling reports through, and start no reset. Without RESET only settling happens.
Otherwise the instance's reset starts with trigger 3. -/
def Obligations.InstanceResets : Prop :=
  (∀ (b : Bridge) (v k : Nat) (bank : Option Nat),
     let t := b.startReset v k bank
     (b.inst? v = none → ∃ x, t.inst? v = some x ∧ x.trigger = k ∧ x.start = b.tick ∧ x.banks = bank.toList ∧
       x.draining = (b.set (.viEntry v) Fld.viEntry_STATE (if k = 5 then 3 else 2)).toDrain v ∧
       t.viState v = (if k = 5 then 3 else 2)) ∧
     (∀ x, b.inst? v = some x →
       t.raw (.viEntry v) = b.raw (.viEntry v) ∧ t.out = b.out ∧
       (k = 5 → x.trigger ≠ 5 → t.inst? v = some { x with destroyHeld := true, destroyBanks := x.destroyBanks ++ bank.toList }) ∧
       (k = 6 → x.trigger ≠ 5 → t.inst? v = some { x with trigger := 6, banks := x.banks ++ bank.toList }) ∧
       (k = 1 ∨ k = 2 → t.inst? v = some { x with flrs := x.flrs ++ [k] }) ∧
       (k = 0 → t.inst? v = some { x with banks := x.banks ++ bank.toList }))) ∧
  ((∀ (s : State) (v : Nat) (x : Inst), s.b.mode ≠ 11 → s.b.inst? v = some x →
     (s.b.undrained x = [] → exec (.instanceResetDrained v) s = .next { s with b := (s.b.finishReset x).settled s.mem }) ∧
     (s.b.undrained x ≠ [] → exec (.instanceResetDrained v) s = .next { s with b := s.b.settled s.mem }) ∧
     (x.start + s.b.ladder 11 - 5000 ≤ s.b.tick →
       let l := s.b.undrained x
       let gone := l.foldl (fun (b : Bridge) j => b.abandonWrite v j) s.b
       let left := gone.putInst { x with draining := [], abandoned := x.abandoned + l.length }
       exec (.drainDeadline v) s = .next { s with b := left.settled s.mem } ∧
       left.inst? v = some { x with draining := [], abandoned := x.abandoned + l.length }) ∧
     (s.b.tick < x.start + s.b.ladder 11 - 5000 → exec (.drainDeadline v) s = .next { s with b := s.b.settled s.mem })) ∧
   (∀ (b : Bridge) (x : Inst), b.inst? x.v = some x → x.trigger = 0 → x.flrs = [] → x.heldCommits = [] → x.destroyHeld = false →
     x.v < 2048 →
     (b.finishReset x).inst? x.v = none ∧ (b.finishReset x).viState x.v = 1 ∧
     (b.finishReset x).get .viLastReset Fld.viLastReset_VI = x.v ∧ (b.finishReset x).get .viLastReset Fld.viLastReset_TRIGGER = 0 ∧
     (b.finishReset x).get .viLastReset Fld.viLastReset_ABANDONED = min x.abandoned 65535)) ∧
  (∀ (s : State) (ap vf v : Nat) (key : Byte) (reset : Bool), s.b.hostThere ap = true → s.b.serving = true →
     s.b.viOf ap vf = some v → s.b.fnAnswers ap vf = true →
     let rejected := fun (reason : Nat) => s.b.calm = true → ∃ t, exec (.selfResetRequest ap vf key reset) s = .next t ∧
       t.b.get (.blkReject .vi) Fld.blkReject_REASON = reason ∧ t.b.get (.blkReject .vi) Fld.blkReject_WRITER = 5 ∧
       t.mem = s.mem ∧ (∀ r, r ≠ .blkReject .vi → Reg.reports r = false → t.b.raw r = s.b.raw r) ∧ t.b.eng.insts = s.b.eng.insts
     (key ≠ 0xA5#8 → rejected 11) ∧
     (key = 0xA5#8 → reset = false → exec (.selfResetRequest ap vf key reset) s = .next { s with b := s.b.settled s.mem }) ∧
     (key = 0xA5#8 → reset = true → s.b.get (.viCtrl v) Fld.viCtrl_SELF_POLICY = 0 → rejected 10) ∧
     (key = 0xA5#8 → reset = true → s.b.get (.viCtrl v) Fld.viCtrl_SELF_POLICY ≠ 0 → exec (.selfResetRequest ap vf key reset) s =
       .next { s with b := (((s.b.raise .vi 2).startReset v 3 none).reportReset v 3).settled s.mem }))

/-! Barriers.  -/

/-- From R139, R141 and R150: a posted barrier of SCOPE 0 to 2 starts, by a VF's write that nothing which flow control holds precedes and
that its posting buffer has room for, or by a control-space write for PF0. It is in progress over the writes of its scope that were
accepted before it; the function's status word shows its scope and its number, one up, and not done; a barrier entry stands last in the
posting buffer. From R141: a VF's write of SCOPE 3 starts no barrier, takes no place in the posting buffer and is recorded with reason 11.
From R141 and R150: a read of a function's barrier-read register starts a barrier of its scope that is not answered yet, over the writes
of its scope accepted before it, and the status word shows its scope and number. It takes no place in the posting buffer. -/
def Obligations.BarriersStart : Prop :=
  (∀ (s : State) (x : BarSel) (scope : Nat), scope < 3 →
     (match x with
      | .vf ap vf => s.b.hostThere ap = true ∧ s.b.serving = true ∧ vf ≠ 0 ∧ s.b.fnAnswers ap vf = true ∧
         (∀ p ∈ s.b.eng.fcWait, p.1 ≠ ap) ∧ s.b.pbWaiting ap + s.b.pbIssued ap < 1024
      | .pf0 w ap => s.b.takes w (0x600100 + 0x40 * ap) = true ∧ s.b.mode ≠ 3 ∧ s.b.authorised w (.ordBarrier ap) = true ∧
         ap < s.b.part.apertures ∧ ap < 4) →
     let f := barFn x
     let key := f.1 * 4096 + f.2
     let n := (alGet 0 key s.b.barSeq + 1) % 65536
     let b0 := match x with
       | .vf .. => s.b
       | .pf0 w _ => s.b.svcMark w false
     let b := b0.postBarrier f.1 f.2 scope
     exec (.barrierPost x scope) s = .next { s with b := b.settled s.mem } ∧
     ∃ y e, b.barriers = s.b.barriers ++ [y] ∧ y.ap = f.1 ∧ y.fn = f.2 ∧ y.scope = scope ∧ y.form = 0 ∧ y.seq = n ∧
       y.t0 = s.b.tick ∧ y.covers = (s.b.writes.filter (fun j => inScope scope (.hostFn f.1 f.2) j.src)).map (·.id) ∧
       alGet 0 key b.barStat = wmk [(Fld.ordStatus_SCOPE, scope), (Fld.ordStatus_SEQ, n)] ∧
       b.pbs = s.b.pbs ++ [e] ∧ e.kind = .barrier ∧ e.ap = f.1 ∧ e.width = 1) ∧
  (∀ (s : State) (ap vf : Nat), s.b.hostThere ap = true → s.b.serving = true → vf ≠ 0 → s.b.fnAnswers ap vf = true →
     (∀ p ∈ s.b.eng.fcWait, p.1 ≠ ap) → s.b.calm = true →
     ∃ t, exec (.barrierPost (.vf ap vf) 3) s = .next t ∧ t.b.barriers = s.b.barriers ∧ t.b.pbs = s.b.pbs ∧
       t.b.barStat = s.b.barStat ∧ t.b.get (.blkReject .ord) Fld.blkReject_REASON = 11 ∧
       t.b.get (.blkReject .ord) Fld.blkReject_VALID = 1 ∧ t.mem = s.mem) ∧
  (∀ (s : State) (x : BarSel) (scope tag : Nat), scope < 3 →
     (match x with
      | .vf ap vf => s.b.hostThere ap = true ∧ s.b.serving = true ∧ vf ≠ 0 ∧ s.b.fnAnswers ap vf = true ∧
         (∀ p ∈ s.b.eng.fcWait, p.1 ≠ ap)
      | .pf0 w ap => s.b.serving = true ∧ s.b.writerThere w = true ∧ ap < s.b.part.apertures) →
     let f := barFn x
     let key := f.1 * 4096 + f.2
     let n := (alGet 0 key s.b.barSeq + 1) % 65536
     let reader := match x with
       | .vf ap _ => some ap
       | .pf0 w _ => Writer.reader w
     let b := s.b.readBarrier f.1 f.2 scope tag reader
     exec (.barrierRead x scope tag) s = .next { s with b := b.settled s.mem } ∧
     ∃ y, b.barriers.getLast? = some y ∧ y.ap = f.1 ∧ y.fn = f.2 ∧ y.scope = scope ∧ y.form = 1 ∧ y.seq = n ∧ y.tag = tag ∧
       y.reader = reader ∧ y.answered = false ∧
       y.covers = (s.b.writes.filter (fun j => inScope scope (.hostFn f.1 f.2) j.src)).map (·.id) ∧
       alGet 0 key b.barStat = wmk [(Fld.ordStatus_SCOPE, scope), (Fld.ordStatus_SEQ, n)] ∧ b.pbs = s.b.pbs)

/-- From R140 and R142. BARRIER_COMPLETE of a function completes its first barrier whose covered writes are gone, which is then no longer
in progress; without one nothing changes. A read-form barrier, read by a host function or the service port, that is not complete at
BAR_LIMIT is answered with a status word whose TIMED_OUT is 1 and DONE 0, and goes on. -/
def Obligations.BarriersEnd : Prop :=
  (∀ (s : State) (ap fn : Nat), s.b.mode ≠ 11 →
    (∀ x, s.b.nextBarrier ap fn = some x →
      exec (.barrierComplete ap fn) s = .next { s with b := (s.b.completeBarrier x).settled s.mem } ∧
      (∀ y ∈ (s.b.completeBarrier x).barriers, y.id ≠ x.id)) ∧
    (s.b.nextBarrier ap fn = none → exec (.barrierComplete ap fn) s = .next s)) ∧
  (∀ (s : State) (ap fn : Nat) (x : Barrier), s.b.mode ≠ 11 →
    s.b.barriers.find? (fun x => x.ap = ap && x.fn = fn && x.form = 1 && !x.answered &&
      x.t0 + s.b.get (.ordAptCfg ap) Fld.ordAptCfg_BAR_LIMIT ≤ s.b.tick) = some x → x.job = none →
    let b := s.b.barTimedOut x
    let w := x.word false true
    exec (.barLimitExpire ap fn) s = .next { s with b := b.settled s.mem } ∧
      (match x.reader with
        | some a => Emission.hostCpl a x.tag .sc (wbytes w) false
        | none => .regData w) ∈ b.out ∧
      wget w Fld.ordStatus_DONE = 0 ∧ wget w Fld.ordStatus_TIMED_OUT = 1 ∧
      b.barriers = s.b.barriers.map (fun y => if y.id = x.id then { y with answered := true } else y) ∧
      b.event .ord 1 = true)

/-! Host links.  -/

/-- From R87, R137, R393, R396, R402 and R441: a host memory request by mode. M4 to M8 serve it, and M3 for AP0, when nothing that flow
control holds at the Aperture precedes it. While its Aperture is under a PF0 reset or a link event, a posted write that the buffer has
room for is dropped and counted, and a non-posted request is answered with UR. Service holds it; Dimmed, not parked, wakes and holds it.
Quarantine answers with UR an AtomicOp, and a read that is not of PF0's control space. From R64, R132, R138 and R145: a host read whose
function answers, whose entry is enabled and whose route may issue it at the width that it has, waits as a read of its length, with its
requests still to be sent. An AtomicOp of a supported size without poison, toward a READY Meridian port, waits as one: native where the
port completes it and ATOMIC_OFF is 0, else in a loop of reservations; where the port does neither it is aborted, with ABORTED counted and
event 2 of ORD. -/
def Obligations.HostMemoryRequests : Prop :=
  (∀ (s : State) (w : HostWrite) (r : HostReadOp) (a : HostAtomic) (ap : Nat), w.ap = ap → r.ap = ap → a.ap = ap →
     s.b.hostThere ap = true →
     let ur := fun (tag : Nat) => ({ s with b := (s.b.emit (.hostCpl ap tag .ur [] false)).settled s.mem } : State)
     (s.b.serving = true ∨ s.b.mode = 3 → (∀ p ∈ s.b.eng.fcWait, p.1 ≠ ap) →
       (s.b.apResetting ap = false →
         exec (.hostPostedWrite w) s = .next { s with b := (s.b.hostArrive w).settled s.mem } ∧
         (s.b.barrierOf w = none → (s.b.hostWrite w).pbWaiting ap + (s.b.hostWrite w).pbIssued ap ≤ 1024 →
           s.b.hostArrive w = s.b.hostWrite w) ∧
         exec (.hostRead r) s = .next { s with b := (s.b.hostRead r).settled s.mem } ∧
         exec (.hostAtomicOp a) s = .next { s with b := (s.b.hostAtomic a).settled s.mem }) ∧
       (s.b.apResetting ap = true →
         (s.b.pbWaiting ap + s.b.pbIssued ap ≤ 1024 → exec (.hostPostedWrite w) s =
           .next { s with b := (s.b.bump (.aptFnEvents ap) Fld.aptFnEvents_DROPPED_POSTED).settled s.mem }) ∧
         exec (.hostRead r) s = .next (ur r.tag) ∧ exec (.hostAtomicOp a) s = .next (ur a.tag))) ∧
     (∀ c ∈ [Instr.hostPostedWrite w, .hostRead r, .hostAtomicOp a],
       (s.b.mode = 10 → exec c s = .next { s with b := (s.b.holdCmd c).settled s.mem }) ∧
       (s.b.mode = 9 → s.b.get .pwrMode Fld.pwrMode_PARKED = 0 →
         exec c s = .next { s with b := ((s.b.startWake 1).holdCmd c).settled s.mem })) ∧
     (s.b.mode = 11 →
       exec (.hostAtomicOp a) s = .next { s with b := s.b.emit (.hostCpl ap a.tag .ur [] false) } ∧
       ((∀ off, s.b.hostMatch ap r.addr ≠ some (0, 0, off)) →
         exec (.hostRead r) s = .next { s with b := s.b.emit (.hostCpl ap r.tag .ur [] false) }))) ∧
  (∀ (b : Bridge) (ap addr fn bar off : Nat) (x : Xlat), b.hostMatch ap addr = some (fn, bar, off) → b.fnAnswers ap fn = true →
     (∀ (r : HostReadOp) (t : Route), r.ap = ap → r.addr = addr → b.lookupHost ap fn bar off r.len = some x → x.get entEN = 1 →
       b.routeOf ap x = .inl t → b.mayIssue t = true →
       t.widthOk (b.hostLimit t.port false) t.last.off (t.last.off + r.len) = true →
       ∃ y, (b.hostRead r).hostReads = b.hostReads ++ [y] ∧ y.ap = ap ∧ y.fn = fn ∧ y.tag = r.tag ∧ y.len = r.len ∧ y.t0 = b.tick ∧
         y.answered = [] ∧ y.err = none ∧ (∀ j ∈ y.jobs, j.space = t.space ∧ j.port = t.port) ∧ (b.hostRead r).out = b.out) ∧
     (∀ a : HostAtomic, a.ap = ap → a.addr = addr → a.poisoned = false → atomicSize a.kind a.size = true →
       b.lookupHost ap fn bar off a.size = some x → x.get entEN = 1 → x.get entSPACE = 0 → b.merReady (x.get entPORT) = true →
       let native := b.get (.merPortStat (x.get entPORT)) Fld.merPortStat_NATIVE_ATOMIC = 1
       let loops := b.get (.merPortStat (x.get entPORT)) Fld.merPortStat_RESERVATIONS = 1
       let t := b.hostAtomic a
       let count := fun (f : Fld) => t.get (.ordAtomicStat ap) f = satAdd f.len (b.get (.ordAtomicStat ap) f) 1
       (native ∨ loops → ∃ y, t.hostReads = b.hostReads ++ [y] ∧ y.ap = ap ∧ y.fn = fn ∧ y.tag = a.tag ∧ y.len = a.size ∧
         y.kind = .atomic a.kind a.size a.cmp a.val false 0) ∧
       (native → b.get (.merPortCtrl (x.get entPORT)) Fld.merPortCtrl_ATOMIC_OFF = 0 → count Fld.ordAtomicStat_NATIVE) ∧
       (¬ native → loops → count Fld.ordAtomicStat_LOOPED) ∧
       (¬ native → ¬ loops → count Fld.ordAtomicStat_ABORTED ∧ t.event .ord 2 = true ∧ t.hostReads = b.hostReads ∧
         Emission.hostCpl ap a.tag .ca [] false ∈ t.out)))

/-- From R133 and R137: the pieces of a posted write on its route join the end of the posting buffer in order, waiting, and nothing leaves
it; no request is issued and nothing goes out. From R26, R129, R131 and R137: an Aperture's oldest waiting posted write is issued when it
is free to go, that is when no barrier, no earlier read on its path, no closed shutter and no missing tag or credit holds it; one to
Meridian, Transit, the archive or a logbook goes to its target and stays in the buffer as issued. Held back, its shutters start to open.
Without a waiting write at the front nothing changes but what settles. -/
def Obligations.PostingBuffer : Prop :=
  (∀ (b : Bridge) (ap fn : Nat) (r : Route) (d : List (Option Byte)) (ro poison : Bool),
     ∃ l, (b.bufferWrite ap fn r d ro poison).pbs = b.pbs ++ l ∧ l.length = (b.hostPieces r d).length ∧
       (∀ e ∈ l, e.ap = ap ∧ e.fn = fn ∧ e.kind = .waiting) ∧
       (l.map (fun e => e.job.op) = (b.hostPieces r d).map (fun q => .write q.2 poison)) ∧
       (b.bufferWrite ap fn r d ro poison).reqs = b.reqs ∧ (b.bufferWrite ap fn r d ro poison).out = b.out) ∧
  (∀ (s : State) (ap : Nat), s.b.issues = true ∨ s.b.mode = 3 →
     (∀ e, s.b.nextEntry ap = some e → s.b.entryFree e = true → ∀ d p, e.job.op = .write d p →
       exec (.postedEntryIssue ap) s = .next (s.issueEntry e d).settled.resume ∧
       (e.job.space < 4 → (s.issueEntry e d).b = (s.b.markIssued e.job.id).toTarget e.job)) ∧
     (∀ e, s.b.nextEntry ap = some e → s.b.entryFree e = false → e.kind = .waiting → exec (.postedEntryIssue ap) s =
       .next ({ s with b := s.b.needDoms (s.b.entryDoms e) } : State).settled.resume) ∧
     ((∀ e, s.b.nextEntry ap = some e → e.kind ≠ .waiting) → exec (.postedEntryIssue ap) s = .next s.settled.resume))

/-- From R65 and R427: configuration requests. In Dawn and Charting every request is answered with Request Retry Status. In M5 to M8,
while no instance is under reset, a function that is not there answers UR, a read the field's value with nothing changed but what settling
reports, a write by its effect and then a completion. -/
def Obligations.ConfigurationRequests : Prop :=
  ∀ (s : State) (ap tag fn : Nat), ap < s.b.part.apertures →
    (s.b.mode = 2 ∨ s.b.mode = 4 → ∀ a, exec (.hostConfigRequest ap tag fn a) s =
      .next { s with b := (s.b.emit (.requestRetry ap tag)).settled s.mem }) ∧
    (5 ≤ s.b.mode → s.b.mode ≤ 8 → s.b.apEnabled ap = true → s.b.eng.insts = [] →
      (s.b.fnThere ap fn = false → ∀ a, exec (.hostConfigRequest ap tag fn a) s =
        .next { s with b := (s.b.emit (.hostCpl ap tag .ur [] false)).settled s.mem }) ∧
      (s.b.fnThere ap fn = true → s.b.calm = true → ∀ f, ∃ t l, exec (.hostConfigRequest ap tag fn (.read f)) s = .next t ∧
        t.b.out = s.b.out ++ .cfg ap tag (some (s.b.cfgRead ap fn f)) :: l ∧ t.b.cfg = s.b.cfg ∧
        (∀ r, Reg.reports r = false → t.b.raw r = s.b.raw r)) ∧
      (s.b.fnThere ap fn = true → ∀ f v, exec (.hostConfigRequest ap tag fn (.write f v)) s =
        .next { s with b := ((s.b.cfgWrite ap fn f v).emit (.cfg ap tag none)).settled s.mem }))

/-- From R84, R85 and R90: a completion in M4 to M10. One that matches no entry, or an entry whose quarantine window has ended, is counted
as unexpected with its event; of the second the entry is free. One for an entry in its window is counted as late with its event. Data that
completes a successful read, not poisoned and with no ECRC error, frees the entry and ends its request with it. From R67, R83 and R85: at
its completion timeout a ledger entry is quarantined, with an AER report, and its request fails; at the end of its quarantine window the
entry is free, and no other. Before either nothing changes but what settles. -/
def Obligations.CompletionsAndLedger : Prop :=
  (∀ (s : State) (c : HostCpl), 4 ≤ s.b.mode → s.b.mode ≠ 11 →
     let match_ := s.b.ledger.find? (fun e => e.ap = c.ap && s.b.ledgerTag e.ap e.idx = c.tag &&
       (decide (s.b.get (.aptLinkEff c.ap) Fld.aptLinkEff_FLIT = 1) || decide (e.job.fn = s.b.ridFn c.ap c.rid)))
     let b := s.b.hostCompletion c
     let got := fun (e : LedgerEntry) => e.got ++ c.data
     let unexpected := b.event (.apt c.ap) 1 = true ∧ b.get (.aptUnexpCpl c.ap) Fld.aptUnexpCpl_COUNT =
       satAdd Fld.aptUnexpCpl_COUNT.len (s.b.get (.aptUnexpCpl c.ap) Fld.aptUnexpCpl_COUNT) 1
     exec (.hostCompletion c) s = .next { s with b := b.settled s.mem } ∧
     (match_ = none → b.ledger = s.b.ledger ∧ unexpected) ∧
     (∀ e, match_ = some e → e.quarantined = true → e.until_ ≤ s.b.tick → (∀ f ∈ b.ledger, f.idx ≠ e.idx) ∧ unexpected) ∧
     (∀ e, match_ = some e → e.quarantined = true → s.b.tick < e.until_ → b.ledger = s.b.ledger ∧
       b.event (.apt c.ap) 0 = true ∧ b.get (.aptLateLast c.ap) Fld.aptLateLast_VALID = 1 ∧
       b.get (.aptLateCpl c.ap) Fld.aptLateCpl_COUNT =
         satAdd Fld.aptLateCpl_COUNT.len (s.b.get (.aptLateCpl c.ap) Fld.aptLateCpl_COUNT) 1) ∧
     (∀ e, match_ = some e → e.quarantined = false → c.ecrcBad = false → c.status = .sc → c.poisoned = false →
       e.asked ≤ (got e).length →
       (∀ f ∈ b.ledger, f.idx ≠ e.idx) ∧ b.eng.done = s.b.eng.done ++ [(e.job, .ok ((got e).take e.asked) e.bad)])) ∧
  (∀ (s : State) (i : Nat) (e : LedgerEntry), s.b.mode ≠ 11 →
     (s.b.ledger.find? (fun e => e.idx = i && !e.quarantined) = some e →
       let gone := (s.b.quarantineLedger (fun f => f.idx = i)).aer e.ap e.job.fn aerTimeout
       (e.issued + s.b.cplTimeout e.ap ≤ s.b.tick →
         exec (.completionTimeout i) s = .next { s with b := (gone.finish e.job (.err .completionTimeout)).settled s.mem } ∧
         (∀ f ∈ gone.ledger, f.idx = i → f.quarantined = true)) ∧
       (s.b.tick < e.issued + s.b.cplTimeout e.ap → exec (.completionTimeout i) s = .next { s with b := s.b.settled s.mem })) ∧
     (s.b.ledger.find? (fun e => e.idx = i && e.quarantined) = some e →
       (e.until_ ≤ s.b.tick → exec (.ledgerEntryFree i) s = .next { s with b := (s.b.freeLedger i).settled s.mem } ∧
         (∀ f ∈ (s.b.freeLedger i).ledger, f.idx ≠ i) ∧ (∀ f ∈ s.b.ledger, f.idx ≠ i → f ∈ (s.b.freeLedger i).ledger)) ∧
       (s.b.tick < e.until_ → exec (.ledgerEntryFree i) s = .next { s with b := s.b.settled s.mem })))

/-- From R80 and R86: Bus Master Enable of a function. Cleared, it reads 0, the function's ledger entries are quarantined, no request of
it but posted peer writes is left to dispatch, and event 2 of the Aperture is set. Set, it reads 1 and its pending vectors are issued. A
write of the value that it has changes nothing but what settles. From R72 and R73: the function settings that a host writes in M5 to M8. A
BAR2 size is refused and counted while memory space is enabled; an advertised one sets the field size of the region, and one that is not
advertised changes nothing but what settles. NumVFs is taken while VF Enable is 0, up to TotalVFs; otherwise nothing changes. From R75,
R78 and R79: a write of a function's MSI-X and MSI enables, and an unmask, in M5 to M10. The enables take the values written; while the
method stays the same nothing else changes. An unmask of a vector or of the function clears its mask and issues what nothing holds any
more. -/
def Obligations.HostFunctionSettings : Prop :=
  (∀ (s : State) (ap fn : Nat), s.b.hostThere ap = true → s.b.fnThere ap fn = true → 3 ≤ s.b.mode → s.b.mode ≠ 4 → s.b.mode ≠ 11 →
     (s.b.cfgGet ap fn .busMaster = 1 →
       exec (.busMasterEnableClear ap fn) s = .next { s with b := (s.b.bmeClear ap fn).settled s.mem } ∧
       exec (.busMasterEnableSet ap fn) s = .next { s with b := s.b.settled s.mem } ∧
       (s.b.bmeClear ap fn).cfgGet ap fn .busMaster = 0 ∧ (s.b.bmeClear ap fn).event (.apt ap) 2 = true ∧
       (∀ e ∈ (s.b.bmeClear ap fn).ledger, e.ap = ap → e.job.fn = fn → e.quarantined = true) ∧
       (∀ j ∈ (s.b.bmeClear ap fn).reqs, j.port = ap → j.fn = fn → j.origin = .hostWrite)) ∧
     (s.b.cfgGet ap fn .busMaster = 0 →
       exec (.busMasterEnableSet ap fn) s = .next { s with b := (s.b.bmeSet ap fn).settled s.mem } ∧
       s.b.bmeSet ap fn = (s.b.cfgPut ap fn .busMaster 1).issuePending ap fn false (s.b.pendVec.length + 1) ∧
       exec (.busMasterEnableClear ap fn) s = .next { s with b := s.b.settled s.mem } ∧
       (s.b.bmeSet ap fn).cfgGet ap fn .busMaster = 1)) ∧
  (∀ (s : State) (ap n : Nat), s.b.hostThere ap = true → 5 ≤ s.b.mode → s.b.mode ≤ 8 →
     (s.b.cfgGet ap 0 .memorySpace = 1 → s.b.calm = true → ∃ t, exec (.barResize ap false n) s = .next t ∧
       t.b.get (.aptFnEvents ap) Fld.aptFnEvents_RESIZE_REFUSED =
         satAdd Fld.aptFnEvents_RESIZE_REFUSED.len (s.b.get (.aptFnEvents ap) Fld.aptFnEvents_RESIZE_REFUSED) 1 ∧
       (∀ r, r ≠ .aptFnEvents ap → Reg.reports r = false → t.b.raw r = s.b.raw r)) ∧
     (s.b.cfgGet ap 0 .memorySpace ≠ 1 → (s.b.sizeMask ap false).testBit n = true →
       s.b.region (slotPf ap 2) regFC + 12 ≤ n → n ≤ s.b.region (slotPf ap 2) regFC + 40 →
       exec (.barResize ap false n) s = .next { s with b := (s.b.resizeBar ap false n).settled s.mem } ∧
       (s.b.resizeBar ap false n).region (slotPf ap 2) regFS = n - s.b.region (slotPf ap 2) regFC) ∧
     (s.b.cfgGet ap 0 .memorySpace ≠ 1 → (s.b.sizeMask ap false).testBit n = false →
       exec (.barResize ap false n) s = .next { s with b := s.b.settled s.mem }) ∧
     (s.b.cfgGet ap 0 .vfEnable = 0 → n ≤ s.b.totalVfs ap →
       exec (.numvfsWrite ap n) s = .next { s with b := s.b.cfgPut ap 0 .numVfs n }) ∧
     (s.b.cfgGet ap 0 .vfEnable ≠ 0 ∨ s.b.totalVfs ap < n → exec (.numvfsWrite ap n) s = .next s)) ∧
  (∀ (s : State) (ap fn v : Nat) (x m : Bool), s.b.hostThere ap = true → s.b.fnThere ap fn = true → 5 ≤ s.b.mode → s.b.mode ≠ 11 →
     let b := s.b.changeMethod ap fn x m
     let set := (s.b.cfgPut ap fn .msixEnable (bit x)).cfgPut ap fn .msiEnable (bit m)
     exec (.interruptMethodChange ap fn x m) s = .next { s with b := b.settled s.mem } ∧
     b.cfgGet ap fn .msixEnable = bit x ∧ b.cfgGet ap fn .msiEnable = bit m ∧
     (set.irqMethod ap fn = s.b.irqMethod ap fn → b = set) ∧
     exec (.vectorUnmask ap fn (.entry v)) s = .next { s with b := (s.b.unmask ap fn (.entry v)).settled s.mem } ∧
     ((s.b.unmask ap fn (.entry v)).msixEntry ap fn v).masked = false ∧
     exec (.vectorUnmask ap fn .functionMask) s = .next { s with b := (s.b.unmask ap fn .functionMask).settled s.mem } ∧
     (s.b.unmask ap fn .functionMask).cfgGet ap fn .functionMask = 0 ∧
     s.b.unmask ap fn .functionMask = (s.b.cfgPut ap fn .functionMask 0).issuePending ap fn false (s.b.pendVec.length + 1))

/-- From R83, R88, R89, R148, R218, R426 and R428, while nothing is under reset. A VF's function-level reset quarantines its ledger
entries; where nothing is mirrored it resets its instance with trigger 1, and without one it raises event 3 of the Aperture. PF0's resets
every instance of its Aperture; without instances it raises event 3 at once when no posting-buffer entry of PF0 stands there, and else
goes on while they drain, its drain deadline being later. A hot reset, link disable or link down drops the Aperture's host reads and its
posting-buffer entries that are not issued, quarantines its ledger entries and puts every live instance of it under reset. -/
def Obligations.FunctionResetsAndLinkEvents : Prop :=
  ∀ (s : State) (ap vf : Nat) (ev : LinkEvent), s.b.hostThere ap = true → 3 ≤ s.b.mode → s.b.mode ≠ 11 →
    (s.b.mode ≠ 4 → vf ≠ 0 → s.b.fnThere ap vf = true → s.b.eng.insts = [] →
      exec (.vfFlr ap vf) s = .next { s with b := (s.b.vfFlr ap vf).settled s.mem } ∧
      (∀ e ∈ (s.b.vfFlr ap vf).ledger, e.ap = ap → e.job.fn = vf → e.quarantined = true) ∧
      (∀ v, s.b.viOf ap vf = some v → s.b.mirrors = false →
        ∃ x, (s.b.vfFlr ap vf).inst? v = some x ∧ x.trigger = 1 ∧ x.start = s.b.tick) ∧
      (s.b.viOf ap vf = none → (s.b.vfFlr ap vf).event (.apt ap) 3 = true)) ∧
    (s.b.mode ≠ 4 → s.b.eng.insts = [] → s.b.eng.pfFlrs = [] →
      exec (.pf0Flr ap) s = .next { s with b := (s.b.pf0Flr ap).settled s.mem } ∧
      (∀ v ∈ s.b.visOf ap, ((s.b.pf0Flr ap).inst? v).isSome = true) ∧
      (s.b.visOf ap = [] → s.b.pf0Writes ap = [] → (s.b.pf0Flr ap).event (.apt ap) 3 = true) ∧
      (s.b.visOf ap = [] → s.b.pf0Writes ap ≠ [] → 5000 < s.b.ladder 11 →
        ∃ x, (s.b.pf0Flr ap).eng.pfFlrs = [x] ∧ x.ap = ap ∧ x.start = s.b.tick ∧ x.draining = (s.b.pf0Writes ap).map (·.id))) ∧
    (exec (.apertureLinkEvent ap ev) s = .next { s with b := (s.b.linkEvent ap).settled s.mem } ∧
      (∀ x ∈ (s.b.linkEvent ap).hostReads, x.ap ≠ ap) ∧
      (∀ e ∈ (s.b.linkEvent ap).ledger, e.ap = ap → e.quarantined = true) ∧
      (∀ e ∈ (s.b.linkEvent ap).pbs, e.ap = ap → e.kind = .issued) ∧
      (∀ v ∈ s.b.visOf ap, ((s.b.linkEvent ap).inst? v).isSome = true))

/-- From R90, R91, R92, R94, R95 and R328. Margining on a lane of a trained Aperture answers with the sampler's count, or from an eye map
at most 1 ms old; without a map it waits for a scan. A host link's report, given that no reference input that it needs is absent, is what
APT_LINK_EFF shows, with event 4 when a trained link goes to Detect or Disabled; no other register changes but the status of lanes and
those of the event. An error of the link layer is reported in AER. -/
def Obligations.HostLinkReports : Prop :=
  ∀ (s : State) (ap lane : Nat) (p : MarginPoint) (n : Nat) (l : HostLink) (e : HostErr), s.b.hostThere ap = true →
    (lane < s.b.part.hostLanes → s.b.apTrained ap = true →
      lane ∈ s.b.hostLanes ap (s.b.get (.aptLinkEff ap) Fld.aptLinkEff_WIDTH) →
      let margin := fun (k : Nat) => ({ s with b := s.b.emit (.margin ap lane k) } : State)
      (s.b.get (.aptMarginCfg ap) Fld.aptMarginCfg_SOURCE = 1 ∨ s.b.part.seeing = false →
        exec (.laneMarginingCommand ap lane p n) s = .next (margin n)) ∧
      (s.b.get (.aptMarginCfg ap) Fld.aptMarginCfg_SOURCE ≠ 1 → s.b.part.seeing = true →
        ((s.b.lane lane).mapValid = true → (s.b.tick - (s.b.lane lane).scanTick) % 2 ^ 31 ≤ 50000 →
          exec (.laneMarginingCommand ap lane p n) s = .next (margin ((s.b.lane lane).marginCount p))) ∧
        ((s.b.lane lane).mapValid = false → exec (.laneMarginingCommand ap lane p n) s =
          .next { s with b := s.b.putLane { s.b.lane lane with margins := (s.b.lane lane).margins ++ [(ap, p)] } }))) ∧
    (s.b.mode ≠ 9 → s.b.refMissing ap l = false → l.rate < 8 → l.width < 32 → l.state < 10 →
      let b := s.b.hostLink ap l
      exec (.hostLinkStateChange ap l) s = .next { s with b := b.settled s.mem } ∧
      b.get (.aptLinkEff ap) Fld.aptLinkEff_RATE = l.rate ∧ b.get (.aptLinkEff ap) Fld.aptLinkEff_WIDTH = l.width ∧
      b.get (.aptLinkEff ap) Fld.aptLinkEff_STATE = l.state ∧
      (s.b.apTrained ap = true → l.state = 0 ∨ l.state = 9 → b.event (.apt ap) 4 = true) ∧
      (∀ r, r ≠ .aptLinkEff ap → (∀ i, r ≠ .lneLaneStat i) → Reg.reports r = false → b.raw r = s.b.raw r)) ∧
    exec (.hostLinkError ap e) s =
      .next { s with b := s.b.aer ap (match e with | .ecrc fn => fn | _ => 0) (HostErr.aerNum e) }

/-- R84: a completion whose tag names a quarantined entry, within its window, is discarded: APT_LATE_CPL counts it, APT_LATE_LAST shows
its tag, LATE_CPL is raised and a fault record is written. The bridge is the same whatever data the completion carries, so none of it is
delivered, and no AER error is raised. -/
def Obligations.LateHostCompletions : Prop :=
  ∀ (s : State) (c : HostCpl) (e : LedgerEntry), 4 ≤ s.b.mode → s.b.mode ≠ 11 →
    s.b.ledger.find? (fun x => x.ap = c.ap && s.b.ledgerTag x.ap x.idx = c.tag &&
      (decide (s.b.get (.aptLinkEff c.ap) Fld.aptLinkEff_FLIT = 1) || decide (x.job.fn = s.b.ridFn c.ap c.rid))) = some e →
    e.quarantined = true → s.b.tick < e.until_ →
    let b := s.b.hostCompletion c
    exec (.hostCompletion c) s = .next { s with b := b.settled s.mem } ∧ b.ledger = s.b.ledger ∧
    (∀ d, s.b.hostCompletion { c with data := d } = b) ∧
    b.get (.aptLateCpl c.ap) Fld.aptLateCpl_COUNT =
      satAdd Fld.aptLateCpl_COUNT.len (s.b.get (.aptLateCpl c.ap) Fld.aptLateCpl_COUNT) 1 ∧
    b.get (.aptLateLast c.ap) Fld.aptLateLast_TAG = c.tag % 2 ^ 14 ∧ b.get (.aptLateLast c.ap) Fld.aptLateLast_VALID = 1 ∧
    b.event (.apt c.ap) 0 = true ∧ b.event .flt 0 = true ∧ b.kept.nextRec = (s.b.kept.nextRec + 1) % 2 ^ 32 ∧
    wget ((alGet [] s.b.kept.nextSlot b.kept.ring).getD 0 0) ⟨0, 8⟩ = 3 ∧
    (alGet [] s.b.kept.nextSlot b.kept.ring).getD 2 0 = b.raw (.aptLateLast c.ap) ∧
    (∀ ap fn n sev, Emission.aer ap fn n sev ∈ b.out → Emission.aer ap fn n sev ∈ s.b.out)

/-! Lanes and references.  -/

/-- From R332: the loss-of-signal detector of a lane that exists asserts: LOS reads 1, the assertion is counted, event 0 of LNE is set and
its time begins; no other register changes but what an event reports, and no other lane. When it deasserts, LOS reads 0, the count stays,
no time runs, and nothing else changes. From R330, R332, R333 and R361: lane health. Loss of lock sets LOL and event 1 of LNE; an elastic
buffer error is counted; on a host lane no engine changes. A micro-retrain of a lane of a link that is UP is counted, with event 2; within
MR_LIMIT in 1 ms it begins, under a pause that a PAUSE flit asks for; past it the lane fails. A lane fails with event 3. A loss of signal
held for LOS_TICKS fails a lane that is no host lane, and a micro-retrain that has not locked in 4 µs fails its lane; before that nothing
changes but what settles. One that has locked clears LOL and ends the pause as far as no other lane needs it. -/
def Obligations.LanesLoseAndRecover : Prop :=
  (∀ (s : State) (i : Nat), s.b.laneThere i = true →
     (s.b.get (.lneLaneStat i) Fld.lneLaneStat_LOS = 0 →
       ∃ t, exec (.lossOfSignal i) s = .next t ∧
         t.b.get (.lneLaneStat i) Fld.lneLaneStat_LOS = 1 ∧
         t.b.get (.lneLaneStat i) Fld.lneLaneStat_LOS_COUNT =
           satAdd 16 (s.b.get (.lneLaneStat i) Fld.lneLaneStat_LOS_COUNT) 1 ∧
         t.b.get (.lneLaneStat i) Fld.lneLaneStat_FAILED = s.b.get (.lneLaneStat i) Fld.lneLaneStat_FAILED ∧
         (t.b.lane i).losSince = some s.b.tick ∧ t.b.event .lne 0 = true ∧
         (∀ r, r ≠ .lneLaneStat i → Reg.reports r = false → t.b.raw r = s.b.raw r) ∧
         (∀ j, j ≠ i → t.b.lane j = s.b.lane j) ∧ t.mem = s.mem) ∧
     (∃ t, exec (.lossOfSignalEnd i) s = .next t ∧
       t.b.get (.lneLaneStat i) Fld.lneLaneStat_LOS = 0 ∧
       t.b.get (.lneLaneStat i) Fld.lneLaneStat_LOS_COUNT = s.b.get (.lneLaneStat i) Fld.lneLaneStat_LOS_COUNT ∧
       (t.b.lane i).losSince = none ∧
       (∀ r, r ≠ .lneLaneStat i → t.b.raw r = s.b.raw r) ∧ (∀ j, j ≠ i → t.b.lane j = s.b.lane j) ∧ t.mem = s.mem)) ∧
  ((∀ (s : State) (i : Nat) (e : Bool), s.b.laneThere i = true →
     exec (.lossOfLock i e) s = .next { s with b := (s.b.loseLock i e).settled s.mem }) ∧
   (∀ (b : Bridge) (i : Nat) (e : Bool),
     (b.loseLock i e).get (.lneLaneStat i) Fld.lneLaneStat_LOL = 1 ∧ (b.loseLock i e).event .lne 1 = true ∧
     (e = true → (b.loseLock i e).get (.lneLaneStat i) Fld.lneLaneStat_EB_ERR =
       satAdd 16 (b.get (.lneLaneStat i) Fld.lneLaneStat_EB_ERR) 1) ∧
     (i < 32 → (b.loseLock i e).eng = b.eng)) ∧
   (∀ (b : Bridge) (i k n : Nat), b.laneLink i = some (k, n) → b.linkState k = 2 → (b.lane i).mrStart = none →
     b.get (.lneLaneStat i) Fld.lneLaneStat_FAILED = 0 →
     let recent := ((b.lane i).mrTicks.filter (fun t => b.tick < t + 50000)).length + 1
     let t := b.microRetrain i
     t.get (.lneLaneStat i) Fld.lneLaneStat_MR_COUNT = satAdd 16 (b.get (.lneLaneStat i) Fld.lneLaneStat_MR_COUNT) 1 ∧
     t.event .lne 2 = true ∧
     (recent ≤ b.get .lneHealthCfg Fld.lneHealthCfg_MR_LIMIT → (t.lane i).mrStart = some b.tick ∧ t.linkState k = 3 ∧
       ∃ ws, t.out = (b.control k 1 (laneGroup 1 n)).out ++ [.training k ws]) ∧
     (b.get .lneHealthCfg Fld.lneHealthCfg_MR_LIMIT < recent → t.get (.lneLaneStat i) Fld.lneLaneStat_FAILED = 1)) ∧
   (∀ (b : Bridge) (i : Nat), b.get (.lneLaneStat i) Fld.lneLaneStat_FAILED = 0 →
     (b.laneFail i).get (.lneLaneStat i) Fld.lneLaneStat_FAILED = 1 ∧ (b.laneFail i).event .lne 3 = true) ∧
   (∀ (s : State) (i t : Nat),
     let l := s.b.lane i
     let held := t + s.b.get .lneHealthCfg Fld.lneHealthCfg_LOS_TICKS
     (l.losSince = some t → 32 ≤ i → held ≤ s.b.tick →
       exec (.losHeldExpire i) s = .next { s with b := (s.b.laneFail i).settled s.mem }) ∧
     (l.losSince = some t → i < 32 ∨ s.b.tick < held → exec (.losHeldExpire i) s = .next s.settled) ∧
     (l.mrStart = some t → t + 200 ≤ s.b.tick →
       exec (.microRetrainTimeout i) s = .next { s with b := (s.b.laneFail i).settled s.mem }) ∧
     (l.mrStart = some t → s.b.tick < t + 200 → exec (.microRetrainTimeout i) s = .next s.settled) ∧
     (l.mrStart = some t →
       let back := (s.b.set (.lneLaneStat i) Fld.lneLaneStat_LOL 0).putLane { l with mrStart := none }
       (∀ k n, s.b.laneLink i = some (k, n) →
         exec (.microRetrainDone i) s = .next { s with b := (back.endPause k).settled s.mem }) ∧
       (s.b.laneLink i = none → exec (.microRetrainDone i) s = .next { s with b := back.settled s.mem }))))

/-- From R328, R337 and R338: reference inputs and the seeing monitor. A window of an input that a lane of the part uses shows its count;
a count more than 10 % off the nominal shows the input absent, with event 5 of LNE, and any other present. A complete scan of a lane that
the monitor scans, with the lane's number of eyes, becomes its front map, or waits while the map is held; an eye below the floor sets
event 4. A hold that has ended leaves the front to the latest complete scan. -/
def Obligations.ReferencesAndScans : Prop :=
  (∀ (s : State) (k n : Nat), exec (.refclkWindow k n) s = .next { s with b := (s.b.refWindow k n).settled s.mem }) ∧
  (∀ (b : Bridge) (k n : Nat), k < 9 → 2 ≤ b.mode → (∃ m, m < 8 ∧ b.part.laneFused (8 * k + m) = false) → n < 2 ^ 32 →
    let off := if n < refNominal k then refNominal k - n else n - refNominal k
    (b.refWindow k n).get (.lneRefStat k) Fld.lneRefStat_COUNT = n ∧
    (10 * off ≤ refNominal k → (b.refWindow k n).get (.lneRefStat k) Fld.lneRefStat_PRESENT = 1) ∧
    (refNominal k < 10 * off → (b.refWindow k n).get (.lneRefStat k) Fld.lneRefStat_PRESENT = 0 ∧
      (b.refWindow k n).event .lne 5 = true)) ∧
  (∀ (s : State) (i y : Nat) (eyes : List (List Byte)),
    exec (.scanComplete i eyes y) s = .next { s with b := (s.b.scanDone i eyes y).settled s.mem }) ∧
  (∀ (b : Bridge) (i y : Nat) (eyes : List (List Byte)), b.laneThere i = true → b.part.seeing = true →
    b.get (.lneSeeCfg i) Fld.lneSeeCfg_EN = 1 → (b.lane i).mrStart = none → eyes.length = b.laneEyes i →
    let l := (b.scanDone i eyes y).lane i
    let t := b.get (.lneSeeCfg i) Fld.lneSeeCfg_OPEN_THRESH
    ((b.lane i).holdUntil = none → l.maps = eyes ∧ l.yields = y ∧ l.mapValid = true ∧ l.scanTick = b.tick31) ∧
    ((b.lane i).holdUntil ≠ none → l.maps = (b.lane i).maps ∧ l.heldMap = some (eyes, y, b.tick31)) ∧
    (eyes.any (fun m => eyeHeight m t < b.get (.lneSeeCfg i) Fld.lneSeeCfg_HEIGHT_FLOOR) = true →
      (b.scanDone i eyes y).event .lne 4 = true)) ∧
  (∀ (s : State) (i t : Nat), (s.b.lane i).holdUntil = some t → t ≤ s.b.tick →
    exec (.eyeHoldExpire i) s = .next { s with b := s.b.releaseMap i } ∧ ((s.b.releaseMap i).lane i).holdUntil = none ∧
    (∀ e y n, (s.b.lane i).heldMap = some (e, y, n) →
      ((s.b.releaseMap i).lane i).maps = e ∧ ((s.b.releaseMap i).lane i).scanTick = n ∧
      ((s.b.releaseMap i).lane i).heldMap = none))

/-! Control space.  -/

/-- From R452, R455, R456, R457, R461 and R466: a control-space write that reaches its block and is narrow, meets no register, or fails
the checks of its register, while no command is held. The record of its block shows its offset, half, reason and writer with VALID, and
counts it; event 31 of the block is set, and no other register changes but those that settling reports through, nor the almanac, the kept
page or the archive memory. A service-port write sets the port's error status. From R456: the order of the checks of a register write
outside Bare and Quarantine, from the writer to the register's state (reasons 5 to 10), for every register but PWR_MODE_CMD, whose check
of the writer looks at the command too. -/
def Obligations.RejectedWritesAndOrder : Prop :=
  (∀ (s : State) (w : Writer) (off : Nat) (be : BitVec 8) (v : Word), s.b.takes w (off / 8 * 8) = true → s.b.calm = true →
     off < 2 ^ 26 → s.b.nothingHeld = true →
     let o := off / 8 * 8
     let lo : Bool := be.toNat % 16 = 15
     let hi : Bool := be.toNat / 16 = 15
     let n := match Reg.ofOffset w.bank o with
       | none => 4
       | some r => if r.isShare && s.b.almHolds then 0 else (s.b.svcMark w false).rejectReason w r v lo hi
     let reason := if !lo && !hi then 3 else n
     let k := s.b.rejectBlk o
     let seen := s.b.get (.blkReject k)
     reason ≠ 0 → ∃ t, exec (.registerWrite w off be v) s = .next t ∧
       t.b.get (.blkReject k) Fld.blkReject_OFFSET = o ∧ t.b.get (.blkReject k) Fld.blkReject_REASON = reason ∧
       t.b.get (.blkReject k) Fld.blkReject_WRITER = w.code % 8 ∧ t.b.get (.blkReject k) Fld.blkReject_VALID = 1 ∧
       t.b.get (.blkReject k) Fld.blkReject_HALF = bit (be ≠ 0 ∧ be.toNat % 16 = 0) ∧
       t.b.get (.blkReject k) Fld.blkReject_COUNT =
         (if seen Fld.blkReject_VALID = 1 then satAdd 8 (seen Fld.blkReject_COUNT) 1 else 1) ∧
       t.b.event k 31 = true ∧ (w = .svc → t.b.eng.svcErr = true) ∧ t.mem = s.mem ∧ t.b.kept = s.b.kept ∧ t.b.alm = s.b.alm ∧
       (∀ r, r ≠ .blkReject k → Reg.reports r = false → t.b.raw r = s.b.raw r)) ∧
  (∀ (b : Bridge) (w : Writer) (r : Reg) (v : Word) (lo hi : Bool), b.mode ≠ 3 → b.mode ≠ 11 → r ≠ .pwrModeCmd →
     let old := b.readReg [] r
     let new := mergeHalves old v lo hi
     let changes := fun (p : Field → Bool) => r.fields.any (fun f => f.changed old new && p f)
     let expert := changes (fun f => f.expert && f.acc = .rw) = true ∧ b.get (.blkCtrl r.block) Fld.blkCtrl_EXPERT_EN = 0
     let sealed_ := changes (fun f => f.acc = .rwl) = true ∧ b.get .almStatus Fld.almStatus_SEALED = 1
     (b.authorised w r = false → b.rejectReason w r v lo hi = 5) ∧
     (b.authorised w r = true →
       (changes (fun f => f.acc = .ro || f.acc = .rc) = true → b.rejectReason w r v lo hi = 6) ∧
       (changes (fun f => f.acc = .ro || f.acc = .rc) = false →
         (r.fused b.part = true → b.rejectReason w r v lo hi = 7) ∧
         (r.fused b.part = false →
           (expert → b.rejectReason w r v lo hi = 8) ∧
           (¬ expert → sealed_ → b.rejectReason w r v lo hi = 9) ∧
           (¬ expert → ¬ sealed_ → b.stateForbids r old new hi = true → b.rejectReason w r v lo hi = 10)))))

/-- From R25, R49, R377, R461, R462 and R466: a register write that reaches its block and that nothing rejects, its store domain open, is
applied; one through the service port does the same with 64 bits or with one half. Where nothing is mirrored a write that changes no kept
field has its register's effect alone, and one that does adds its delta record; where changes are mirrored a change of a kept field is
first mirrored. A service-port transaction that ends early, while no command is held, sets the port's error status and nothing else. -/
def Obligations.AcceptedWrites : Prop :=
  (∀ (s : State) (w : Writer) (off : Nat) (be : BitVec 8) (v : Word) (r : Reg), s.b.takes w off = true → off % 8 = 0 →
    Reg.ofOffset w.bank off = some r → s.b.almHolds = false → s.b.domsOpen r.storeDoms = true →
    let b := s.b.svcMark w false
    let lo : Bool := be.toNat % 16 = 15
    let hi : Bool := be.toNat / 16 = 15
    (lo || hi) = true → b.rejectReason w r v lo hi = 0 →
    let t : State := { s with b := (b.regWrite w r v lo hi).narrowNote w off lo hi be }
    exec (.registerWrite w off be v) s = .next t.settled.resume ∧
    (w = .svc → be = 0xFF#8 → exec (.svcWrite64 off v true) s = .next t.settled.resume) ∧
    (w = .svc → be = 0x0F#8 → v.toNat < 2 ^ 32 → exec (.svcWrite32 off (v.setWidth 32) true) s = .next t.settled.resume) ∧
    (w = .svc → be = 0xF0#8 → v.toNat % 2 ^ 32 = 0 →
      exec (.svcWrite32 (off + 4) ((v >>> 32).setWidth 32) true) s = .next t.settled.resume)) ∧
  (∀ (b : Bridge) (w : Writer) (r : Reg) (v : Word) (lo hi : Bool),
    let new := r.stored (b.raw r) v lo hi
    let delta := DeltaRec.regWrite r.offset (halfBits lo hi) new
    (r.keptChange (b.raw r) new = false → b.regWrite w r v lo hi = b.regEffect w r v lo hi) ∧
    (r.keptChange (b.raw r) new = true → b.mirrors = false →
      b.regWrite w r v lo hi = (b.regEffect w r v lo hi).appendDelta delta) ∧
    (r.keptChange (b.raw r) new = true → b.mirrors = true →
      b.regWrite w r v lo hi = b.mirror (.delta delta) (some (.registerWrite w r.offset (halfEnables lo hi) v)))) ∧
  (∀ (s : State) (off : Nat) (v : Word) (h : BitVec 32), 2 ≤ s.b.mode → s.b.nothingHeld = true →
    let cut : State := { s with b := { s.b with eng := { s.b.eng with svcErr := true } } }
    exec (.svcWrite64 off v false) s = .next cut ∧ exec (.svcWrite32 off h false) s = .next cut)

/-- From R11, R462 and R466: reads of control space, from M2 on outside Dimmed, in Service by the board controller alone, of no barrier
register. A read of a register that is neither the shelf's data nor the eyepiece's record answers its value in the halves that it covers,
and clears the RC fields that it covers whole; those that hold a peak are left out here, and so are fused registers and Bare. The status
byte shows the alert, whether the port's write is still in progress, and its error status. From R16 and R60: the shelf's data port. An
access of ALM_SHELF_DATA asks the archive, at rank 3, to store or to read the 8 bytes at OFFSET, and adds 8 to OFFSET; no byte of the
archive changes until it serves the request. -/
def Obligations.ReadsAndShelfPort : Prop :=
  ((∀ (s : State) (w : Writer) (off : Nat) (lo hi : Bool), 2 ≤ s.b.mode → s.b.mode ≠ 9 → (s.b.mode ≠ 10 ∨ w = .svc) →
     s.b.writerThere w = true → (∀ a, a < 4 → barrierReg false a off = none) →
     exec (.rcFieldRead w off lo hi) s = .next { s with b := (s.b.readRow s.mem w off lo hi).settled s.mem } ∧
     (w = .svc → lo = true → hi = true →
       exec (.svcRead64 off) s = .next { s with b := (s.b.readRow s.mem w off lo hi).settled s.mem }) ∧
     (w = .svc → lo = decide (off % 8 < 4) → hi = decide (4 ≤ off % 8) →
       exec (.svcRead32 off) s = .next { s with b := (s.b.readRow s.mem w off lo hi).settled s.mem })) ∧
   (∀ (b : Bridge) (m : List Host.Cell) (w : Writer) (off : Nat) (lo hi : Bool) (r : Reg),
     Reg.ofOffset w.bank (off / 8 * 8) = some r → r ≠ .almShelfData → (∀ k i, r ≠ .eyeRec k i) →
     (b.readRow m w off lo hi).out = b.out ++ [.regData (b.readReg m r &&& halfMask lo hi)] ∧
     ((∀ a, r ≠ .aptLedgerUse a ∧ r ≠ .ordPbUse a) → r.fused b.part = false → b.mode ≠ 3 →
       ∀ f ∈ r.fields, f.acc = .rc → (lo = true ∨ 32 ≤ f.lo) → (hi = true ∨ f.lo + f.len ≤ 32) → (lo || hi) = true →
         (b.readRow m w off lo hi).get r f.fld = 0)) ∧
   (∀ s : State, 2 ≤ s.b.mode → ∃ x : Byte, exec .svcStatus s = .next { s with b := s.b.emit (.svcData [x]) } ∧
     x.getLsbD 0 = s.b.svcAlert ∧ x.getLsbD 1 = s.b.svcWriting ∧ x.getLsbD 2 = s.b.eng.svcErr)) ∧
  (∀ (s : State) (w : Writer) (v : Word), s.b.takes w 0x100168 = true →
     let a := s.b.get .almShelfAddr Fld.almShelfAddr_OFFSET
     let asks := fun (t : Bridge) (op : JobOp) => (∃ r j, t.archReqs = s.b.archReqs ++ [r] ∧ r.rank = 3 ∧ r.t0 = s.b.tick ∧
       r.job = some j ∧ j.space = 2 ∧ j.addr = a ∧ j.op = op) ∧ t.get .almShelfAddr Fld.almShelfAddr_OFFSET = (a + 8) % 2 ^ 23
     let bytes := (wbytes v).map some
     let wr := (s.b.svcMark w false).shelfAccess w (.write bytes false) true true
     let rd := s.b.shelfAccess w (.read 8) true true
     ((s.b.svcMark w false).rejectReason w .almShelfData v true true = 0 →
       exec (.shelfDataWrite w v) s = .next { s with b := wr.settled s.mem } ∧ asks wr (.write bytes false)) ∧
     exec (.shelfDataRead w) s = .next { s with b := rd.settled s.mem } ∧ asks rd (.read 8))

/-! The dispatcher.  -/

/-- From R12, R86, R196, R197, R198 and R199: a dispatch. While a domain of the dispatcher or the Aperture is not open nothing is issued.
With none of the Aperture's requests barred by its function and none waiting for a second ledger bank: without an eligible request nothing
changes; a RESERVED slot serves its owner's oldest eligible request, a DIRECTOR slot the director class's, and what any slot serves is
eligible. Issued, a request leaves the waiting list: a read takes a ledger entry, a write goes out and is on its path unproven, a message
goes out. From R25, R196, R200, R202 and R208: SWAP and the schedule after a dispatch. Where nothing is mirrored an authorised SWAP sets
PEND for its direction alone; where changes are mirrored, with PEND clear, it sets it and mirrors the shadow; any other director's is
rejected with reason 5. Each dispatch moves the pointer by one slot; after slot 1,023 the revolution is counted, a pending swap that waits
for no ACK makes the shadow's words the active schedule and clears PEND with event 0, and changed shares come into force. -/
def Obligations.DispatchAndSwap : Prop :=
  ((∀ (s : State) (ap : Nat) (d : Dir), s.b.issues = true ∨ s.b.mode = 3 →
     exec (.dispatch ap d) s = .next { s with b := (s.b.dispatch ap (dirNum d)).settled s.mem }) ∧
   (∀ (b : Bridge) (a x : Nat),
     (∀ j ∈ b.reqs, j.port = a → j.origin ≠ .hostWrite → b.canIssue a j.fn = true) →
     (∀ j ∈ b.reqs, j.port = a → j.toHost = true ∨ (b.ledgerFree j).isSome = true) →
     let l := b.eligibles a x
     let y := 2 * a + x
     let w := b.slotWord y (b.sched y).pointer
     (b.domsOpen [93, 50 + a] = false → b.dispatch a x = b) ∧
     (l = [] → b.dispatch a x = b) ∧
     (b.apTrained a = true → b.domsOpen [93, 50 + a] = true →
       (∀ j, w / 2 ^ 14 = 1 → l.find? (fun j => j.cls_ = w % 2048 + 1) = some j →
         b.dispatch a x = (b.issueHost j).advance y (b.sched y)) ∧
       (∀ j, w / 2 ^ 14 = 2 → l.find? (fun j => j.cls_ = 0) = some j → b.dispatch a x = (b.issueHost j).advance y (b.sched y)) ∧
       (∀ p, b.serveSlot a x l = some p → p.1 ∈ l ∧ b.eligible p.1 = true ∧ b.dispatch a x = (b.issueHost p.1).advance y p.2))) ∧
   (∀ (b : Bridge) (j : Job),
     let t := b.issueHost j
     t.reqs = b.reqs.filter (fun i => i.id ≠ j.id) ∧
     (∀ n, j.op = .read n → ∃ e, t.ledger = b.ledger ++ [e] ∧ e.job = b.atIssue j ∧ e.ap = j.port ∧ e.issued = b.tick ∧
       e.quarantined = false ∧ t.proving = b.proving) ∧
     (∀ d p, j.op = .write d p → j.origin.isMessage = false →
       t.proving = b.proving ++ [b.atIssue j] ∧ t.ledger = b.ledger ∧ t.out = b.out ++ [.hostReq j.port j.fn 0 (b.atIssue j)]) ∧
     (∀ d p v, j.op = .write d p → j.origin = .message v → t.proving = b.proving ∧ t.ledger = b.ledger ∧
       t.out = b.out ++ [.message j.port j.fn v j.addr (natOfBytes (d.map (·.getD 0)))]))) ∧
  ((∀ (s : State) (w : Writer) (ap : Nat), s.b.takes w (0x900400 + 8 * ap) = true → ap < s.b.part.apertures → ap < 4 →
     let b := s.b.svcMark w false
     (s.b.authorised w (.dspSchedCmd ap) = true → s.b.mirrors = false → s.b.calm = true →
       (∃ t, exec (.swapTo w ap) s = .next t ∧ t.b.get (.dspSchedCmd ap) Fld.dspSchedCmd_PEND_TO = 1 ∧
         t.b.get (.dspSchedCmd ap) Fld.dspSchedCmd_PEND_FROM = s.b.get (.dspSchedCmd ap) Fld.dspSchedCmd_PEND_FROM ∧
         t.mem = s.mem ∧ t.b.eng.scheds = s.b.eng.scheds ∧
         (∀ r, r ≠ .dspSchedCmd ap → Reg.reports r = false → t.b.raw r = s.b.raw r)) ∧
       (∃ t, exec (.swapFrom w ap) s = .next t ∧ t.b.get (.dspSchedCmd ap) Fld.dspSchedCmd_PEND_FROM = 1 ∧
         t.b.get (.dspSchedCmd ap) Fld.dspSchedCmd_PEND_TO = s.b.get (.dspSchedCmd ap) Fld.dspSchedCmd_PEND_TO ∧
         t.mem = s.mem ∧ t.b.eng.scheds = s.b.eng.scheds ∧
         (∀ r, r ≠ .dspSchedCmd ap → Reg.reports r = false → t.b.raw r = s.b.raw r))) ∧
     (s.b.authorised w (.dspSchedCmd ap) = true → s.b.mirrors = true →
       let paired := fun (x : Nat) => (b.pendSwap ap x).mirror (.delta ((b.pendSwap ap x).schedDelta (2 * ap + x)))
         (some (swapInstr (2 * ap + x)))
       (b.get (.dspSchedCmd ap) Fld.dspSchedCmd_PEND_TO = 0 →
         exec (.swapTo w ap) s = .next { s with b := (paired 0).settled s.mem }) ∧
       (b.get (.dspSchedCmd ap) Fld.dspSchedCmd_PEND_FROM = 0 →
         exec (.swapFrom w ap) s = .next { s with b := (paired 1).settled s.mem })) ∧
     (s.b.authorised w (.dspSchedCmd ap) = false → s.b.calm = true → ∀ c ∈ [Instr.swapTo w ap, .swapFrom w ap],
       ∃ t, exec c s = .next t ∧
         t.b.get (.blkReject .dsp) Fld.blkReject_REASON = 5 ∧ t.b.raw (.dspSchedCmd ap) = s.b.raw (.dspSchedCmd ap))) ∧
   (∀ (b : Bridge) (y : Nat) (q : Sched), y < 8 →
     let cmd := Reg.dspSchedCmd (y / 2)
     let rev := if y % 2 = 0 then Fld.dspSchedCmd_REV_TO else Fld.dspSchedCmd_REV_FROM
     let t := b.advance y q
     (q.pointer < 1023 → (t.sched y).pointer = q.pointer + 1 ∧ t.regs = b.regs) ∧
     (q.pointer = 1023 → (t.sched y).pointer = 0 ∧ t.get cmd rev = (b.get cmd rev + 1) % 2 ^ 16 ∧
       (∀ v ∈ b.visOf (y / 2), ∀ k, t.weight (y / 2) (y % 2) (v + 1) = wget (t.raw (.dspViShare v)) Fld.dspViShare_WEIGHT ∧
         (k = y % 2 → t.bucketWord v k = t.raw (.dspViBucket v k))) ∧
       (b.get cmd (pendFld y) = 1 → b.swapWaits y = false → t.get cmd (pendFld y) = 0 ∧ t.event .dsp 0 = true ∧
         ∀ w, w < 256 → t.raw (.dspSchedActive y w) = b.raw (.dspSchedShadow y w) ∧
           t.raw (.dspSchedShadow y w) = b.raw (.dspSchedShadow y w)) ∧
       (b.get cmd (pendFld y) ≠ 1 ∨ b.swapWaits y = true → ∀ w, t.raw (.dspSchedActive y w) = b.raw (.dspSchedActive y w)))))

/-- From R202 and R209: a write of an instance's share or bucket that its checks accept, where nothing is mirrored and while nothing of
the almanac holds it, changes the register at once, and no other but those that its delta record and settling report through; the weight
in force, or the rate and depth word in force and the fill, stay as they were. -/
def Obligations.ShareWrites : Prop :=
  ∀ (s : State) (w : Writer) (vi ap x : Nat) (v : Word), vi < 2048 → x < 2 → s.b.almHolds = false → s.b.mirrors = false → s.b.calm = true →
    (s.b.takes w (0x90C000 + 8 * vi) = true → (s.b.svcMark w false).rejectReason w (.dspViShare vi) v true true = 0 →
      ∃ t, exec (.shareWrite w vi .share v) s = .next t ∧
        t.b.get (.dspViShare vi) Fld.dspViShare_WEIGHT = wget v Fld.dspViShare_WEIGHT ∧
        t.b.get (.dspViShare vi) Fld.dspViShare_PRIO_CEIL = wget v Fld.dspViShare_PRIO_CEIL ∧
        t.b.weight ap x (vi + 1) = s.b.weight ap x (vi + 1) ∧ t.mem = s.mem ∧
        (∀ r, r ≠ .dspViShare vi → r ≠ .almStatus → Reg.reports r = false → t.b.raw r = s.b.raw r)) ∧
    (∀ d : Dir, s.b.takes w (0x910000 + 16 * vi + 8 * dirNum d) = true →
      (s.b.svcMark w false).rejectReason w (.dspViBucket vi (dirNum d)) v true true = 0 →
      ∃ t, exec (.shareWrite w vi (.bucket d) v) s = .next t ∧
        t.b.get (.dspViBucket vi (dirNum d)) Fld.dspViBucket_RATE = wget v Fld.dspViBucket_RATE ∧
        t.b.get (.dspViBucket vi (dirNum d)) Fld.dspViBucket_DEPTH_KIB = wget v Fld.dspViBucket_DEPTH_KIB ∧
        t.b.bucketWord vi (dirNum d) = s.b.bucketWord vi (dirNum d) ∧
        (t.b.bucket vi (dirNum d)).fill = (s.b.bucket vi (dirNum d)).fill ∧ t.mem = s.mem ∧
        (∀ r, r ≠ .dspViBucket vi (dirNum d) → r ≠ .almStatus → Reg.reports r = false → t.b.raw r = s.b.raw r))

/-- From R203, R204 and R404: when the doorbell that a dome's guide predicts is yet to come and at most 1.5 µs and the lead that the
prediction took away, the guide opens the dome's closed shutter and remembers that it did; the opening is counted and nothing else
changes. Otherwise nothing changes. From R26, R203, R204, R403, R404 and R405: outside Dimmed a closed domain that a request needs starts
to open, and the opening and the wait are counted; an open, a fused and a never-open one change nothing. A command whose domains are not
all open waits for them behind those that wait already. An opening domain is open when its time has passed, and what waited for it goes
on; an open one that nothing keeps open closes once it has been idle for its close delay, and not sooner. A dome that the guide opened and
that saw no doorbell counts EARLY as it closes. -/
def Obligations.ShuttersAndGuide : Prop :=
  (∀ (s : State) (d : Nat), s.b.issues = true →
     let near := s.b.guideOn d = true ∧ ∃ t lead, (s.b.guide d).next = some (t, lead) ∧ s.b.tick ≤ t ∧ t ≤ s.b.tick + 75 + lead
     (near → s.b.domState d = 0 → ∃ t, exec (.guideOpen d) s = .next t ∧ t.b.domState d = 1 ∧ (t.b.guide d).openedByGuide = true ∧
       t.b.get (.pwrDomStat d) Fld.pwrDomStat_OPENS =
         satAdd Fld.pwrDomStat_OPENS.len (s.b.get (.pwrDomStat d) Fld.pwrDomStat_OPENS) 1 ∧
       (∀ r, r ≠ .pwrDomStat d → t.b.raw r = s.b.raw r) ∧ t.mem = s.mem ∧ t.b.out = s.b.out) ∧
     (¬ (near ∧ s.b.domState d = 0) → exec (.guideOpen d) s = .next s)) ∧
  ((∀ (s : State) (n : Nat), n < 96 → 2 ≤ s.b.mode → s.b.mode ≠ 9 →
     let never := s.b.get (.pwrDomPol n) Fld.pwrDomPol_POLICY = 3
     let count := fun (b : Bridge) (f : Fld) => b.get (.pwrDomStat n) f
     (s.b.domState n = 0 → ¬ never → ∃ t, exec (.shutterOpenRequest n) s = .next t ∧ t.b.domState n = 1 ∧ t.mem = s.mem ∧
       count t.b Fld.pwrDomStat_OPENS = satAdd Fld.pwrDomStat_OPENS.len (count s.b Fld.pwrDomStat_OPENS) 1 ∧
       count t.b Fld.pwrDomStat_DEMAND_WAITS =
         satAdd Fld.pwrDomStat_DEMAND_WAITS.len (count s.b Fld.pwrDomStat_DEMAND_WAITS) 1 ∧
       (∀ r, r ≠ .pwrDomStat n → t.b.raw r = s.b.raw r) ∧ (∀ d, d ≠ n → t.b.domState d = s.b.domState d)) ∧
     (2 ≤ s.b.domState n ∨ never → exec (.shutterOpenRequest n) s = .next s)) ∧
   (∀ (s : State) (n : Nat),
     (s.b.domState n = 1 → exec (.shutterOpened n) s = .next ({ s with b := s.b.setDom n 2 } : State).settled.resume) ∧
     (s.b.domState n ≠ 1 → exec (.shutterOpened n) s = .next s) ∧
     (s.b.domState n = 1 → (s.b.setDom n 2).domState n = 2) ∧
     (s.b.closeDue n = true → exec (.shutterClose n) s = .next { s with b := (s.b.closeDom n).settled s.mem } ∧
       (s.b.closeDom n).domState n = 0) ∧
     (s.b.closeDue n = false → exec (.shutterClose n) s = .next s)) ∧
   (∀ (b : Bridge) (ns : List Nat) (i : Instr) (f : Bridge → Bridge),
     (b.domsOpen ns = true → b.whenOpen ns i f = f b) ∧
     (b.domsOpen ns = false → (b.whenOpen ns i f).eng.domHeld = b.eng.domHeld ++ [(ns, ⟨i, []⟩)] ∧
       (b.whenOpen ns i f).out = b.out ∧ ∀ r, Reg.reports r = false → (b.whenOpen ns i f).raw r = b.raw r)) ∧
   (∀ (b : Bridge) (n : Nat) (d : Domain), b.eng.doms.find? (fun x => x.n = n) = some d → d.st = 2 → b.part.domFused n = false →
     d.emptySince ≤ b.tick → 2 ≤ b.mode → b.mode ≠ 9 → b.mode ≠ 11 → n ∉ b.busyDomains → b.guideHolds n = false →
     (b.closeDue n = true ↔ d.emptySince + 50 * b.get (.pwrDomPol n) Fld.pwrDomPol_CLOSE_DELAY ≤ b.tick)) ∧
   (∀ (b : Bridge) (n : Nat), n < 32 → b.get (.pwrDomPol n) Fld.pwrDomPol_POLICY = 1 → (b.guide n).openedByGuide = true →
     (b.guide n).hit = false → (b.closeDom n).get (.dspGuideStat n) Fld.dspGuideStat_EARLY =
       satAdd Fld.dspGuideStat_EARLY.len (b.get (.dspGuideStat n) Fld.dspGuideStat_EARLY) 1))

/-! Logbooks.  -/

/-- From R26, R129, R240, R242, R243, R244, R245 and R257: a producer's port write that is served. With the queue's domains open and
nothing of its source or of a spill before it, it reaches its queue and its source is told whether it was taken; else it waits at the
queue in order. Whole words in the APPEND window are appended, in the PACKET window they are stored as a packet while none is open, and a
close closes the open packet, but for a fault logbook. A slot beyond the instance's queues changes no queue and is recorded with reason 4
and event 31 of LOG. From R242 and R258: what a port refuses: writes that are not whole aligned words, a PACKET write while a packet is
open, a close while none is, every producer of a fault logbook but the bridge, and offsets that take no write. A refusal is counted with
event 5 of LOG and changes no queue. -/
def Obligations.PortWritesAndRefusals : Prop :=
  ((∀ (s : State) (p : PortSel) (d : List Byte), s.b.portServes p = true →
     let ops := [(Instr.append p d, p.off % 0x100, d), (.packet p d, 0x100 + p.off % 0x80, d),
       (.logPortClose p, 0x180, List.replicate 8 0)]
     (∀ q, s.b.portQueue p = some q → s.b.domsOpen (queueDoms q) = true → ∀ o ∈ ops,
       let x := s.b.queue q
       let waits := x.tailHeld = true ∨ ∃ w ∈ x.blocked, w.src = p.src
       let r := s.b.portWrite q o.2.1 (o.2.2.map some) (portSelWho p)
       (¬ waits → exec o.1 s = .next { s with b := (r.1.portAnswer p.src r.2 ((portSelWho p).base + o.2.1)).settled s.mem }) ∧
       (waits → exec o.1 s = .next { s with b := (s.b.putQueue q { x with
         blocked := x.blocked ++ [⟨portSelWho p, o.2.1, o.2.2.map some, none, p.src⟩] }).settled s.mem })) ∧
     (s.b.portQueue p = none → s.b.calm = true → ∀ o ∈ ops, ∃ t, exec o.1 s = .next t ∧ t.b.eng.queues = s.b.eng.queues ∧
       t.b.get (.blkReject .log) Fld.blkReject_REASON = 4 ∧
       t.b.get (.blkReject .log) Fld.blkReject_OFFSET = ((portSelWho p).base + o.2.1) % 2 ^ 26 ∧ t.b.event .log 31 = true ∧
       (∀ r, r ≠ .blkReject .log → Reg.reports r = false → t.b.raw r = s.b.raw r) ∧ t.mem = s.mem)) ∧
   (∀ (b : Bridge) (q off : Nat) (d : List (Option Byte)) (ws : List Word) (who : PortWho), portWords off d = some ws →
     b.isFaultLq q = false ∨ who.bridge = true →
     (off + d.length ≤ 0x100 → b.portWrite q off d who = (b.appendWords q ws, true)) ∧
     (0x100 ≤ off → 0x100 < off + d.length → off + d.length ≤ 0x180 → ∀ t, b.packetWrite q ws = some t →
       b.portWrite q off d who = (t, true)) ∧
     (off = 0x180 → d.length = 8 → ∀ t, b.closePacket q = some t → b.portWrite q off d who = (t, true)))) ∧
  (∀ (b : Bridge) (q off : Nat) (d : List (Option Byte)) (who : PortWho),
     let r := b.portWrite q off d who
     let refused := r.2 = false ∧ r.1.eng.queues = b.eng.queues ∧ r.1.event .log 5 = true ∧
       r.1.get (.logQStat q) Fld.logQStat_REFUSED =
         satAdd Fld.logQStat_REFUSED.len (b.get (.logQStat q) Fld.logQStat_REFUSED) 1
     (off % 8 ≠ 0 ∨ d.length % 8 ≠ 0 → refused) ∧
     (off < 0x188 → b.isFaultLq q = true → who.bridge = false → refused) ∧
     (0x100 ≤ off → off < 0x180 → 0 < d.length → (b.queue q).opn.isSome = true → refused) ∧
     (off = 0x180 → (b.queue q).opn = none → refused) ∧ (0x190 ≤ off → refused) ∧
     (off < 0x100 → 0x100 < off + d.length → refused))

/-- From R243, R244, R245, R246, R247, R248, R253, R254 and R257: framing. An APPEND word joins the open packet, which it opens where none
is and there is room; the 65,536th word closes the packet truncated, with event 2 of LOG, and starts dropping; a dropped word is counted
as lost; a close makes the packet the newest closed one; a poisoned packet counts as lost at its close. PACKET stores one closed packet
where there is room. Where there is none, the oldest closed packet goes first, whole: its unread words are counted as lost with event 1,
and a mark at it is lost; a limit below the queue's capacity sets event 3. What is said of new packets holds while no read waits. -/
def Obligations.LogbookFraming : Prop :=
  ∀ (b : Bridge) (q : Nat) (w : Word) (ws : List Word),
    let x := b.queue q
    let lost := fun (t : Bridge) (n k : Nat) =>
      t.get (.logQLost q) Fld.logQLost_PACKETS = (b.get (.logQLost q) Fld.logQLost_PACKETS + n) % 2 ^ 32 ∧
      t.get (.logQLost q) Fld.logQLost_WORDS = (b.get (.logQLost q) Fld.logQLost_WORDS + k) % 2 ^ 32
    (x.opn = none → x.used + 2 ≤ b.slotLimit q →
      ((b.appendWord q w).queue q).opn = some ⟨[w], false, false, 0⟩ ∧ ((b.appendWord q w).queue q).packets = x.packets) ∧
    (∀ o, x.opn = some o →
      (o.dropping = true → ((b.appendWord q w).queue q).opn = some o ∧ lost (b.appendWord q w) 0 1) ∧
      (o.dropping = false → o.poisoned = true →
        ((b.appendWord q w).queue q).opn = some { o with swallowed := o.swallowed + 1 } ∧ (b.appendWord q w).regs = b.regs) ∧
      (o.dropping = false → o.poisoned = false → o.words.length < 65535 → x.used + 1 ≤ b.slotLimit q →
        ((b.appendWord q w).queue q).opn = some { o with words := o.words ++ [w] } ∧
        ((b.appendWord q w).queue q).packets = x.packets) ∧
      (o.dropping = false → o.poisoned = false → o.words.length = 65535 → x.stalled = [] →
        ((b.appendWord q w).queue q).opn = some { o with words := [], dropping := true } ∧
        ((b.appendWord q w).queue q).packets = x.packets ++ [⟨o.words, 0, true⟩] ∧ lost (b.appendWord q w) 0 1 ∧
        (b.appendWord q w).event .log 2 = true) ∧
      (∃ t, b.closePacket q = some t ∧ (t.queue q).opn = none ∧
        (o.dropping = true → (t.queue q).packets = x.packets) ∧
        (o.dropping = false → o.poisoned = true → (t.queue q).packets = x.packets ∧ lost t 1 o.swallowed) ∧
        (o.dropping = false → o.poisoned = false → x.stalled = [] → (t.queue q).packets = x.packets ++ [⟨o.words, 0, false⟩]))) ∧
    (x.opn = none → x.stalled = [] → x.used + ws.length + 1 ≤ b.slotLimit q →
      ∃ t, b.packetWrite q ws = some t ∧ (t.queue q).packets = x.packets ++ [⟨ws, 0, false⟩] ∧ (t.queue q).opn = none) ∧
    (∀ n k, x.packets ≠ [] → b.slotLimit q < x.used + n → b.makeRoom q n (k + 1) =
      ((if b.slotLimit q < b.capacity q then b.raise .log 3 else b).losePacket q 0).makeRoom q n k) ∧
    (∀ p l, x.packets = p :: l → p.unread ≠ 0 → lost (b.losePacket q 0) 1 p.unread ∧ (b.losePacket q 0).event .log 1 = true) ∧
    (∀ p l, x.packets = p :: l → x.mark = some 0 →
      ((b.losePacket q 0).queue q).mark = none ∧ ((b.losePacket q 0).queue q).markLost = true)

/-- From R251, R252, R253 and R254: a consumer command that is served, with the queue's domains open and nothing of its source waiting
there, applies at once and its source is told. With no read waiting, the status register shows the command and its code; other queues, and
registers but those that report, stay. DROP_REST drops the unread words of a packet that is being read, else code 1; SET_MARK marks the
read position; CLEAR_MARK ends the mark, or code 2; REWIND makes the packets from the mark on unread, or after a lost mark every packet
with code 3, or code 2; FLUSH discards every closed packet and the mark and poisons an open packet. From R16, R242, R250, R256, R257 and
R259: CONSUME reads and a queue's timers. A well-formed read that is served, with the queue's domains open, is answered at once where data
is there and no read waits, or the stall limit is 0, and waits where no data is there; at the limit the oldest returns what is there. Any
other read is refused and counted. An unread window that ends with data unread fires once, with event 0 of LOG, and with ON_UNREAD its
vector. A spill or refill that is the archive's next is done: a spill empties slots of the tail window, a refill fills the head window. An
archive request past level 3 is counted with event 0 of ARC and fails to its requester. -/
def Obligations.ConsumersReadAndCommand : Prop :=
  ((∀ (s : State) (p : PortSel) (q : Nat), s.b.portServes p = true → s.b.portQueue p = some q →
     s.b.domsOpen (queueDoms q) = true → (∀ w ∈ (s.b.queue q).blocked, w.src ≠ p.src) →
     ∀ c ∈ [(Instr.dropRest p, 1), (.setMark p, 2), (.clearMark p, 3), (.rewind p, 4), (.flush p, 5)], exec c.1 s =
       .next { s with b := ((s.b.consumerCmd q c.2).portAnswer p.src true ((portSelWho p).base + 0x188)).settled s.mem }) ∧
   (∀ (b : Bridge) (q : Nat), (b.queue q).stalled = [] →
     let x := b.queue q
     let did := fun (n code : Nat) =>
       let y := (b.consumerCmd q n).queue q
       wget y.cmdStatus Fld.logPortCmdStatus_CMD = n ∧ wget y.cmdStatus Fld.logPortCmdStatus_CODE = code
     let keeps := fun (n : Nat) => ((b.consumerCmd q n).queue q).unreadWords = x.unreadWords
     let same := fun (n : Nat) =>
       let y := (b.consumerCmd q n).queue q
       y = { x with cmdStatus := y.cmdStatus, busy := y.busy, moving := y.moving }
     (∀ n, n ≤ 5 → 1 ≤ n → (∀ r, Reg.reports r = false → (b.consumerCmd q n).raw r = b.raw r) ∧
       ∀ k, k ≠ q → (b.consumerCmd q n).queue k = b.queue k) ∧
     (∀ i p, x.front = some (i, p) → p.read ≠ 0 → did 1 0 ∧ ((b.consumerCmd q 1).queue q).unreadWords = x.unreadWords - p.unread) ∧
     ((∀ i p, x.front = some (i, p) → p.read = 0) → did 1 1 ∧ same 1) ∧
     (did 2 0 ∧ keeps 2 ∧ ((b.consumerCmd q 2).queue q).mark = some 0 ∧ ((b.consumerCmd q 2).queue q).markLost = false) ∧
     (did 3 (if x.mark.isSome then 0 else 2) ∧ keeps 3 ∧ ((b.consumerCmd q 3).queue q).mark = none ∧
       ((b.consumerCmd q 3).queue q).markLost = false) ∧
     (∀ m, x.mark = some m → did 4 0 ∧ ((b.consumerCmd q 4).queue q).mark = some m ∧
       ((b.consumerCmd q 4).queue q).packets = x.packets.zipIdx.map (fun p => if m ≤ p.2 then { p.1 with read := 0 } else p.1)) ∧
     (x.mark = none → x.markLost = true → did 4 3 ∧ ((b.consumerCmd q 4).queue q).markLost = false ∧
       ((b.consumerCmd q 4).queue q).packets = x.packets.map (fun p => { p with read := 0 })) ∧
     (x.mark = none → x.markLost = false → did 4 2 ∧ same 4) ∧
     (did 5 0 ∧ ((b.consumerCmd q 5).queue q).packets = [] ∧ ((b.consumerCmd q 5).queue q).mark = none ∧
       (∀ o, x.opn = some o → o.dropping = false → ∃ y, ((b.consumerCmd q 5).queue q).opn = some y ∧ y.poisoned = true ∧
         y.words = [] ∧ y.swallowed = o.swallowed + o.words.length)))) ∧
  ((∀ (s : State) (p : PortSel) (q len tag : Nat), s.b.portServes p = true → s.b.portQueue p = some q →
     s.b.domsOpen (queueDoms q) = true →
     let x : Stalled := { src := p.src, tag := tag, job := none, pairs := len / 16, t0 := s.b.tick }
     let good := p.off % 8 = 0 ∧ len % 16 = 0 ∧ 0 < len ∧ p.off + len ≤ 0x100
     let no := s.b.portRefused q
     (good → exec (.consume p len tag) s = .next { s with b := (s.b.consumeRead q x).settled s.mem }) ∧
     (((s.b.queue q).ready = true ∧ (s.b.queue q).stalled = []) ∨ s.b.get (.logQGeom q) Fld.logQGeom_STALL = 0 →
       s.b.consumeRead q x = s.b.serveConsume q x) ∧
     ((s.b.queue q).ready = false → s.b.get (.logQGeom q) Fld.logQGeom_STALL ≠ 0 →
       (s.b.consumeRead q x).queue q = { s.b.queue q with stalled := (s.b.queue q).stalled ++ [x] }) ∧
     (¬ good → exec (.consume p len tag) s = .next { s with b := (match p.src with
       | .vf ap fn | .hostFn ap fn => no.refuseRead ap fn tag .logbookRefused
       | src => no.portAnswerRefused src ((portSelWho p).base + p.off)).settled s.mem })) ∧
   (∀ (b : Bridge) (q n : Nat), (b.takePairs q n).2.length ≤ 2 * n ∧
     ((b.takePairs q n).1.padPairs q n (b.takePairs q n).2).length = 2 * n ∧
     ((b.takePairs q n).1.queue q).unreadWords + (b.takePairs q n).2.length / 2 = (b.queue q).unreadWords ∧
     (∀ i p, (b.queue q).front = some (i, p) → (b.queue q).ready = true → 0 < n → ∃ l, (b.takePairs q n).2 =
       p.words.getD p.read 0 :: b.statusWord q p :: l)) ∧
   (∀ (s : State) (q : Nat), 4 ≤ s.b.mode → s.b.mode ≠ 9 → s.b.mode ≠ 11 →
     let y := s.b.queue q
     let u := s.b.get (.logQGeom q) Fld.logQGeom_UNREAD
     (∀ x rest, y.stalled = x :: rest →
       (x.t0 + s.b.get (.logQGeom q) Fld.logQGeom_STALL ≤ s.b.tick → exec (.consumeStallExpire q) s =
         .next { s with b := ((s.b.putQueue q { y with stalled := rest }).serveConsume q x).settled s.mem }) ∧
       (s.b.tick < x.t0 + s.b.get (.logQGeom q) Fld.logQGeom_STALL → exec (.consumeStallExpire q) s = .next s.settled)) ∧
     (u ≠ 0 → y.windowOpen = true → y.fired = false → y.windowStart + u ≤ s.b.tick →
       let b := (s.b.putQueue q { y with fired := true }).raise .log 0
       exec (.unreadTimeout q) s = .next { s with b := (if s.b.get (.logQIrq q) Fld.logQIrq_ON_UNREAD = 1
         then (b.queueVector q).startWake 6 else b).settled s.mem }) ∧
     (u = 0 ∨ y.windowOpen = false ∨ y.fired = true ∨ s.b.tick < y.windowStart + u → exec (.unreadTimeout q) s = .next s.settled)) ∧
   (∀ (s : State) (q : Nat) (r : ArchReq), s.b.get .arcStat Fld.arcStat_READY = 1 → s.b.mode ≠ 11 → s.b.archNext = some r →
     r.job = none →
     let b := (s.b.archTake r).spillDone q
     let y := s.b.queue q
     let n := y.heldSlots.2 - y.heldSlots.1
     (r.user = 1 → r.arg = q → exec (.spillRefillDone q) s = .next { s with b := b.settled s.mem } ∧
       (y.busy = true → y.stalled = [] → (0 < y.moving → (b.queue q).tail = y.tail - n) ∧
         (y.moving = 0 → (b.queue q).head = n))) ∧
     (¬ (r.user = 1 ∧ r.arg = q) → exec (.spillRefillDone q) s = .next s)) ∧
   (∀ (s : State) (id : Nat) (r : ArchReq), s.b.mode ≠ 11 → s.b.archReqs.find? (fun r => r.id = id) = some r →
     (r.t0 + s.b.ladder 3 ≤ s.b.tick → exec (.archiveTimeout id) s =
       .next { s with b := ((((s.b.archTake r).bump .arcStat Fld.arcStat_TIMEOUTS).raise .arc 0).archFail r).settled s.mem }) ∧
     (s.b.tick < r.t0 + s.b.ladder 3 → exec (.archiveTimeout id) s = .next s.settled) ∧
     (∀ j, r.user = 0 → r.job = some j → (s.b.archFail r) = s.b.finish j (.err .archiveTimeout))))

/-! Meridian.  -/

/-- From R103, R104, R121, R147, R269, R280, R281 and R287: an agent's requests on a link that is up, in a mode that serves them. A
malformed one is a protocol error of kind 2 with event 1 and puts nothing on a link. A READ, WRITE, RLOAD or CSTORE that meets no entry,
or one that is not open, is counted as a miss and answered UNMAPPED; one that crosses 4 KiB of an open entry is answered UNMAPPED and
counted as no miss. A READ that hits, and a WRITE without poison, is issued to its target with its MARK. An RLOAD or CSTORE that hits is
passed on toward another Meridian port with its VI, DIR, PASID, CLASS and MARK, the CSTORE without poison, and answered TGT_FAULT toward
any other target, as an ATOMIC is toward a target that is neither Meridian nor Transit; toward the host that is recorded as kind 7. From
R279, R280 and R281: an INTERRUPT event raises its vector through an open host entry of a function that has it and is dropped, counted and
recorded with event 5 otherwise; CAPS, on a link that is up, shows what the agent offers, without reservations and with event 4 where the
granule differs; a BARRIER starts over the writes before it of its VI and DIR, of its port or of every source, by its OP, and is not
answered yet. -/
def Obligations.MeridianAgentRequests : Prop :=
  ((∀ (s : State) (p : Nat) (k : Packet), s.b.serving = true → p < 4 → s.b.linkUp p = true →
     let b := s.b.intake p k
     exec (.meridianRead p k) s = .next { s with b := (b.agentRead p k).settled s.mem } ∧
     exec (.meridianWrite p k) s = .next { s with b := (b.agentWrite p k).settled s.mem } ∧
     exec (.rload p k) s = .next { s with b := (b.agentRload p k).settled s.mem } ∧
     exec (.cstore p k) s = .next { s with b := (b.agentCstore p k).settled s.mem } ∧
     exec (.atomic p k) s = .next { s with b := (b.agentAtomic p k).settled s.mem } ∧
     exec (.interrupt p k) s = .next { s with b := (b.agentInterrupt p k).settled s.mem } ∧
     exec (.meridianBarrier p k) s = .next { s with b := (b.agentBarrier p k).settled s.mem }) ∧
   (∀ (b : Bridge) (p : Nat) (k : Packet), p < 4 →
     (∀ x ∈ [(b.agentRead p k, 0), (b.agentWrite p k, 1), (b.agentRload p k, 2), (b.agentCstore p k, 3), (b.agentAtomic p k, 4),
         (b.agentInterrupt p k, 5), (b.agentBarrier p k, 6)], pktOk k x.2 = false →
       x.1.get (.merErrCnt p) Fld.merErrCnt_PROTO =
         satAdd Fld.merErrCnt_PROTO.len (b.get (.merErrCnt p) Fld.merErrCnt_PROTO) 1 ∧
       x.1.get (.merErrLast p) Fld.merErrLast_KIND = 2 ∧ x.1.get (.merErrLast p) Fld.merErrLast_VALID = 1 ∧
       x.1.event .mer 1 = true ∧ x.1.eng.links = b.eng.links) ∧
     let n := k.len + 1
     let hit := b.lookup (slotMer p (k.addr / 2 ^ 48)) (k.addr % 2 ^ 48) n
     let unmapped := fun (b : Bridge) => b.answerMer p k.tag k.vi k.dir 3 none false
     let all := [(b.agentRead p k, 0), (b.agentWrite p k, 1), (b.agentRload p k, 2), (b.agentCstore p k, 3)]
     (hit = none → ∀ x ∈ all, pktOk k x.2 = true → x.1 = unmapped (b.catMiss false k.addr 1 p)) ∧
     (∀ x, hit = some x → b.entOpen x.idx = false → ∀ y ∈ all, pktOk k y.2 = true →
       y.1 = unmapped (b.catMiss true k.addr 1 p)) ∧
     (∀ x, hit = some x → b.entOpen x.idx = true → 4096 < k.addr % 4096 + n → ∀ y ∈ all, pktOk k y.2 = true → y.1 = unmapped b) ∧
     (∀ x, k.addr % 4096 + n ≤ 4096 → hit = some x → b.entOpen x.idx = true →
       (pktOk k 0 = true → b.agentRead p k =
         b.upIssue (merFrom p k) (merSrc p k) x k.addr n false (fun _ n => .read n) k.mark (k.mark = 0)) ∧
       (pktOk k 1 = true → k.poison = false → b.agentWrite p k =
         b.upIssue (merFrom p k) (merSrc p k) x k.addr n true (upData x k.data false) k.mark (k.mark = 0)) ∧
       (x.get entSPACE = 0 →
         (pktOk k 2 = true → b.agentRload p k =
           b.upIssue (merFrom p k) (merSrc p k) x k.addr n false (fun _ n => .rload n) k.mark false (passOn k)) ∧
         (pktOk k 3 = true → k.poison = false → b.agentCstore p k =
           b.upIssue (merFrom p k) (merSrc p k) x k.addr n true (fun t n =>
             .cstore ((pieceData (x.get entORDER) x.off (k.data.map some) t n).map (·.getD 0)) false) k.mark false (passOn k))) ∧
       (x.get entSPACE ≠ 0 → x.get entSPACE ≠ 4 →
         (pktOk k 2 = true → b.agentRload p k = b.answerMer p k.tag k.vi k.dir 4 none false) ∧
         (pktOk k 3 = true → b.agentCstore p k = b.answerMer p k.tag k.vi k.dir 4 none false)) ∧
       (x.get entSPACE = 4 → ∀ y ∈ [(b.agentRload p k, 2), (b.agentCstore p k, 3)], pktOk k y.2 = true →
         y.1.get (.merErrLast p) Fld.merErrLast_KIND = 7 ∧ y.1.get (.merErrLast p) Fld.merErrLast_VALID = 1)) ∧
     (∀ x, b.lookup (slotMer p (k.addr / 2 ^ 48)) (k.addr % 2 ^ 48) (atomicOperand k.op) = some x → b.entOpen x.idx = true →
       k.addr % 4096 + atomicOperand k.op ≤ 4096 → pktOk k 4 = true → 1 < x.get entSPACE → x.get entSPACE ≠ 4 →
       b.agentAtomic p k = b.answerMer p k.tag k.vi k.dir 4 none false))) ∧
  ((∀ (s : State) (p : Nat) (k : Packet), p < 4 → s.b.linkUp p = true →
     exec (.caps p k) s = .next { s with b := ((s.b.intake p k).agentCaps p k).settled s.mem }) ∧
   (∀ (b : Bridge) (p : Nat) (k : Packet), p < 4 →
     let v := natOfBytes (k.data.take 2) % 2048
     let hit := b.lookup (slotMer p (k.addr / 2 ^ 48)) (k.addr % 2 ^ 48) 1
     let w := wordOfBytes k.data
     let dropped := (b.agentInterrupt p k).event .mer 5 = true ∧
       (b.agentInterrupt p k).get (.merErrLast p) Fld.merErrLast_KIND = 6 ∧
       (b.agentInterrupt p k).get (.merEventDrop p) Fld.merEventDrop_EVENT_DROP =
         satAdd Fld.merEventDrop_EVENT_DROP.len (b.get (.merEventDrop p) Fld.merEventDrop_EVENT_DROP) 1
     (pktOk k 5 = true → k.op = 0 →
       (∀ x, hit = some x → b.entOpen x.idx = true → x.get entSPACE = 4 → v < b.vectors (x.get entPORT) (x.get entRIDFN) →
         b.agentInterrupt p k = b.raiseVector (x.get entPORT) (x.get entRIDFN) v) ∧
       (hit = none → dropped) ∧
       (∀ x, hit = some x → (b.entOpen x.idx = false ∨ x.get entSPACE ≠ 4 ∨ b.vectors (x.get entPORT) (x.get entRIDFN) ≤ v) →
         dropped)) ∧
     (pktOk k 5 = true → k.op = 1 → k.addr = 0 →
       let t := b.agentCaps p k
       let same := (w >>> 2).toNat % 8 + 7 = b.get (.merPortGeom p) Fld.merPortGeom_GRANULE_LOG2
       t.get (.merPortStat p) Fld.merPortStat_CAPS_SEEN = 1 ∧
       t.get (.merPortStat p) Fld.merPortStat_NATIVE_ATOMIC = bit (w.getLsbD 0) ∧
       (same → t.get (.merPortStat p) Fld.merPortStat_RESERVATIONS = bit (w.getLsbD 1)) ∧
       (¬ same → t.get (.merPortStat p) Fld.merPortStat_RESERVATIONS = 0 ∧ t.event .mer 4 = true)) ∧
     (pktOk k 6 = true →
       let mine := fun (j : Job) => match k.op, j.src with
         | 0, x => decide (x = .mer p k.vi k.dir)
         | 1, .mer q _ _ => decide (q = p)
         | 1, _ => false
         | _, _ => true
       ∃ y, (b.agentBarrier p k).barriers = b.barriers ++ [y] ∧ y.form = 3 ∧ y.tag = k.tag ∧ y.sender = some (merFrom p k) ∧
         y.covers = (b.writes.filter mine).map (·.id) ∧ (b.agentBarrier p k).out = b.out)))

/-- From R270, R282 to R285 and R287: completions, and the timers of a tag. A completion of a held tag ends its request with what it says
and frees the tag; RETRY of a request that is no WRITE and not another agent's waits for its re-send with the same tag, up to the limit. A
completion in a tag's quarantine window is late; one of a free tag, as it is after that window, and an unfit one are protocol errors of
kinds 3 and 4, and a malformed one is of kind 2; the unfit and the malformed one end the request that holds the tag with TGT_FAULT and
free the tag. At the transaction timeout the request fails and the tag is quarantined; at the end of that window it is free. -/
def Obligations.MeridianCompletions : Prop :=
  (∀ (s : State) (p : Nat) (k : Packet), p < 4 → s.b.linkUp p = true →
    exec (.meridianCpl p k) s = .next { s with b := ((s.b.intake p k).completion p { k with type := 8 }).settled s.mem } ∧
    exec (.meridianCpld p k) s = .next { s with b := ((s.b.intake p k).completion p { k with type := 9 }).settled s.mem }) ∧
  (∀ (b : Bridge) (p : Nat) (k : Packet), p < 4 →
    (k.rsvd = true ∨ k.op ≠ 0 ∨ k.mark ≠ 0 ∨ k.addr ≠ 0 ∨ 6 ≤ k.resp ∨ (k.dir = true ∧ k.vi ≠ 0) ∨ (k.type = 8 ∧ k.data ≠ [])) →
    let t := b.completion p k
    let held := b.eng.merTags.find? (fun e => e.port = p && e.tag = k.tag && !e.quarantined)
    t.get (.merErrCnt p) Fld.merErrCnt_PROTO = satAdd Fld.merErrCnt_PROTO.len (b.get (.merErrCnt p) Fld.merErrCnt_PROTO) 1 ∧
      t.get (.merErrLast p) Fld.merErrLast_KIND = 2 ∧ t.event .mer 1 = true ∧
      (held = none → t.eng.merTags = b.eng.merTags) ∧
      (∀ e, held = some e → (∀ x ∈ t.eng.merTags, ¬ (x.port = p ∧ x.tag = k.tag)) ∧
        t.eng.done.getLast? = some (e.job, .err .tgtFault))) ∧
  (∀ (b : Bridge) (p : Nat) (k : Packet), p < 4 → k.op = 0 → k.mark = 0 → k.addr = 0 → k.rsvd = false →
    (k.dir = true → k.vi = 0) → k.resp < 6 → (k.type = 8 → k.data = []) →
    let held := b.eng.merTags.find? (fun e => e.port = p && e.tag = k.tag)
    let t := b.completion p k
    let proto := fun (kind : Nat) => t.get (.merErrCnt p) Fld.merErrCnt_PROTO =
        satAdd Fld.merErrCnt_PROTO.len (b.get (.merErrCnt p) Fld.merErrCnt_PROTO) 1 ∧
      t.get (.merErrLast p) Fld.merErrLast_KIND = kind ∧ t.event .mer 1 = true
    let free := ∀ x ∈ t.eng.merTags, ¬ (x.port = p ∧ x.tag = k.tag)
    (held = none → proto 3 ∧ t.eng.merTags = b.eng.merTags) ∧
    (∀ e, held = some e → e.quarantined = true → e.until_ ≤ b.tick → proto 3 ∧ free) ∧
    (∀ e, held = some e → e.quarantined = true → b.tick < e.until_ → t.eng.merTags = b.eng.merTags ∧ t.event .mer 2 = true ∧
      t.get (.merErrLast p) Fld.merErrLast_KIND = 1 ∧
      t.get (.merErrCnt p) Fld.merErrCnt_LATE = satAdd Fld.merErrCnt_LATE.len (b.get (.merErrCnt p) Fld.merErrCnt_LATE) 1) ∧
    (∀ e, held = some e → e.quarantined = false → ¬ (k.type = 8 ∧ k.resp = 5) →
      (∀ r, complete e.job k = some r → t.eng.done = b.eng.done ++ [(e.job, r)] ∧ free ∧ t.regs = b.regs) ∧
      (complete e.job k = none → proto 4 ∧ free ∧ t.eng.done.getLast? = some (e.job, .err .tgtFault))) ∧
    (∀ e, held = some e → e.quarantined = false → k.type = 8 → k.resp = 5 → mayRetry e.job = true → passedOn e.job = false →
      let n := b.get (.merPortCtrl p) Fld.merPortCtrl_RETRY_LIMIT
      (e.retries < n → t = b.putTag { e with resendAt := some (b.tick + b.get (.merPortCtrl p) Fld.merPortCtrl_RETRY_GAP) }) ∧
      (n ≤ e.retries → free ∧ t.eng.done = b.eng.done ++ [(e.job, .err .tgtFault)])) ∧
    (∀ e d x, held = some e → e.quarantined = false → k.type = 8 → k.resp = 5 → e.job.op = .write d x →
      proto 4 ∧ free ∧ t.eng.done.getLast? = some (e.job, .err .tgtFault))) ∧
  (∀ (j : Job) (k : Packet), (k.type = 8 → k.resp = 3 → complete j k = some (.err .unmapped)) ∧
    (k.type = 8 → k.resp = 4 → complete j k = some (.err .tgtFault)) ∧
    (∀ d x, j.op = .write d x → k.type = 8 → k.resp = 0 → complete j k = some (.ok [] false)) ∧
    (∀ n, j.op = .read n → k.type = 9 → k.resp = 0 → k.data.length = k.len + 1 → k.len + 1 = j.span →
      complete j k = some (.ok k.data k.poison))) ∧
  (∀ (s : State) (p tag : Nat) (e : MerTag), p < 4 → s.b.eng.merTags.find? (fun e => e.port = p && e.tag = tag) = some e →
    let t := s.b.merTimeout p tag
    exec (.meridianTimeout p tag) s = .next { s with b := t.settled s.mem } ∧
    (e.quarantined = false → e.issued + s.b.ladder 4 ≤ s.b.tick →
      t.eng.merTags.find? (fun e => e.port = p && e.tag = tag) =
        some { e with quarantined := true, until_ := s.b.tick + s.b.ladder 4, resendAt := none } ∧
      t.event .mer 3 = true ∧ t.eng.done = s.b.eng.done ++ [(e.job, .err .merTimeout)] ∧
      t.get (.merErrCnt p) Fld.merErrCnt_TIMEOUTS =
        satAdd Fld.merErrCnt_TIMEOUTS.len (s.b.get (.merErrCnt p) Fld.merErrCnt_TIMEOUTS) 1) ∧
    (e.quarantined = false → s.b.tick < e.issued + s.b.ladder 4 → t = s.b) ∧
    (e.quarantined = true → e.until_ ≤ s.b.tick →
      exec (.meridianTagFree p tag) s = .next { s with b := (s.b.freeTag p tag).settled s.mem } ∧
      ∀ x ∈ (s.b.freeTag p tag).eng.merTags, ¬ (x.port = p ∧ x.tag = tag)) ∧
    (∀ due, e.quarantined = false → e.resendAt = some due → due ≤ s.b.tick → s.b.linkTakes p (e.job.packet tag) = true →
      let again := (s.b.putTag { e with resendAt := none, retries := e.retries + 1 }).bump (.merErrCnt p) Fld.merErrCnt_RETRIES
      exec (.meridianRetryResend p tag) s = .next { s with b := (again.sendPacket p (e.job.packet tag)).settled s.mem }))

/-! The reliable links.  -/

/-- From R351, R352, R353, R357, R361, R362, R363 and R366: what arrives on a link. In UP a payload flit of a Meridian link that carries
no NAK: in sequence, the next is expected; out of it, the flit is discarded and counted, and one after a loss sets NAK. A bad flit is
counted with NAK. An ACK of a held flit frees it and those before it, and restarts the replay time. A credit counter takes the value sent.
A PAUSE pauses a link that is UP, with no lane of this end to re-lock; lanes to re-lock widen a pause. A RETRAIN_REQ with a width that is
none takes the link down with cause 5; otherwise it is answered and the link retrains with event 2 of IFV, unless this end's own request
goes first. A RETRAIN_ACK of this end's request starts the retrain; a DOWN takes the link down with cause 6. -/
def Obligations.LinkReceives : Prop :=
  (∀ (s : State) (k : Nat) (h : FlitHdr) (ws : List Word) (c : Bool) (lanes : BitVec 16) (x : CtlWord),
    exec (.payload k h ws c) s = .next { s with b := (s.b.payload k h ws c).settled s.mem } ∧
    exec (.idle k h c) s = .next { s with b := (s.b.idleFlit k h c).settled s.mem } ∧
    exec (.badFlit k) s = .next { s with b := (s.b.badFlit k).settled s.mem } ∧
    exec (.pause k lanes) s = .next { s with b := (s.b.startPause k 0).settled s.mem } ∧
    exec (.retrainReq k x) s = .next { s with b := (s.b.retrainReq k x).settled s.mem } ∧
    ((s.b.link k).reqSent.isSome = true →
      exec (.retrainAck k x) s = .next { s with b := (s.b.startRetrain k).settled s.mem }) ∧
    exec (.down k) s = .next { s with b := (s.b.linkDown k 6).settled s.mem }) ∧
  (∀ (b : Bridge) (k : Nat) (h : FlitHdr) (ws : List Word) (c : Bool), k < 4 → b.linkState k = 2 → h.first ≠ 30 → h.nak = false →
    let e := (b.link k).expected
    let d := (h.seq + 4096 - e) % 4096
    let t := b.payload k h ws c
    let bad := t.get (.ifvLinkCnt k) Fld.ifvLinkCnt_BAD_FLITS
    (e < 4096 → d = 0 → (t.link k).expected = (e + 1) % 4096) ∧
    (d ≠ 0 → (t.link k).expected = e ∧ (t.merPort k).rx = (b.merPort k).rx ∧
      bad = satAdd Fld.ifvLinkCnt_BAD_FLITS.len (b.get (.ifvLinkCnt k) Fld.ifvLinkCnt_BAD_FLITS) 1) ∧
    (d ≠ 0 → d ≤ 2047 → (t.link k).nak = true) ∧ (2047 < d → (t.link k).nak = (b.link k).nak)) ∧
  (∀ (b : Bridge) (k ack n v : Nat),
    let l := b.link k
    (l.buf.any (fun f => f.seq = ack) = true →
      ((b.takeAck k ack).link k).buf = (l.buf.dropWhile (fun f => f.seq ≠ ack)).drop 1 ∧
      ((b.takeAck k ack).link k).replayFrom = b.tick) ∧
    (l.buf.any (fun f => f.seq = ack) = false → b.takeAck k ack = b) ∧
    ((b.takeCredit k n v).link k).farGranted = l.farGranted.set n v) ∧
  (∀ (b : Bridge) (k : Nat), k < 5 → b.linkState k = 2 →
    ((b.badFlit k).link k).nak = true ∧ (b.badFlit k).get (.ifvLinkCnt k) Fld.ifvLinkCnt_BAD_FLITS =
      satAdd Fld.ifvLinkCnt_BAD_FLITS.len (b.get (.ifvLinkCnt k) Fld.ifvLinkCnt_BAD_FLITS) 1) ∧
  (∀ (b : Bridge) (k : Nat) (lanes : BitVec 16), k < 5 →
    (b.linkState k = 2 → (b.startPause k lanes).linkState k = 3 ∧ ((b.startPause k lanes).link k).pauseLanes = lanes ∧
      ∃ w, (b.startPause k lanes).out = b.out ++ [.training k w]) ∧
    (b.linkState k = 3 → ((b.startPause k lanes).link k).pauseLanes = (b.link k).pauseLanes ||| lanes) ∧
    (b.linkState k ≠ 2 → b.linkState k ≠ 3 → b.startPause k lanes = b)) ∧
  (∀ (b : Bridge) (k : Nat) (x : CtlWord), k < 5 → b.linkState k = 2 ∨ b.linkState k = 3 →
    let ours := (b.link k).reqSent.isSome = true ∧ (b.identLocal k < x.ident ∨ (b.identLocal k = x.ident ∧ k < 4))
    (x.width ∉ [1, 2, 4, 8, 16] → b.retrainReq k x = b.linkDown k 5) ∧
    (x.width ∈ [1, 2, 4, 8, 16] → ours → b.retrainReq k x = b) ∧
    (x.width ∈ [1, 2, 4, 8, 16] → ¬ ours → (b.retrainReq k x).linkState k = 4 ∧ (b.retrainReq k x).event .ifv 2 = true ∧
      ∃ w, (b.retrainReq k x).out = (b.control k 3 0).out ++ [.training k w]))

/-- From R289, R355, R358, R359, R362 and R366: a link's timers and phases. In UP the replay timer replays from the oldest flit held (and
runs anew from there: log entry 130, the model's reading), and a credit kind awaited for the credit timeout takes the link down with event
4 of IFV and cause 2. At the end of DOWN_HOLD, with AUTO_UP or an UP that waited for it, the link trains, in M4 to M10 but M9. A retrain
request without an ACK is sent again after 1 µs; a retrain past 40 µs takes the link down. A Meridian link in first training takes the far
identity and the lower rate after LOCK, goes from phase to phase, and from the last to UP with flits numbered from 0; a retrain so ends in
UP too, and is counted. A training phase past its bound falls to the next lower rate, or takes the link down with cause 3. A Meridian link
that goes down shows its cause and no lane, holds no flit, is counted with event 1, is not READY, and has its tags quarantined. -/
def Obligations.LinkTimersAndTraining : Prop :=
  (∀ (s : State) (k : Nat),
    let b := s.b
    let l := b.link k
    (∀ f rest, l.buf = f :: rest → b.linkState k = 2 →
      (l.replayFrom + b.replayTicks k ≤ b.tick →
        exec (.replayTimerExpire k) s = .next { s with b := ((b.putLink { l with replayFrom := b.tick }).replay k f.seq true).settled s.mem }) ∧
      (b.tick < l.replayFrom + b.replayTicks k → exec (.replayTimerExpire k) s = .next s.settled)) ∧
    (∀ kind t, l.creditWait.find? (fun (p : Nat × Nat) => p.1 = kind) = some (kind, t) → b.linkState k = 2 →
      (t + b.creditTicks k ≤ b.tick →
        exec (.creditTimeout k kind) s = .next { s with b := ((b.raise .ifv 4).linkDown k 2).settled s.mem }) ∧
      (b.tick < t + b.creditTicks k → exec (.creditTimeout k kind) s = .next s.settled)) ∧
    (b.linkState k = 0 → b.get (.ifvLinkCtrl k) Fld.ifvLinkCtrl_AUTO_UP = 1 ∨ l.upAsked = true → 4 ≤ b.mode → b.mode ≠ 9 → b.mode ≠ 11 →
      l.downAt + b.get (.ifvLinkCtrl k) Fld.ifvLinkCtrl_DOWN_HOLD ≤ b.tick →
      exec (.downHoldExpire k) s = .next { s with b := (b.startTraining k).settled s.mem }) ∧
    (∀ x, exec (.trainingPhaseDone k x) s = .next { s with b := (b.phaseDone k x).settled s.mem }) ∧
    exec (.trainingPhaseTimeout k) s = .next { s with b := (b.phaseTimeout k).settled s.mem } ∧
    (∀ t, l.reqSent = some t → t + 50 ≤ b.tick → exec (.retrainReqResend k) s = .next { s with b := b.requestRetrain k }) ∧
    (∀ t, l.ackAt = some t → b.linkState k = 4 →
      (t + 2000 < b.tick → exec (.retrainTimeout k) s = .next { s with b := (b.linkDown k 3).settled s.mem }) ∧
      (b.tick ≤ t + 2000 → exec (.retrainTimeout k) s = .next s.settled))) ∧
  (∀ (b : Bridge) (k : Nat), k < 4 → b.linkState k = 0 → b.linkExists k = true →
    (b.startTraining k).linkState k = 1 ∧ ((b.startTraining k).link k).phase = 0) ∧
  (∀ (b : Bridge) (k : Nat) (x : TrainInfo), k < 4 → b.linkState k = 1 →
    ((b.link k).phase = 0 → ((b.phaseDone k x).link k).phase = 1 ∧
      (b.phaseDone k x).get (.ifvLinkStat k) Fld.ifvLinkStat_IDENT_FAR = x.identFar % 16 ∧
      (b.phaseDone k x).get (.ifvLinkStat k) Fld.ifvLinkStat_RATE =
        min (b.get (.ifvLinkStat k) Fld.ifvLinkStat_RATE) x.rateFar) ∧
    ((b.link k).phase = 1 → ((b.phaseDone k x).link k).phase = 2) ∧
    ((b.link k).phase = 3 → (b.phaseDone k x).linkState k = 2 ∧ ((b.phaseDone k x).link k).expected = 0)) ∧
  (∀ (b : Bridge) (k : Nat) (x : TrainInfo), b.linkState k = 4 → (b.link k).phase = 3 → (b.phaseDone k x).linkState k = 2 ∧
    (b.phaseDone k x).get (.ifvLinkCnt k) Fld.ifvLinkCnt_RETRAINS =
      satAdd Fld.ifvLinkCnt_RETRAINS.len (b.get (.ifvLinkCnt k) Fld.ifvLinkCnt_RETRAINS) 1) ∧
  (∀ (b : Bridge) (k : Nat), b.linkState k = 1 → (b.link k).phaseStart + phaseBound (b.link k).phase ≤ b.tick →
    (1 < b.get (.ifvLinkStat k) Fld.ifvLinkStat_RATE →
      (b.phaseTimeout k).get (.ifvLinkStat k) Fld.ifvLinkStat_RATE = b.get (.ifvLinkStat k) Fld.ifvLinkStat_RATE - 1) ∧
    (b.get (.ifvLinkStat k) Fld.ifvLinkStat_RATE ≤ 1 → b.phaseTimeout k = b.linkDown k 3)) ∧
  (∀ (b : Bridge) (k cause : Nat), k < 4 → b.linkState k ≠ 0 → cause < 16 →
    let t := b.linkDown k cause
    t.linkState k = 0 ∧ t.get (.ifvLinkStat k) Fld.ifvLinkStat_DOWN_CAUSE = cause ∧
    t.get (.ifvLinkStat k) Fld.ifvLinkStat_LANES = 0 ∧ (t.link k).buf = [] ∧ (t.link k).downAt = b.tick ∧
    t.event .ifv 1 = true ∧ t.get (.merPortStat k) Fld.merPortStat_READY = 0 ∧
    t.get (.ifvLinkCnt k) Fld.ifvLinkCnt_DOWNS =
      satAdd Fld.ifvLinkCnt_DOWNS.len (b.get (.ifvLinkCnt k) Fld.ifvLinkCnt_DOWNS) 1 ∧
    (∀ e ∈ t.eng.merTags, e.port = k → e.quarantined = true))

/-- From R362, R366 and R368: the board's link commands, given by the chief director or the board controller. RETRAIN asks for a retrain
with a RETRAIN_REQ flit, DOWN takes the link down with cause 7, UP trains one that is DOWN, its DOWN_HOLD over, or else waits for the end
of DOWN_HOLD. Another director's command is rejected with reason 5. Where nothing is mirrored an accepted new WIDTH_CAP is stored, and
asks for a retrain of a link that is UP. -/
def Obligations.LinkCommands : Prop :=
  (∀ (s : State) (w : Writer) (k : Nat), k < 5 → s.b.takes w (0xF00108 + 0x40 * k) = true → Reg.fused s.b.part (.ifvLinkCtrl k) = false →
    let b := s.b.svcMark w false
    let l := s.b.link k
    let holding := l.downAt ≠ 0 ∧ s.b.tick < l.downAt + s.b.get (.ifvLinkCtrl k) Fld.ifvLinkCtrl_DOWN_HOLD
    (w.chief = true → exec (.ifvRetrain w k) s = .next { s with b := (b.requestRetrain k).settled s.mem } ∧
      exec (.ifvDown w k) s = .next { s with b := (b.linkDown k 7).settled s.mem } ∧
      (s.b.linkState k = 0 → ¬ holding → exec (.ifvUp w k) s = .next { s with b := (b.startTraining k).settled s.mem }) ∧
      (s.b.linkState k = 0 → holding → exec (.ifvUp w k) s =
        .next { s with b := (b.putLink { l with upAsked := true }).settled s.mem }) ∧
      (s.b.linkState k ≠ 0 → exec (.ifvUp w k) s = .next { s with b := b.settled s.mem })) ∧
    (w.chief = false → s.b.calm = true → ∀ c ∈ [Instr.ifvRetrain w k, .ifvDown w k, .ifvUp w k], ∃ t, exec c s = .next t ∧
      t.b.get (.blkReject .ifv) Fld.blkReject_REASON = 5 ∧ t.b.linkState k = s.b.linkState k)) ∧
  (∀ (b : Bridge) (k : Nat), b.linkState k = 2 ∨ b.linkState k = 3 → (b.requestRetrain k).linkState k = b.linkState k ∧
    ((b.requestRetrain k).link k).reqSent = some b.tick ∧ (b.requestRetrain k).out = (b.control k 2 (b.link k).usable).out) ∧
  (∀ (s : State) (w : Writer) (k cap : Nat), k < 4 → s.b.takes w (0xF00100 + 0x40 * k) = true → s.b.mirrors = false →
    let r := Reg.ifvLinkCtrl k
    let old := s.b.readReg s.mem r
    let v := wput old Fld.ifvLinkCtrl_WIDTH_CAP cap
    let b := s.b.svcMark w false
    let written := b.regWrite w r v true true
    b.rejectReason w r v true true = 0 →
      exec (.widthCapWrite w k cap) s = .next { s with b := written.settled s.mem } ∧
      (s.b.linkState k = 2 → cap % 32 ≠ s.b.get r Fld.ifvLinkCtrl_WIDTH_CAP →
        written.get r Fld.ifvLinkCtrl_WIDTH_CAP = cap % 32 ∧ (written.link k).reqSent = some s.b.tick))

/-! The Transit bus.  -/

/-- From R103, R117, R121, R295, R297, R298, R307, R308 and R309: cycles that external masters address to the bridge, outside Dimmed,
while the bus runs. A cycle in no Transit region, or with a burst that TBL cannot name, changes nothing. A locked one is refused with
TERR_N and KIND 6. One that meets no entry is counted as a miss and not answered; one whose entry is not open is counted and refused with
TERR_N; an EXACT entry refuses a write that it would cut. Any other write is queued with the beats that are transferred and completed
while the queue has room, and waits for room otherwise; a first read starts a delayed read; an identical one finds it and a different one
is retried. A cycle that has waited TGT_WAIT is retried; a delayed read that nobody repeats within DELAYED_HOLD is discarded with KIND 7
and event 5. -/
def Obligations.TransitTarget : Prop :=
  (∀ (s : State) (t : TransitBurst) (n : Nat), s.b.trnOn = true → s.b.mode ≠ 9 →
    let b := s.b.busSeen
    exec (.transitWriteCycle t) s = .next { s with b := (b.trnWrite t).settled s.mem } ∧
    exec (.transitReadCycle t) s = .next { s with b := (b.trnRead t).settled s.mem } ∧
    exec (.tgtWaitExpire n) s = .next { s with b := (b.tgtWait n).settled s.mem } ∧
    exec (.delayedHoldExpire n) s = .next { s with b := (b.delayedHold n).settled s.mem }) ∧
  (∀ (b : Bridge) (t : TransitBurst),
    let q := b.eng.trn
    let fresh : Bool := (q.delayed.find? (fun d => d.slot = t.slot)).isNone
    let inside := burstLegal t = true ∧ (b.transitRegion t.addr).isSome = true
    (¬ inside → b.trnWrite t = b ∧ b.trnRead t = b) ∧
    (inside → t.locked = true → ∀ c ∈ [b.trnWrite t, b.trnRead t], c.out = b.out ++ [.trnErr t.slot] ∧
      c.get .trnErrLast Fld.trnErrLast_KIND = 6 ∧ c.eng.trn.wq = q.wq ∧ c.eng.trn.delayed = q.delayed) ∧
    (inside → t.locked = false → b.trnLookup t = none → ∀ c ∈ [(b.trnWrite t, true), (b.trnRead t, fresh)], c.2 = true →
      c.1.out = b.out ∧ c.1.eng.trn.wq = q.wq ∧ c.1.eng.trn.delayed = q.delayed ∧ c.1.event .cat 0 = true ∧
        c.1.get .catMissLast Fld.catMissLast_SOURCE = 2) ∧
    (∀ x, inside → t.locked = false → b.trnLookup t = some x → b.entOpen x.idx = false →
      (b.trnWrite t).eng.trn.wq = q.wq ∧ (b.trnWrite t).out = b.out ++ [.trnErr t.slot] ∧ (b.trnWrite t).event .cat 1 = true) ∧
    (∀ x, inside → t.locked = false → b.trnLookup t = some x → b.entOpen x.idx = true → x.get entWIDTH = 2 →
      1 < (b.trnSpans x t true).length → (b.trnWrite t).eng.trn.wq = q.wq ∧ (b.trnWrite t).out = b.out ++ [.trnErr t.slot]) ∧
    (∀ x, inside → t.locked = false → t.poisoned = false → b.trnLookup t = some x → b.entOpen x.idx = true → x.get entWIDTH ≠ 2 →
      let kept : Claimed := ⟨keptBurst t, x⟩
      (0 < transferred t → q.wq.length < 64 → q.pendingWait = [] →
        (b.trnWrite t).eng.trn.wq = q.wq ++ [(0, kept)] ∧ (b.trnWrite t).out = b.out ++ [.trnRdy t.slot]) ∧
      (0 < transferred t → (64 ≤ q.wq.length ∨ q.pendingWait ≠ []) →
        (b.trnWrite t).eng.trn.pendingWait = q.pendingWait ++ [(kept, b.tick)] ∧ (b.trnWrite t).out = b.out) ∧
      (fresh = true → ∃ d, (b.trnRead t).eng.trn.delayed.find? (fun d => d.slot = t.slot) = some d ∧ d.claim = ⟨t, x⟩ ∧ d.result = none ∧
        d.onBus = some b.tick ∧ (b.trnRead t).out = b.out)) ∧
    (∀ d, q.delayed.find? (fun d => d.slot = t.slot) = some d → inside → t.locked = false →
      (sameRead d.claim.burst t = true → (b.trnRead t).out = b.out ∧
        (b.trnRead t).eng.trn.delayed.find? (fun d => d.slot = t.slot) =
          some { d with claim := { d.claim with burst := t }, onBus := some b.tick }) ∧
      (sameRead d.claim.burst t = false → (b.trnLookup t).isSome = true →
        (b.trnRead t).out = b.out ++ [.trnRetry t.slot] ∧ (b.trnRead t).eng.trn.delayed = q.delayed))) ∧
  (∀ (b : Bridge) (n : Nat) (d : Delayed), b.eng.trn.delayed.find? (fun d => d.slot = n) = some d →
    let wait := b.get .trnTgtCfg Fld.trnTgtCfg_TGT_WAIT
    let hold := b.get .trnTgtCfg Fld.trnTgtCfg_DELAYED_HOLD
    (∀ t, d.onBus = some t → t + wait ≤ b.tick → b.eng.trn.pendingWait = [] → (b.tgtWait n).out = b.out ++ [.trnRetry n] ∧
      (b.tgtWait n).eng.trn.delayed.find? (fun d => d.slot = n) = some { d with onBus := none }) ∧
    (d.result.isSome = true → d.onBus = none → d.arrived + hold ≤ b.tick →
      (b.delayedHold n).eng.trn.delayed.find? (fun d => d.slot = n) = none ∧ (b.delayedHold n).event .trn 5 = true ∧
      (b.delayedHold n).get .trnErrLast Fld.trnErrLast_KIND = 7) ∧
    (d.result = none ∨ d.onBus ≠ none ∨ b.tick < d.arrived + hold → b.delayedHold n = b))

/-- From R26, R295, R298 to R301, R304 to R307, R311 and R476: arbitration and the bridge's own tenures, outside Dimmed, while the bus
runs. The highest rank that requests wins, where a TREQ_N ball with another function does not request. On an idle bus, with the bus's
shutters open and no request of the bridge's own, the choice is granted at once; in a tenure it waits for its end. An unused grant is
withdrawn; the data-phase wait of a beat and the grant-hold limit end what runs past them. Of the response lines at an edge TERR_N
governs, then TRTY_N, then TWAIT_N. TERR_N, an unclaimed address, an expired wait and a TRTY_N past the limit fail the bridge's request at
its failing beat; TRDY_N for its last beats ends it well. -/
def Obligations.TransitArbiter : Prop :=
  (∀ (s : State) (ext : BusEdge) (a : Nat) (w : BeatWait) (e : BurstEnd), s.b.trnOn = true → s.b.mode ≠ 9 →
    let b := s.b.busSeen
    exec (.arbitrationDecision ext) s = .next { s with b := (b.arbitrate ext).settled s.mem } ∧
    exec (.transitBurstDone e) s = .next { s with b := (b.burstEnd e).settled s.mem } ∧
    (s.b.held_ = true → exec (.transitUnclaimed a) s = .next { s with b := (b.unclaimed a).settled s.mem } ∧
      (s.b.eng.trn.addressed = false → s.b.slot1 = false → exec .grantUnused s = .next { s with b := b.trnIdle }) ∧
      (s.b.eng.trn.beatTick ≤ w.began → w.began + s.b.ladder 1 ≤ s.b.tick →
        exec (.dataPhaseWaitExpire w) s = .next { s with b := (b.waitExpired w.addr).settled s.mem }) ∧
      (s.b.tick < w.began + s.b.ladder 1 → exec (.dataPhaseWaitExpire w) s = .next { s with b := b.settled s.mem }) ∧
      (s.b.eng.trn.grantTick + s.b.ladder 2 ≤ s.b.tick →
        exec (.grantHoldExpire a) s = .next { s with b := (b.cutOff a).settled s.mem }) ∧
      (s.b.tick < s.b.eng.trn.grantTick + s.b.ladder 2 → exec (.grantHoldExpire a) s = .next { s with b := b.settled s.mem })) ∧
    (∃ t, exec .transitRetryGapExpire s = .next t ∧ t.b.regs = b.regs ∧ t.mem = s.mem ∧
      ∀ x ∈ t.b.eng.trn.queue, ∃ y ∈ s.b.eng.trn.queue, x.job = y.job ∧
        (∀ n, y.retryAt = some n → 50 * s.b.get .trnMasterCfg Fld.trnMasterCfg_RETRY_GAP ≤
          (s.b.tick - n) * s.b.get .trnBusCfg Fld.trnBusCfg_CLK_MHZ → x.retryAt = none))) ∧
  (∀ (b : Bridge) (req : Nat),
    (∀ w, b.trnPick req = some w → w < 8 ∧ req.testBit w = true ∧ ∀ n, n < 8 → req.testBit n = true → b.rank n ≤ b.rank w) ∧
    (b.trnPick req = none → ∀ n, n < 8 → req.testBit n = false)) ∧
  (∀ (b : Bridge) (ext : BitVec 8) (n : Nat), n < 8 →
    ((b.trnRequests ext).testBit n = true ↔ 1 ≤ n ∧ ext.getLsbD n = true ∧ b.ballFn (85 + n) = 0)) ∧
  (∀ (b : Bridge) (bus : BusEdge) (w : Nat), b.slot1 = false → b.get .trnBusCfg Fld.trnBusCfg_ARBITER = 1 → b.eng.trn.queue = [] →
    b.domsOpen [83, 84] = true → b.eng.trn.bursting = none → b.eng.trn.svcPending = false →
    let t := b.arbitrate bus
    (b.trnPick (b.trnRequests bus.req) = some w → w ≠ 0 → b.held_ = false →
      t.held_ = true ∧ t.holder = w ∧ t.out = b.out ++ [.trnGrant w] ∧ t.eng.trn.grantTick = b.tick ∧
      t.get .trnArbStat Fld.trnArbStat_DECISIONS =
        satAdd Fld.trnArbStat_DECISIONS.len (b.get .trnArbStat Fld.trnArbStat_DECISIONS) 1) ∧
    (b.trnPick (b.trnRequests bus.req) = some w → b.held_ = true → b.eng.trn.next = none → bus.ends = false → bus.lock = false →
      t.out = b.out ∧ t.holder = b.holder ∧ t.held_ = true ∧ t.eng.trn.next = some w) ∧
    (b.held_ = true → b.eng.trn.next = some w → w ≠ 0 → w < 8 → bus.ends = true → bus.lock = false →
      t.out = b.out ++ [.trnGrant w] ∧ t.holder = w ∧ t.held_ = true ∧ t.eng.trn.next = none) ∧
    (b.held_ = true → b.eng.trn.next = none → bus.ends = true → bus.lock = false → t.held_ = false ∧ t.out = b.out)) ∧
  (∀ (b : Bridge) (a : Nat), b.trnOnBus = none →
    let n := b.holder
    (b.unclaimed a).event .trn 1 = true ∧ (b.unclaimed a).get .trnErrLast Fld.trnErrLast_KIND = 1 ∧
    (b.unclaimed a).out = b.out ++ [.trnErr n] ∧
    (b.waitExpired a).event .trn 2 = true ∧ (b.waitExpired a).get .trnErrLast Fld.trnErrLast_KIND = 4 ∧
    (b.waitExpired a).out = b.out ++ [.trnErr n] ∧
    (b.cutOff a).event .trn 0 = true ∧ (b.cutOff a).held_ = false ∧ (b.cutOff a).get .trnCutoff Fld.trnCutoff_LAST = n ∧
    ((b.cutOff a).get .trnCutoff Fld.trnCutoff_SLOTS).testBit n = true ∧
    (b.cutOff a).get .trnCutoff Fld.trnCutoff_COUNT =
      satAdd Fld.trnCutoff_COUNT.len (b.get .trnCutoff Fld.trnCutoff_COUNT) 1) ∧
  (∀ (b : Bridge) (t : TrnJob) (d : List Byte) (n : Nat), b.trnOnBus = some t → b.eng.trn.next = none → t.locked = false →
    let at_ := fun (n : Nat) => { t.job with off := t.job.off + 8 * n }
    let failed := fun (c : Bridge) (n kind : Nat) (cause : Cause) => c.eng.done.getLast? = some (at_ n, .err cause) ∧
      c.get .trnErrLast Fld.trnErrLast_KIND = kind ∧ c.held_ = false
    (∀ k, t.job.op = .read k → t.beats ≤ t.done + t.nextBeats →
      (b.burstEnd (.trdy d)).eng.done = b.eng.done ++ [(t.job, .ok (t.data ++ d) false)] ∧ (b.burstEnd (.trdy d)).held_ = false) ∧
    failed (b.burstEnd (.terr n)) (t.done + n) 2 .transitError ∧
    (b.get .trnMasterCfg Fld.trnMasterCfg_RETRY_LIMIT ≤ t.retries → failed (b.burstEnd (.trty 0 [] false)) t.done 3 .transitError) ∧
    (0 < n → failed (b.burstEnd (.trty n d false)) (t.done + n) 5 .transitError) ∧
    failed (b.unclaimed n) t.done 1 .transitError ∧
    failed (b.waitExpired n) (max t.done ((n - t.job.addr) / 8)) 4 .transitTimeout ∧
    (∀ l e, burstOutcome t.nextBeats l 0 [] = some e → b.burstEnd (.edges l) = b.burstEnd e) ∧
    (∀ l, burstOutcome t.nextBeats l 0 [] = none → b.burstEnd (.edges l) = b)) ∧
  (∀ (n done : Nat) (d : List Byte) (e : RespEdge) (l : List RespEdge), done < n →
    (e.terr = true → burstOutcome n (e :: l) done d = some (.terr done)) ∧
    (e.terr = false → e.trty = true → burstOutcome n (e :: l) done d = some (.trty done d false)) ∧
    (e.terr = false → e.trty = false → (e.twait = true ∨ e.trdy = false) → burstOutcome n (e :: l) done d = burstOutcome n l done d) ∧
    (e.terr = false → e.trty = false → e.twait = false → e.trdy = true →
      burstOutcome n (e :: l) done d = burstOutcome n l (done + 1) (d ++ e.data)))

/-- From R305, R312 to R314, R319, R321, R476 and R477: the service port's cycle, the ranks, the interrupt lines and the TINT doorbells. A
written cycle is pending and shows BUSY. A written rank word ranks the slots. An accepted line, with the bus's shutters open outside
Dimmed, raises its route once: nothing for destination 0, its vector for a host destination that has it, and IRQ_DROP (event 3) where a
host destination has no such vector or instance or where the Meridian port is not ready. A LEVEL line that is still asserted is raised
again after REPEAT_US. A TIRQ_N ball with another function reads deasserted, and a TINT_N ball with one ignores both sources. The doorbell
bits are set and cleared by a director or the board controller. -/
def Obligations.TransitRegistersAndLines : Prop :=
  (∀ (s : State) (w : Writer) (a : Nat) (be : BitVec 8), s.b.takes w 0xD00140 = true →
    let b := s.b.svcMark w false
    ∀ c ∈ [(Instr.svcTransitRead w a be, s.svcCmdFull 1 a be), (.svcTransitWrite w a be, s.svcCmdFull 2 a be)],
      b.rejectReason w .trnSvcCmd c.2 true true = 0 → exec c.1 s = .next { s with b := (b.svcCmdWrite c.2 true true).settled s.mem }) ∧
  (∀ (b : Bridge) (v : Word), wget v Fld.trnSvcCmd_OP ≠ 0 →
    let t := b.svcCmdWrite v true true
    t.get .trnSvcCmd Fld.trnSvcCmd_BUSY = 1 ∧ t.get .trnSvcCmd Fld.trnSvcCmd_DONE = 0 ∧ t.get .trnSvcCmd Fld.trnSvcCmd_ERR = 0 ∧
    t.get .trnArbStat Fld.trnArbStat_EMERGENCY = 1 ∧ t.eng.trn.svcPending = true ∧
    ∃ y, t.eng.trn.queue = b.eng.trn.queue ++ [y] ∧ y.job.origin = .svc ∧ y.job.addr = wget v Fld.trnSvcCmd_ADDR ∧
      (wget v Fld.trnSvcCmd_OP = 1 → y.job.op = .read 8)) ∧
  (∀ (s : State) (w : Writer) (v : Word), s.b.takes w 0xD00110 = true →
    let b := s.b.svcMark w false
    b.rejectReason w .trnRanks v true true = 0 →
    exec (.ranksWrite w v) s = .next { s with b := (b.regWrite w .trnRanks v true true).settled s.mem } ∧
    (s.b.mirrors = false → ∀ n, n < 8 → (b.regWrite w .trnRanks v true true).rank n = (v >>> (3 * n)).toNat % 8)) ∧
  (∀ (s : State) (line : Nat),
    exec (.tirqAssert line) s = .next { s with b := (s.b.irqAssert line).settled s.mem } ∧
    exec (.tirqRepeat line) s = .next { s with b := (s.b.irqRepeat line).settled s.mem } ∧
    ∃ t, exec (.tirqDeassert line) s = .next t ∧ t.b.regs = s.b.regs ∧
      t.b.eng.trn.irq = s.b.eng.trn.irq.filter (fun p => p.1 ≠ line)) ∧
  (∀ (b : Bridge) (line : Nat), line < 16 → b.trnOn = true → b.mode ≠ 9 → b.domsOpen [83, 84] = true →
    let r := Reg.trnIrqRoute line
    let v := b.get r Fld.trnIrqRoute_VECTOR
    let a := b.get r Fld.trnIrqRoute_APERTURE
    let u := b.get r Fld.trnIrqRoute_VI
    let now := b.putTrn { b.eng.trn with irq := b.eng.trn.irq ++ [(line, b.tick)] }
    (b.eng.trn.irq.any (fun p => p.1 = line) = true ∨ b.ballFn (100 + line) ≠ 0 → b.irqAssert line = b) ∧
    (b.eng.trn.irq.any (fun p => p.1 = line) = false → b.ballFn (100 + line) = 0 →
      (b.get r Fld.trnIrqRoute_DEST = 0 → b.irqAssert line = now) ∧
      (b.get r Fld.trnIrqRoute_DEST = 1 → b.get r Fld.trnIrqRoute_DIRECTOR = 1 →
        (v < b.vectors a 0 → b.irqAssert line = now.raiseVector a 0 v) ∧
        (b.vectors a 0 ≤ v → (b.irqAssert line).event .trn 3 = true)) ∧
      (b.get r Fld.trnIrqRoute_DEST = 1 → b.get r Fld.trnIrqRoute_DIRECTOR ≠ 1 →
        (b.viLive u = true → v < b.viVectors u → b.irqAssert line = now.raiseVector (b.viAp u) (b.viVf u) v) ∧
        (b.viLive u = false ∨ b.viVectors u ≤ v → (b.irqAssert line).event .trn 3 = true)) ∧
      (b.get r Fld.trnIrqRoute_DEST = 2 → b.merReady (b.get r Fld.trnIrqRoute_PORT) = false → (b.irqAssert line).event .trn 3 = true)) ∧
    (∀ p, b.eng.trn.irq.find? (fun p => p.1 = line) = some p →
      let again := b.putTrn { b.eng.trn with irq := b.eng.trn.irq.map (fun q => if q.1 = line then (line, b.tick) else q) }
      let due := b.get r Fld.trnIrqRoute_LEVEL = 1 ∧ p.2 + 50 * b.get r Fld.trnIrqRoute_REPEAT_US ≤ b.tick
      (due → b.irqRepeat line = again.irqRoute line) ∧ (¬ due → b.irqRepeat line = b))) ∧
  (∀ (b : Bridge) (k : Nat), k < 4 → b.ballFn (116 + k) ≠ 0 → b.tintLines.testBit k = false) ∧
  (∀ (s : State) (w : Writer) (bits : BitVec 4), s.b.calm = true → s.b.authorised w .trnTintSet = true →
    (s.b.takes w 0xD00320 = true → ∃ t, exec (.tintSet w bits) s = .next t ∧ t.mem = s.mem ∧
      (∀ k, k < 4 → (k ∈ t.b.eng.trn.tint ↔ bits.getLsbD k = true ∨ k ∈ s.b.eng.trn.tint)) ∧
      (∀ r, Reg.reports r = false → t.b.raw r = s.b.raw r)) ∧
    (s.b.takes w 0xD00328 = true → ∃ t, exec (.tintClr w bits) s = .next t ∧ t.mem = s.mem ∧
      (∀ k, k < 4 → (k ∈ t.b.eng.trn.tint ↔ bits.getLsbD k = false ∧ k ∈ s.b.eng.trn.tint)) ∧
      (∀ r, Reg.reports r = false → t.b.raw r = s.b.raw r)))

/-! The pair.  -/

/-- From R373, R374, R376, R378, R379, R381, R386 and R389: mirror packets that arrive while the bridge hears its partner. A HELLO that
does not fit leaves the pair unformed, with LINK_LOST's event and LAST_CAUSE 4; one that fits forms it and starts a resync. Outside a
resync a CHANGE is given to the journal, which asks the archive at rank 2, and is acknowledged once journalled; a CREATE of a home
instance that this bridge holds in reserve is a handback: acknowledged, and the yield ends; any other CREATE that this bridge refuses is
answered with its code. A checkpoint batch takes what it confirms from the pending changes and counts itself (CKPT_SEQ, CKPT_AGE 0); a
RETRACT discards pending changes from its sequence on. An ACK with a code, outside a patch, ends its change and shows the code to its
writer; an ACK of no change in flight does nothing. From R377, R378, R381 and R430: what the mirror engine sends. In M6 a checkpoint batch
after a change has been applied carries CONFIRM, the last change applied; with no live instance and nothing newly applied it sends
nothing. When the oldest change in flight, outside a patch, has waited for its ACK for the mirror ack timeout (level 7), it and every
later one leave the sender, are counted, and RETRACT names the first. -/
def Obligations.MirrorTraffic : Prop :=
  ((∀ (s : State), s.b.hearsPartner = true →
     (∀ h, exec (.hello h) s = .next { s with b := (s.b.hello h).settled s.mem }) ∧
     (∀ n c, exec (.change n c) s = .next { s with b := (s.b.change n c).settled s.mem }) ∧
     (∀ n l, exec (.ckpt n l) s = .next { s with b := (s.b.ckptRx n l).settled s.mem }) ∧
     (∀ q l, exec (.logpkt q l) s = .next { s with b := s.b.logpkt q l }) ∧
     (∀ p, exec (.logptr p) s = .next { s with b := s.b.journal (.ptr p) }) ∧
     (∀ n, exec (.resyncEnd n) s = .next { s with b := (s.b.resyncEndRx n).settled s.mem }) ∧
     (∀ n, exec (.retract n) s = .next { s with b := s.b.retract n }) ∧
     (∀ n c, exec (.ack n c) s = .next ({ s with b := s.b.ackRx s.mem n c } : State).settled.resume)) ∧
   (∀ (b : Bridge) (h : Hello), b.paired = true →
     let fits := h.part = b.part.code ∧ h.pairId ≠ decide (b.pairId = 1) ∧
       (h.homeLast < b.homeRange.1 ∨ b.homeRange.2 < h.homeFirst)
     (¬ fits → (b.hello h).pst Fld.ifvPairStat_FORMED = 0 ∧ (b.hello h).pst Fld.ifvPairStat_LAST_CAUSE = 4 ∧
       (b.hello h).event .ifv 7 = true ∧ (b.hello h).eng.reserve = b.eng.reserve) ∧
     (fits → h.holdsPartner = true → (b.hello h).pst Fld.ifvPairStat_FORMED = 1 ∧
       (b.hello h).pst Fld.ifvPairStat_RESYNCING = 1 ∧ (b.hello h).event .ifv 6 = true)) ∧
   (∀ (b : Bridge) (n : Nat) (r : DeltaRec), b.paired = true →
     b.pst Fld.ifvPairStat_RESYNCING = 0 ∨ b.eng.pair.resyncGot = true →
     ((∀ k a d x, r ≠ .create k a d x) → b.change n (.delta r) = b.journal (.change n (.delta r))) ∧
     (∀ k a d x, r = .create k a d x →
       b.eng.reserve.find? (fun y =>
         y.v = wget x ⟨0, 11⟩ && b.homeRange.1 ≤ wget x ⟨0, 11⟩ && wget x ⟨0, 11⟩ ≤ b.homeRange.2) = none →
       (b.reserveCheck k a d x = 0 → b.change n (.delta r) = b.journal (.change n (.delta r))) ∧
       (b.reserveCheck k a d x ≠ 0 → b.change n (.delta r) = b.sendAck n (b.reserveCheck k a d x))) ∧
     (∀ k a d x y, r = .create k a d x →
       b.eng.reserve.find? (fun y =>
         y.v = wget x ⟨0, 11⟩ && b.homeRange.1 ≤ wget x ⟨0, 11⟩ && wget x ⟨0, 11⟩ ≤ b.homeRange.2) = some y →
       (b.change n (.delta r)).pst Fld.ifvPairStat_YIELDED = 0 ∧ ∀ z ∈ (b.change n (.delta r)).eng.reserve, z.v ≠ y.v)) ∧
   (∀ (b : Bridge) (x : JournalItem), ∃ r, (b.journal x).archReqs = b.archReqs ++ [r] ∧ r.rank = 2 ∧ r.user = 2 ∧
     (b.journal x).eng.pair.journal = b.eng.pair.journal ++ [(r.id, x)] ∧ (b.journal x).out = b.out ∧
     (b.journal x).eng.reserve = b.eng.reserve) ∧
   (∀ (b : Bridge) (id n : Nat) (c : MirrorChange), b.eng.pair.journal.find? (fun x => x.1 = id) = some (id, .change n c) →
     (b.journalled id true).eng.pair.pendingIn = b.eng.pair.pendingIn ++ [(n, c)] ∧
     (b.journalled id true).eng.pair.tx = b.eng.pair.tx ++ [mirrorPacket 3 0 [wmk [(⟨0, 32⟩, n), (⟨32, 8⟩, 0)]]]) ∧
   (∀ (b : Bridge) (n : Nat) (l : List CkptChan),
     (b.ckptRx n l).eng.pair.pendingIn = b.eng.pair.pendingIn.filter (fun x => n < x.1) ∧
     (b.ckptRx n l).eng.pair.rxConfirm = n ∧ (b.ckptRx n l).get .ifvJournal Fld.ifvJournal_CKPT_AGE = 0 ∧
     (b.ckptRx n l).get .ifvJournal Fld.ifvJournal_CKPT_SEQ = (b.get .ifvJournal Fld.ifvJournal_CKPT_SEQ + 1) % 2 ^ 32 ∧
     (b.retract n).eng.pair.pendingIn = b.eng.pair.pendingIn.filter (fun x => x.1 < n)) ∧
   (∀ (b : Bridge) (m : List Host.Cell) (n code : Nat) (x : OutChange), b.eng.pair.outgoing.find? (fun x => x.seq = n) = some x →
     code ≠ 0 → b.inPatch x = false → b.eng.pair.queued = [] →
     (b.ackRx m n code).eng.pair.outgoing = b.eng.pair.outgoing.filter (fun y => y.seq ≠ n) ∧
     (∀ w ap vf, x.action = some (.create w ap vf) →
       (b.ackRx m n code).get (.viCmdStatus w.bank) Fld.viCmdStatus_CODE = code % 256 ∧
       (b.ackRx m n code).get (.viCmdStatus w.bank) Fld.viCmdStatus_DONE = 1) ∧
     (∀ w i, x.action = some (.catCommit w i) →
       (b.ackRx m n code).get (.catCommitStatus w.bank) Fld.catCommitStatus_CODE = 8)) ∧
   (∀ (b : Bridge) (m : List Host.Cell) (n : Nat), b.eng.pair.outgoing.find? (fun x => x.seq = n) = none → b.ackRx m n 0 = b)) ∧
  ((∀ s : State, s.b.mirrors = true → exec .checkpointSend s = .next { s with b := s.b.sendCheckpoint } ∧
     (s.b.eng.pair.confirmSent ≠ s.b.eng.pair.lastApplied →
       s.b.sendCheckpoint.eng.pair.confirmSent = s.b.eng.pair.lastApplied ∧
       ∃ ws l, s.b.sendCheckpoint.eng.pair.tx =
         s.b.eng.pair.tx ++ mirrorPacket 4 0 (BitVec.ofNat 64 s.b.eng.pair.lastApplied :: ws) :: l) ∧
     (s.b.eng.pair.confirmSent = s.b.eng.pair.lastApplied → s.b.liveVis = [] → s.b.sendCheckpoint = s.b)) ∧
   (∀ (s : State) (x : OutChange), s.b.mode ≠ 11 → s.b.ackLate = some x → s.b.inPatch x = false → s.b.eng.pair.queued = [] →
     let n := (s.b.eng.pair.outgoing.filter (fun y => x.seq ≤ y.seq)).length
     let t := s.b.retractFrom x.seq true
     x.sent + s.b.ladder 7 ≤ s.b.tick ∧
     exec .mirrorAckTimeout s = .next ({ s with b := t } : State).settled.resume ∧
     t.eng.pair.outgoing = s.b.eng.pair.outgoing.filter (fun y => y.seq < x.seq) ∧ t.event .ifv 13 = true ∧
     t.get .ifvMirrorStat Fld.ifvMirrorStat_TIMEOUTS =
       satAdd Fld.ifvMirrorStat_TIMEOUTS.len (s.b.get .ifvMirrorStat Fld.ifvMirrorStat_TIMEOUTS) n ∧
     t.eng.pair.tx = s.b.eng.pair.tx ++ [mirrorPacket 8 0 [BitVec.ofNat 64 x.seq]]) ∧
   (∀ s : State, s.b.ackLate = none → exec .mirrorAckTimeout s = .next s.settled.resume))

/-- From R316, R382 to R386: heartbeat, TCLK and fence. An edge in time keeps the heartbeat alive and changes no register; at HB_LOSS it
is lost. 2 us without a TCLK edge show PAIR_ID 1 that TCLK is not seen, and it decides; after FENCE the bridge decides. The island holds
PAIR_HB_OUT low when the strobe or the fabric clock stops, and then floats Transit. With the link and the heartbeat there nothing is
muted; with the link down alone M6 becomes M8, isolated, with its event; with both lost the bridge mutes, PAIR_ID 0 starts the fence, and
PAIR_ID 1 that sees TCLK yields. That PAIR_ID 0 takes arbitration back when its partner's TCLK is not seen is the model's choice (log
entry 123). -/
def Obligations.HeartbeatAndDecisions : Prop :=
  (∀ s : State,
    let b := s.b
    (2 ≤ b.mode → exec .heartbeatEdge s = .next { s with b := b.hbEdge.settled s.mem }) ∧
    (b.mode < 2 → exec .heartbeatEdge s = .next s) ∧
    (b.hbDue = true → exec .heartbeatLost s = .next { s with b := b.hbLost.settled s.mem }) ∧
    (b.hbDue = false → exec .heartbeatLost s = .next s) ∧
    (b.paired = true → b.pairId = 1 → b.pst Fld.ifvPairStat_TCLK_SEEN = 1 →
      (b.eng.pair.tclkEdge + 100 ≤ b.tick → exec .tclkNotSeen s =
        .next { s with b := ((b.set .ifvPairStat Fld.ifvPairStat_TCLK_SEEN 0).pairDecide).settled s.mem }) ∧
      (b.tick < b.eng.pair.tclkEdge + 100 → exec .tclkNotSeen s = .next s)) ∧
    (b.paired = true → b.pairId = 0 → b.pst Fld.ifvPairStat_TCLK_SEEN = 1 → b.get .trnBusCfg Fld.trnBusCfg_SLOT1 = 1 →
      b.eng.pair.tclkEdge + 100 ≤ b.tick → exec .tclkNotSeen s =
        .next { s with b := ((b.set .ifvPairStat Fld.ifvPairStat_TCLK_SEEN 0).takeTransit).settled s.mem }) ∧
    (∀ t, b.eng.pair.fenceStart = some t →
      (t + b.get .ifvPairCtrl Fld.ifvPairCtrl_FENCE ≤ b.tick → exec .fenceExpire s = .next { s with b := b.pairDecide.settled s.mem }) ∧
      (b.tick < t + b.get .ifvPairCtrl Fld.ifvPairCtrl_FENCE → exec .fenceExpire s = .next s)) ∧
    (b.paired = true → b.mode ≠ 9 → ∃ t, exec .mirrorStrobeTimeout s = .next t ∧ t.b.eng.pair.hbOut = false ∧
      t.b.regs = b.regs ∧ t.mem = s.mem) ∧
    (2 ≤ b.mode → b.mode ≠ 9 → ∃ t, exec .fabricClockStop s = .next t ∧ t.b.eng.pair.hbOut = false ∧
      t.b.pins.transitFloat = true ∧ t.b.regs = b.regs ∧ t.mem = s.mem)) ∧
  (∀ b : Bridge, b.paired = true → b.hbDue = false → b.pst Fld.ifvPairStat_HB_ALIVE = 1 →
    b.hbEdge.regs = b.regs ∧ b.hbEdge.eng.pair.hbEdge = b.tick) ∧
  (∀ b : Bridge, b.hbDue = true → b.mode = 9 → b.hbLost.pst Fld.ifvPairStat_HB_ALIVE = 0) ∧
  (∀ b : Bridge, b.paired = true → 5 ≤ b.mode → b.mode ≠ 9 → b.mode ≠ 11 →
    (b.bothLost = false → b.ifvDown = false → b.pairDecide.pst Fld.ifvPairStat_MUTED = 0 ∧ b.pairDecide.mode = b.mode ∧
      b.pairDecide.eng.pair.fenceStart = none) ∧
    (b.bothLost = false → b.ifvDown = true → b.mode = 6 → b.pairDecide.mode = 8 ∧ b.pairDecide.event .ifv 7 = true ∧
      b.pairDecide.pst Fld.ifvPairStat_ISOLATED = 1) ∧
    (b.bothLost = true → b.pairDecide.pst Fld.ifvPairStat_MUTED = 1) ∧
    (b.bothLost = true → b.pairId = 0 → b.eng.pair.fenceStart = none → 0 < b.get .ifvPairCtrl Fld.ifvPairCtrl_FENCE →
      b.pairDecide.eng.pair.fenceStart = some b.tick) ∧
    (b.bothLost = true → b.pairId = 1 → b.pst Fld.ifvPairStat_TCLK_SEEN = 1 → b.pst Fld.ifvPairStat_YIELDED = 0 → b.mode ≠ 10 →
      b.pairDecide.pst Fld.ifvPairStat_YIELDED = 1 ∧ b.pairDecide.event .ifv 12 = true ∧ b.pairDecide.mode = 8))

/-- From R316, R387 and R389: ADOPT acts only where the bridge would adopt, and is else rejected with STATE; it ends in M8 with both its
events, LAST_CAUSE 1, nothing pending, the unconfirmed changes counted, and on PAIR_ID 1 arbitration taken. HANDBACK starts a reset with
trigger 6 of each adopted instance that lives, is in no reset and has idle channels. A writer that IFV_PAIR_CMD does not authorise is
rejected with WRITER. -/
def Obligations.AdoptAndHandback : Prop :=
  (∀ (s : State) (w : Writer), s.b.takes w 0xF00310 = true → s.b.authorised w .ifvPairCmd = true →
    let b := s.b.svcMark w false
    (b.wouldAdopt = true → exec (.adopt w) s = .next { s with b := b.adopt.settled s.mem }) ∧
    (b.wouldAdopt = false → s.b.calm = true → ∃ t, exec (.adopt w) s = .next t ∧
      t.b.get (.blkReject .ifv) Fld.blkReject_REASON = 10 ∧ t.b.mode = s.b.mode ∧ t.b.eng.reserve = s.b.eng.reserve) ∧
    exec (.handback w) s = .next { s with b := b.handback.settled s.mem }) ∧
  (∀ (s : State) (w : Writer), s.b.takes w 0xF00310 = true → s.b.authorised w .ifvPairCmd = false → s.b.calm = true →
    ∀ c ∈ [Instr.adopt w, .handback w], ∃ t, exec c s = .next t ∧
      t.b.get (.blkReject .ifv) Fld.blkReject_REASON = 5 ∧ t.b.eng.pair = s.b.eng.pair) ∧
  (∀ b : Bridge, b.mode ≠ 7 → b.mode ≠ 11 → b.adopt.mode = 8 ∧ b.adopt.event .ifv 10 = true ∧ b.adopt.event .ifv 11 = true ∧
    b.adopt.pst Fld.ifvPairStat_LAST_CAUSE = 1 ∧ b.adopt.eng.pair.pendingIn = [] ∧
    b.adopt.get .ifvMirrorStat Fld.ifvMirrorStat_UNCONFIRMED = min b.eng.pair.pendingIn.length 65535 ∧
    (b.pairId = 1 → b.adopt.get .trnBusCfg Fld.trnBusCfg_ARBITER = 1)) ∧
  (∀ b : Bridge, (∀ v ∈ b.eng.pair.adopted, b.viLive v = true → b.inst? v = none) →
    ∀ v ∈ b.eng.pair.adopted, b.viLive v = true → (∀ c ∈ b.viChanList v, b.chState c = 0) →
      ((b.handback.inst? v).map (fun x => x.trigger)) = some 6)

/-! Dimmed, Park, Service, domains and calibration.  -/

/-- From R394, R395, R397, R401, R402 and R413: DIM, PARK, SERVICE and RELEASE through PWR_MODE_CMD. DIM from M5 and M8 enters Dimmed when
no reason blocks it, and else raises DIM_REFUSED; from another mode it is rejected with STATE too (log entry 74). Entry brings every link
down and the archive to self-refresh, and keeps the mode in RETURN. PARK from M5, M8 and M9 with no reason but MODE enters Dimmed parked,
with its event, the alert and Transit floated; parked already, it does nothing. SERVICE from M5, M6 and M8 keeps the mode in RETURN, and
RELEASE of an unpaired bridge goes back to it; outside M10 it is rejected with STATE. SERVICE and RELEASE are the board controller's
alone. -/
def Obligations.PowerModeCommands : Prop :=
  (∀ (s : State) (w : Writer), s.b.takes w 0x01000108 = true →
    let b := s.b.svcMark w false
    (s.b.authorised w .pwrModeCmd = true →
      exec (.dim w) s = .next { s with b := (b.dimCmd w).settled s.mem } ∧
      exec (.park w) s = .next { s with b := (b.parkCmd w).settled s.mem }) ∧
    (w = .svc →
      exec (.service w) s = .next { s with b := (b.serviceCmd w).settled s.mem } ∧
      exec (.release w) s = .next ({ s with b := (b.releaseCmd w).settled s.mem } : State).resume) ∧
    (w ≠ .svc →
      exec (.service w) s = .next { s with b := (b.rejectBy w 0x01000108 false 5).settled s.mem } ∧
      exec (.release w) s = .next ({ s with b := (b.rejectBy w 0x01000108 false 5).settled s.mem } : State).resume)) ∧
  (∀ s : State, s.b.mode = 9 → exec (.park .svc) s = .next { s with b := s.b.parkCmd .svc }) ∧
  (∀ (b : Bridge) (w : Writer),
    let asleep := fun (t : Bridge) => t.mode = 9 ∧ (∀ k, k < 5 → t.linkState k = 0) ∧
      t.get .arcStat Fld.arcStat_SELF_REFRESH = 1 ∧ t.get .arcStat Fld.arcStat_READY = 0
    (b.mode ≠ 5 → b.mode ≠ 8 → b.dimCmd w = (b.rejectBy w 0x01000108 false 10).raise .pwr 1) ∧
    (b.mode = 5 ∨ b.mode = 8 → b.dimBlock ≠ 0 → b.dimCmd w = b.raise .pwr 1) ∧
    (b.mode = 5 ∨ b.mode = 8 → b.dimBlock = 0 → asleep (b.dimCmd w) ∧ (b.dimCmd w).event .pwr 0 = true ∧
      (b.dimCmd w).get .pwrMode Fld.pwrMode_RETURN = b.mode) ∧
    (b.get .pwrMode Fld.pwrMode_PARKED = 1 → b.parkCmd w = b) ∧
    (b.mode = 5 ∨ b.mode = 8 ∨ b.mode = 9 → b.dimBlock ≤ 1 → b.get .pwrMode Fld.pwrMode_PARKED = 0 →
      asleep (b.parkCmd w) ∧ (b.parkCmd w).event .pwr 3 = true ∧ (b.parkCmd w).get .pwrMode Fld.pwrMode_PARKED = 1 ∧
      (b.parkCmd w).svcAlert = true ∧ (b.parkCmd w).pins.transitFloat = true) ∧
    (b.mode = 5 ∨ b.mode = 6 ∨ b.mode = 8 → (b.serviceCmd w).mode = 10 ∧ (b.serviceCmd w).event .pwr 0 = true ∧
      (b.serviceCmd w).get .pwrMode Fld.pwrMode_RETURN = b.mode) ∧
    (b.mode = 10 → b.paired = false → (b.releaseCmd w).mode = b.get .pwrMode Fld.pwrMode_RETURN) ∧
    (b.mode ≠ 10 → b.releaseCmd w = b.rejectBy w 0x01000108 false 10))

/-- From R395, R399, R401 and R414: with AUTO and no reason against it, Dimmed is entered once the window has passed and not before. The
first wake source records itself, raises WAKE and brings the archive back; a later one, and any while parked, does nothing. The wake is
complete after 100 us at the latest, and on an unpaired bridge leads back to the mode of RETURN; what waited for it then runs. The alarm
asserts WAKE_N in M1 at its tick with EN, and does nothing else. -/
def Obligations.DimmedAndWake : Prop :=
  (∀ (s : State) (t : Nat), s.b.get .pwrDimCfg Fld.pwrDimCfg_AUTO = 1 → s.b.dimBlock = 0 → s.b.eng.dimSince = some t →
    (t + s.b.get .pwrDimCfg Fld.pwrDimCfg_DIM_IDLE ≤ s.b.tick → ∃ u, exec .dimIdleExpire s = .next u ∧ u.b.mode = 9 ∧
      u.b.get .pwrMode Fld.pwrMode_RETURN = s.b.mode ∧ (∀ k, k < 5 → u.b.linkState k = 0) ∧ u.mem = s.mem) ∧
    (s.b.tick < t + s.b.get .pwrDimCfg Fld.pwrDimCfg_DIM_IDLE → exec .dimIdleExpire s = .next s)) ∧
  (∀ (s : State) (n : Nat), 1 ≤ n → n ≤ 8 → s.b.mode = 9 →
    (s.b.get .pwrMode Fld.pwrMode_PARKED = 0 → s.b.eng.wakeStart = none → ∃ t, exec (.wake n) s = .next t ∧
      t.b.get .pwrMode Fld.pwrMode_WAKE_SRC = n ∧ t.b.event .pwr 2 = true ∧ t.b.eng.wakeStart = some s.b.tick ∧
      t.b.get .arcStat Fld.arcStat_READY = 1 ∧ t.b.get .arcStat Fld.arcStat_SELF_REFRESH = 0 ∧ t.mem = s.mem) ∧
    (s.b.get .pwrMode Fld.pwrMode_PARKED = 1 ∨ s.b.eng.wakeStart.isSome → exec (.wake n) s = .next s)) ∧
  (∀ s : State,
    (s.b.wakeDone = true → exec .wakeComplete s = .next (({ s with b := s.b.finishWake } : State).settled).resume) ∧
    (s.b.wakeDone = false → exec .wakeComplete s = .next s)) ∧
  (∀ b : Bridge, b.mode = 9 →
    (∀ t, b.eng.wakeStart = some t → t + 5000 ≤ b.tick → b.wakeDone = true) ∧ (b.eng.wakeStart = none → b.wakeDone = false) ∧
    (b.paired = false → b.get .pwrMode Fld.pwrMode_RETURN ≠ 9 → b.finishWake.mode = b.get .pwrMode Fld.pwrMode_RETURN ∧
      b.finishWake.event .pwr 0 = true ∧ b.finishWake.eng.wakeStart = none)) ∧
  (∀ s : State, ∃ t, exec .siderealAlarm s = .next t ∧ t.b.regs = s.b.regs ∧ t.mem = s.mem ∧
    (s.b.mode = 1 → s.b.get .pwrSidWake Fld.pwrSidWake_EN = 1 → s.b.get .pwrSidWake Fld.pwrSidWake_ALARM = s.b.tick →
      t.b.pins.wakeN = true) ∧
    (s.b.mode ≠ 1 ∨ s.b.get .pwrSidWake Fld.pwrSidWake_EN = 0 ∨ s.b.get .pwrSidWake Fld.pwrSidWake_ALARM ≠ s.b.tick → t = s))

/-- From R408: calibration. It starts with AUTO once PERIOD_MS has passed and ends 10 ms later, and neither sooner; with the chosen
reference absent it reports a failure and leaves PWR_SID_CAL as it was; else it reports success with CALIBRATED, and TRIM takes a step
from -25 to 25, of 2,500 ppm each, that leaves at most 1,250 ppm unless it is at an end. -/
def Obligations.Calibration : Prop :=
  (∀ s : State, s.b.calibrates = true → s.b.get .pwrSidCal Fld.pwrSidCal_AUTO = 1 → s.b.eng.calStart = none →
    let due := s.b.eng.calPeriod + 50000 * s.b.get .pwrSidCal Fld.pwrSidCal_PERIOD_MS
    (due ≤ s.b.tick → ∃ t, exec .calibrationPeriod s = .next t ∧ t.b.eng.calStart = some s.b.tick ∧
      t.b.eng.calPeriod = s.b.tick ∧ t.b.regs = s.b.regs ∧ t.mem = s.mem) ∧
    (s.b.tick < due → exec .calibrationPeriod s = .next s)) ∧
  (∀ (s : State) (t n : Nat), s.b.calibrates = true → s.b.eng.calStart = some t →
    (s.b.tick < t + 500000 → exec (.calibrationDone (some n)) s = .next s) ∧
    (t + 500000 ≤ s.b.tick →
      (s.b.calRef = none → ∃ u, exec (.calibrationDone (some n)) s = .next u ∧ u.b.event .pwr 5 = true ∧
        u.b.raw .pwrSidCal = s.b.raw .pwrSidCal ∧ u.b.eng.calStart = none ∧ u.mem = s.mem) ∧
      (∀ k, s.b.calRef = some k → 0 < n → ∃ u, exec (.calibrationDone (some n)) s = .next u ∧ u.b.event .pwr 4 = true ∧
        u.b.get .pwrSidCal Fld.pwrSidCal_CALIBRATED = 1 ∧ u.b.eng.calStart = none ∧ u.mem = s.mem ∧
        (let old := (BitVec.ofNat 6 (s.b.get .pwrSidCal Fld.pwrSidCal_TRIM)).toInt
         let new := (BitVec.ofNat 6 (u.b.get .pwrSidCal Fld.pwrSidCal_TRIM)).toInt
         new ≤ 25 ∧ -25 ≤ new ∧ new = (trimOf (10 * refNominal k) n old).1) ∧
        (∀ f ∈ [Fld.pwrSidCal_AUTO, Fld.pwrSidCal_REF, Fld.pwrSidCal_PERIOD_MS],
          u.b.get .pwrSidCal f = s.b.get .pwrSidCal f)))) ∧
  (∀ (nominal n : Nat) (trim : Int), 0 < n →
    let e : Int := ((nominal : Int) - (n : Int)) * 1000000 / (n : Int)
    let r := trimOf nominal n trim
    r.2 = e + 2500 * (r.1 - trim) ∧ (-25 < r.1 → r.1 < 25 → -1250 ≤ r.2 ∧ r.2 ≤ 1250))

/-! Faults, Quarantine and the eyepiece.  -/

/-- From R441, R442 and R489: a fatal internal error freezes the bridge in Quarantine with its cause, its tick, the structure and index of
cause 1, its fault record's event, the links down, Transit floated and the heartbeat low; in Quarantine it sets LATER and nothing else.
The board controller enters it with cause 6 and sets HOLD; a director's write is rejected. The thermal trip sets its pin alone. -/
def Obligations.FatalErrorsAndQuarantine : Prop :=
  (∀ (s : State) (c st i : Nat), 1 ≤ c → c ≤ 5 →
    let x := if c = 1 then (st, i) else (0, 0)
    exec (.fatalInternalError c st i) s = .next { s with b := s.b.fatal c x.1 x.2 }) ∧
  (∀ (b : Bridge) (c st i : Nat), 2 ≤ b.mode → b.mode ≠ 11 → b.heldReset = false → c < 8 → st < 256 → i < 2 ^ 40 →
    let t := b.fatal c st i
    t.mode = 11 ∧ t.get .fltQuarStat Fld.fltQuarStat_CAUSE = c ∧ t.get .fltQuarStat Fld.fltQuarStat_STRUCT = st ∧
    t.get .fltQuarStat Fld.fltQuarStat_INDEX = i ∧ t.get .fltQuarTick Fld.fltQuarTick_TICK = b.tick % 2 ^ 63 ∧
    (∀ k, k < 5 → t.linkState k = 0) ∧ t.pins.transitFloat = true ∧ t.eng.pair.hbOut = false ∧ t.event .pwr 0 = true ∧
    t.event .flt 0 = true ∧ t.svcAlert = true ∧ t.ledger = b.ledger ∧ t.pbs = b.pbs ∧ t.eng.merTags = b.eng.merTags ∧
    t.eng.chans = b.eng.chans) ∧
  (∀ (b : Bridge) (c st i : Nat), b.mode = 11 → b.fatal c st i = b.set .fltQuarStat Fld.fltQuarStat_LATER 1) ∧
  (∀ (s : State) (w : Writer) (v : Bool),
    (s.b.mode = 11 ∧ s.b.writerThere w = true) ∨ s.b.takes w 0x01100200 = true →
    let b := s.b.svcMark w false
    (w = .svc → exec (.enter w) s = .next { s with b := (b.fatal 6 0 0).settled s.mem } ∧
      exec (.hold w v) s = .next { s with b := (b.set .fltQuarCtrl Fld.fltQuarCtrl_HOLD (bit v)).settled s.mem }) ∧
    (w ≠ .svc → ∀ c ∈ [Instr.enter w, .hold w v],
      exec c s = .next { s with b := (b.rejectBy w 0x01100200 false 5).settled s.mem })) ∧
  (∀ s : State, 1 ≤ s.b.mode → ∃ t, exec .thermtrip s = .next t ∧ t.b.pins.thermtrip = true ∧ t.b.regs = s.b.regs ∧
    t.b.eng = s.b.eng ∧ t.b.out = s.b.out ∧ t.mem = s.mem)

/-- From R26, R435, R441, R444, R445 and R446: the eyepiece of each writer, and the count of corrected errors. An accepted write of
EYE_SEL, in Quarantine too, starts a capture: the record of the selected index and the count of its structure, BUSY with the tick, and no
other register changes but those that settling reports through. The capture ends with DONE once the eyepiece's domain is open; one that
waits for the archive goes on. A read of EYE_REC word 7 answers it, ends the capture and with AUTO_INC starts that of the next index while
there is one. -/
def Obligations.EyepieceCaptures : Prop :=
  (∀ (s : State) (w : Writer) (v : Word), 
    s.b.takes w (Reg.eyeSel w.bank).offset = true ∨ (s.b.mode = 11 ∧ s.b.writerThere w = true) → s.b.calm = true →
    let n := w.bank
    let st := wget v Fld.eyeSel_STRUCT
    let i := wget v Fld.eyeSel_INDEX
    let b := ((s.b.svcMark w false).store (.eyeSel n) v true true).needDom 92
    (s.b.svcMark w false).rejectReason w (.eyeSel n) v true true = 0 → ∃ t, exec (.eyeSel w v) s = .next t ∧
      t.b.get (.eyeSel n) Fld.eyeSel_STRUCT = st ∧ t.b.get (.eyeSel n) Fld.eyeSel_INDEX = i ∧
      t.b.get (.eyeSel n) Fld.eyeSel_AUTO_INC = wget v Fld.eyeSel_AUTO_INC ∧
      (∀ k, k < 8 → t.b.raw (.eyeRec n k) = (b.eyeRecord st i false).getD k 0) ∧
      t.b.get (.eyeInfo n) Fld.eyeInfo_COUNT = eyeCount s.b.part st % 2 ^ Fld.eyeInfo_COUNT.len ∧
      t.b.get (.eyeStatus n) Fld.eyeStatus_BUSY = 1 ∧ t.b.get (.eyeStatus n) Fld.eyeStatus_DONE = 0 ∧
      t.b.get (.eyeStatus n) Fld.eyeStatus_TICK = s.b.tick31 % 2 ^ 31 ∧ t.b.eyeBusy n = true ∧ t.mem = s.mem ∧
      (∀ r, (∀ k, r ≠ .eyeRec n k) → r ≠ .eyeSel n → r ≠ .eyeInfo n → r ≠ .eyeStatus n → Reg.reports r = false →
        t.b.raw r = s.b.raw r)) ∧
  (∀ (s : State) (w : Writer),
    let n := w.bank
    let waits := s.b.archReqs.any (fun r => r.user = 4 && r.arg = n)
    (waits = false → s.b.domsOpen [92] = true → exec (.eyeCaptureDone w) s = .next { s with b := (s.b.eyeDone n).settled s.mem }) ∧
    (waits = true → exec (.eyeCaptureDone w) s = .next { s with b := s.b.settled s.mem })) ∧
  (∀ (b : Bridge) (n : Nat), (b.eyeBusy n = false → b.eyeDone n = b) ∧
    (b.eyeBusy n = true → (b.eyeDone n).get (.eyeStatus n) Fld.eyeStatus_DONE = 1 ∧
      (b.eyeDone n).get (.eyeStatus n) Fld.eyeStatus_BUSY = 0 ∧ (b.eyeDone n).eyeBusy n = false ∧
      ((b.raw (.eyeRec n 0)).getLsbD 11 = true → (b.eyeDone n).event .eye 0 = true) ∧
      ∀ r, r ≠ .eyeStatus n → Reg.reports r = false → (b.eyeDone n).raw r = b.raw r)) ∧
  (∀ (s : State) (w : Writer), 4 ≤ s.b.mode → s.b.mode ≤ 8 → s.b.heldReset = false → s.b.writerThere w = true → s.b.calm = true →
    let n := w.bank
    let i := s.b.get (.eyeSel n) Fld.eyeSel_INDEX
    let more : Bool := s.b.get (.eyeSel n) Fld.eyeSel_AUTO_INC = 1 &&
      decide (i + 1 < eyeCount s.b.part (s.b.get (.eyeSel n) Fld.eyeSel_STRUCT))
    ∃ t l, exec (.eyeRecAutoIncRead w) s = .next t ∧ t.mem = s.mem ∧
      t.b.out = s.b.out ++ .regData (s.b.readReg s.mem (.eyeRec n 7)) :: l ∧
      (more = true → t.b.get (.eyeSel n) Fld.eyeSel_INDEX = (i + 1) % 2 ^ 40 ∧ t.b.eyeBusy n = true) ∧
      (more = false → t.b.raw (.eyeSel n) = s.b.raw (.eyeSel n) ∧ t.b.eyeBusy n = false)) ∧
  (∀ (s : State) (st : Nat), 2 ≤ s.b.mode → st < 256 → ∃ t, exec (.eccCorrected st) s = .next t ∧
    t.b.get .fltEcc Fld.fltEcc_CORRECTED = satAdd Fld.fltEcc_CORRECTED.len (s.b.get .fltEcc Fld.fltEcc_CORRECTED) 1 ∧
    t.b.get .fltEcc Fld.fltEcc_LAST_STRUCT = st ∧ t.b.event .flt 2 = true ∧
    t.b.get .fltEcc Fld.fltEcc_ARCHIVE_UNCORR = s.b.get .fltEcc Fld.fltEcc_ARCHIVE_UNCORR ∧ t.mem = s.mem)
end

