-- ==== Sys2Proof/Laws/Assoc.lean ====
section
/-!
SUPPORT. The laws of sparse maps: what a read gives after a write, at the key and elsewhere; the same for lists of
structures by key and for the fields of a word.
-/
namespace Sys2Proof.Machine

variable {α β : Type} [DecidableEq α]

theorem assocGet_insert_self (lt : α → α → Bool) (d v : β) (k : α) (l : List (α × β)) (h : ∀ p ∈ l, p.1 ≠ k) :
    assocGet d k (assocInsert lt k v l) = v := by
  induction l with
  | nil => simp [assocInsert, assocGet]
  | cons p l ih =>
    have hp := h p (by simp)
    simp only [assocInsert]
    split
    · simp [assocGet]
    · simp [assocGet, hp, ih (fun q hq => h q (by simp [hq]))]

theorem assocGet_insert_ne (lt : α → α → Bool) (d v : β) (k k' : α) (l : List (α × β)) (h : k' ≠ k) :
    assocGet d k' (assocInsert lt k v l) = assocGet d k' l := by
  induction l with
  | nil => simp [assocInsert, assocGet, Ne.symm h]
  | cons p l ih =>
    simp only [assocInsert]
    split
    · simp [assocGet, Ne.symm h]
    · simp [assocGet, ih]

theorem assocGet_filter_ne (d : β) (k k' : α) (l : List (α × β)) (h : k' ≠ k) :
    assocGet d k' (l.filter (fun p => p.1 ≠ k)) = assocGet d k' l := by
  induction l with
  | nil => rfl
  | cons p l ih =>
    by_cases hp : p.1 = k
    · have hk : p.1 ≠ k' := fun e => h (e ▸ hp)
      simpa [List.filter, hp, assocGet, Ne.symm h] using ih
    · have : (decide (p.1 ≠ k)) = true := by simp [hp]
      simp only [List.filter, this, assocGet]
      split
      · rfl
      · exact ih

theorem assocGet_filter_self (d : β) (k : α) (l : List (α × β)) :
    assocGet d k (l.filter (fun p => p.1 ≠ k)) = d := by
  induction l with
  | nil => rfl
  | cons p l ih => by_cases hp : p.1 = k <;> simp_all [List.filter, assocGet]

theorem assocGet_assocPut_self [DecidableEq β] (lt : α → α → Bool) (d v : β) (k : α) (l : List (α × β)) :
    assocGet d k (assocPut lt d k v l) = v := by
  unfold assocPut
  by_cases h : v = d
  · simp only [h, if_true]; exact assocGet_filter_self d k l
  · simp only [h, if_false]
    exact assocGet_insert_self lt d v k _ (fun p hp => by simpa using (List.mem_filter.mp hp).2)

theorem assocGet_assocPut_ne [DecidableEq β] (lt : α → α → Bool) (d e v : β) (k k' : α) (l : List (α × β)) (h : k' ≠ k) :
    assocGet e k' (assocPut lt d k v l) = assocGet e k' l := by
  unfold assocPut
  by_cases hv : v = d
  · simp only [hv, if_true]; exact assocGet_filter_ne e k k' l h
  · simp only [hv, if_false]
    rw [assocGet_insert_ne lt e v k k' _ h, assocGet_filter_ne e k k' l h]

theorem alGet_alPut_self (d v : β) (k : Nat) (l : List (Nat × β)) : alGet d k (alPut k v l) = v := by
  unfold alGet alPut
  exact assocGet_insert_self _ d v k _ (fun p hp => by simpa using (List.mem_filter.mp hp).2)

theorem alGet_alPut_ne (d v : β) (k k' : Nat) (l : List (Nat × β)) (h : k' ≠ k) :
    alGet d k' (alPut k v l) = alGet d k' l := by
  unfold alGet alPut
  rw [assocGet_insert_ne _ d v k k' _ h, assocGet_filter_ne d k k' l h]

/-- A list of structures, after one is put at the key that `p` says. -/
theorem find?_listPut_self {γ : Type} (p : γ → Bool) (x : γ) (l : List γ) (hx : p x = true) :
    (listPut p x l).find? p = some x := by
  unfold listPut
  split
  · rename_i h
    induction l with
    | nil => simp at h
    | cons y l ih =>
      by_cases hy : p y = true
      · simp [hy, hx]
      · simp only [List.map, hy, Bool.false_eq_true, if_false, List.find?]
        exact ih (by simpa [hy] using h)
  · rename_i h
    induction l with
    | nil => simp [hx]
    | cons y l ih =>
      simp only [List.any_cons, Bool.or_eq_true, not_or] at h
      have hy : p y = false := by simpa using h.1
      simp [hy, ih h.2]

/-- A structure at another key is found as before. -/
theorem find?_listPut_ne {γ : Type} (p q : γ → Bool) (x : γ) (l : List γ) (hx : q x = false)
    (h : ∀ y, p y = true → q y = false) : (listPut p x l).find? q = l.find? q := by
  unfold listPut
  split
  · have key : ∀ m : List γ, (m.map (fun y => if p y then x else y)).find? q = m.find? q := by
      intro m
      induction m with
      | nil => rfl
      | cons y m ih =>
        by_cases hy : p y = true
        · simp [List.find?, hy, hx, h y hy, ih]
        · simp only [List.map, hy, Bool.false_eq_true, if_false, List.find?, ih]
    exact key l
  · induction l with
    | nil => simp [hx]
    | cons y l ih => simp_all [List.find?_append, List.find?]

/-! Fields of a word. -/

/-- A field reads what was written to it, modulo its size. -/
theorem wget_wput_self (w : Word) (f : Fld) (v : Nat) (h : f.lo + f.len ≤ 64) : wget (wput w f v) f = v % 2 ^ f.len := by
  have hlt : v % 2 ^ f.len < 2 ^ f.len := Nat.mod_lt _ (Nat.two_pow_pos _)
  unfold wget wput Fld.mask
  have : (((w &&& ~~~(((BitVec.allOnes f.len).setWidth 64) <<< f.lo)) |||
      (((BitVec.ofNat f.len v).setWidth 64) <<< f.lo)).extractLsb' f.lo f.len) = BitVec.ofNat f.len v := by
    apply BitVec.eq_of_getLsbD_eq
    intro i hi
    have h1 : f.lo + i < 64 := by omega
    simp only [BitVec.getLsbD_extractLsb', hi, h1, decide_true, Bool.true_and, BitVec.getLsbD_or, BitVec.getLsbD_and,
      BitVec.getLsbD_not, BitVec.getLsbD_shiftLeft, BitVec.getLsbD_setWidth, BitVec.getLsbD_allOnes]
    have h2 : f.lo + i - f.lo = i := by omega
    have h3 : ¬ (f.lo + i < f.lo) := by omega
    have h4 : i < 64 := by omega
    simp [h2, hi, h1, h3, h4]
  rw [this]; simp

/-- Two fields with no bit in common. -/
def Fld.apart (f g : Fld) : Prop := f.lo + f.len ≤ g.lo ∨ g.lo + g.len ≤ f.lo

/-- A write of one field leaves a field apart from it. -/
theorem wget_wput_apart (w : Word) (f g : Fld) (v : Nat) (h : f.apart g) : wget (wput w f v) g = wget w g := by
  unfold wget wput Fld.mask
  congr 1
  apply BitVec.eq_of_getLsbD_eq
  intro i hi
  rcases h with h | h <;>
    simp only [BitVec.getLsbD_extractLsb', hi, decide_true, Bool.true_and, BitVec.getLsbD_or, BitVec.getLsbD_and,
      BitVec.getLsbD_not, BitVec.getLsbD_shiftLeft, BitVec.getLsbD_setWidth, BitVec.getLsbD_allOnes, BitVec.getLsbD_ofNat]
  · have h3 : ¬ (g.lo + i - f.lo < f.len) := by omega
    simpa [h3] using fun hb => BitVec.lt_of_getLsbD hb
  · have h3 : g.lo + i < f.lo := by omega
    simpa [h3] using fun hb => BitVec.lt_of_getLsbD hb

end Sys2Proof.Machine
end

