-- ==== Sys2Proof/Laws/Memory.lean ====
section
/-!
SUPPORT. The archive memory: reads after writes, and the canonical form under every memory operation.
-/
namespace Sys2Proof.Machine

/-- A byte reads as it was written. -/
@[simp] theorem memGet_memPut_self (m : List Host.Cell) (a : Nat) (v : Byte) : memGet (memPut m a v) a = v :=
  assocGet_assocPut_self _ _ _ _ _

/-- A write leaves every other byte. -/
theorem memGet_memPut_ne (m : List Host.Cell) (a c : Nat) (v : Byte) (h : c ≠ a) : memGet (memPut m a v) c = memGet m c :=
  assocGet_assocPut_ne _ _ _ _ _ _ _ h

/-- A write of several bytes leaves every byte outside them. -/
theorem memGet_memWrite_outside (l : List (Option Byte)) : ∀ (m : List Host.Cell) (a c : Nat),
    (c < a ∨ a + l.length ≤ c) → memGet (memWrite m a l) c = memGet m c := by
  induction l with
  | nil => intro m a c _; rfl
  | cons x l ih =>
    intro m a c h
    have h' : c < a + 1 ∨ a + 1 + l.length ≤ c := by simp only [List.length_cons] at h; omega
    have hc : c ≠ a := by simp only [List.length_cons] at h; omega
    cases x with
    | none => exact ih m (a + 1) c h'
    | some v => exact (ih (memPut m a v) (a + 1) c h').trans (memGet_memPut_ne m a c v hc)

/-- A byte that a write names reads as written; one that it does not name is left. -/
theorem memGet_memWrite_at (l : List (Option Byte)) : ∀ (m : List Host.Cell) (a i : Nat), i < l.length →
    memGet (memWrite m a l) (a + i) = ((l[i]?).getD none).getD (memGet m (a + i)) := by
  induction l with
  | nil => intro m a i h; simp at h
  | cons x l ih =>
    intro m a i h
    cases i with
    | zero =>
      cases x with
      | none => simpa [memWrite] using memGet_memWrite_outside l m (a + 1) a (by omega)
      | some v => simpa [memWrite] using memGet_memWrite_outside l (memPut m a v) (a + 1) a (by omega)
    | succ i =>
      have hi : i < l.length := by simpa using h
      have e : a + (i + 1) = a + 1 + i := by omega
      cases x with
      | none => simpa [e, memWrite] using ih m (a + 1) i hi
      | some v =>
        have := ih (memPut m a v) (a + 1) i hi
        rw [memGet_memPut_ne m a (a + 1 + i) v (by omega)] at this
        simpa [e, memWrite] using this

theorem memWf_cons (a : Nat) (v : Byte) (l : List Host.Cell) :
    memWf ((a, v) :: l) = true ↔ v ≠ memDefault ∧ (∀ p ∈ l, a < p.1) ∧ memWf l = true := by
  simp [memWf, and_assoc, bne_iff_ne]

/-- Removing cells keeps the form. -/
theorem memWf_filter (p : Host.Cell → Bool) : ∀ m : List Host.Cell, memWf m = true → memWf (m.filter p) = true
  | [], _ => rfl
  | (a, v) :: l, h => by
    obtain ⟨h1, h2, h3⟩ := (memWf_cons a v l).mp h
    have ih := memWf_filter p l h3
    cases hp : p (a, v) <;> simp only [List.filter, hp]
    · exact ih
    · exact (memWf_cons a v _).mpr ⟨h1, fun q hq => h2 q (List.mem_filter.mp hq).1, ih⟩

theorem mem_assocInsert (lt : Nat → Nat → Bool) (a : Nat) (v : Byte) : ∀ (l : List Host.Cell) (p : Host.Cell),
    p ∈ assocInsert lt a v l → p = (a, v) ∨ p ∈ l
  | [], p, h => by simpa [assocInsert] using h
  | (c, w) :: l, p, h => by
    simp only [assocInsert] at h
    split at h
    · simpa using h
    · rcases List.mem_cons.mp h with h | h
      · exact .inr (by simp [h])
      · rcases mem_assocInsert lt a v l p h with h | h
        · exact .inl h
        · exact .inr (List.mem_cons_of_mem _ h)

/-- Inserting a byte other than the default at an address that is not listed keeps the form. -/
theorem memWf_insert (a : Nat) (v : Byte) (hv : v ≠ memDefault) : ∀ m : List Host.Cell, memWf m = true →
    (∀ p ∈ m, p.1 ≠ a) → memWf (assocInsert (fun x y => decide (x < y)) a v m) = true
  | [], _, _ => by simp [assocInsert, memWf, hv]
  | (c, w) :: l, h, hn => by
    obtain ⟨h1, h2, h3⟩ := (memWf_cons c w l).mp h
    have hc : c ≠ a := hn (c, w) (by simp)
    simp only [assocInsert, decide_eq_true_eq]
    split
    · rename_i hlt
      refine (memWf_cons a v _).mpr ⟨hv, ?_, h⟩
      intro p hp
      rcases List.mem_cons.mp hp with rfl | hp
      · exact hlt
      · exact Nat.lt_trans hlt (h2 p hp)
    · rename_i hlt
      refine (memWf_cons c w _).mpr ⟨h1, ?_, memWf_insert a v hv l h3 (fun p hp => hn p (by simp [hp]))⟩
      intro p hp
      rcases mem_assocInsert _ a v l p hp with rfl | hp
      · simp only; omega
      · exact h2 p hp

/-- A byte write keeps the form. -/
theorem memWf_memPut (m : List Host.Cell) (a : Nat) (v : Byte) (h : memWf m = true) : memWf (memPut m a v) = true := by
  unfold memPut assocPut
  by_cases hv : v = memDefault
  · simp only [hv, if_true]; exact memWf_filter _ m h
  · simp only [hv, if_false]
    exact memWf_insert a v hv _ (memWf_filter _ m h) (fun p hp => by simpa using (List.mem_filter.mp hp).2)

/-- A write of several bytes keeps the form. -/
theorem memWf_memWrite : ∀ (l : List (Option Byte)) (m : List Host.Cell) (a : Nat), memWf m = true →
    memWf (memWrite m a l) = true
  | [], _, _, h => h
  | none :: l, m, a, h => memWf_memWrite l m (a + 1) h
  | some v :: l, m, a, h => memWf_memWrite l (memPut m a v) (a + 1) (memWf_memPut m a v h)

end Sys2Proof.Machine
end

