-- ==== Sys2Proof/Laws/State.lean ====
section
/-!
SUPPORT. What each write of the state leaves alone: one equation per field per operation, each true by definition, so that
no proof unfolds a record update.
-/
namespace Sys2Proof.Machine

open Sys2Proof

variable (b : Bridge)

/-! `Bridge.put` writes regs alone. -/

@[simp] theorem Bridge.put_part (r : Reg) (w : Word) : (b.put r w).part = b.part := rfl
@[simp] theorem Bridge.put_authFuse (r : Reg) (w : Word) : (b.put r w).authFuse = b.authFuse := rfl
@[simp] theorem Bridge.put_tick (r : Reg) (w : Word) : (b.put r w).tick = b.tick := rfl
@[simp] theorem Bridge.put_freeCtr (r : Reg) (w : Word) : (b.put r w).freeCtr = b.freeCtr := rfl
@[simp] theorem Bridge.put_nextId (r : Reg) (w : Word) : (b.put r w).nextId = b.nextId := rfl
@[simp] theorem Bridge.put_out (r : Reg) (w : Word) : (b.put r w).out = b.out := rfl
@[simp] theorem Bridge.put_overridden (r : Reg) (w : Word) : (b.put r w).overridden = b.overridden := rfl
@[simp] theorem Bridge.put_cfg (r : Reg) (w : Word) : (b.put r w).cfg = b.cfg := rfl
@[simp] theorem Bridge.put_msix (r : Reg) (w : Word) : (b.put r w).msix = b.msix := rfl
@[simp] theorem Bridge.put_pendVec (r : Reg) (w : Word) : (b.put r w).pendVec = b.pendVec := rfl
@[simp] theorem Bridge.put_pins (r : Reg) (w : Word) : (b.put r w).pins = b.pins := rfl
@[simp] theorem Bridge.put_kept (r : Reg) (w : Word) : (b.put r w).kept = b.kept := rfl
@[simp] theorem Bridge.put_alm (r : Reg) (w : Word) : (b.put r w).alm = b.alm := rfl
@[simp] theorem Bridge.put_archReqs (r : Reg) (w : Word) : (b.put r w).archReqs = b.archReqs := rfl
@[simp] theorem Bridge.put_ledger (r : Reg) (w : Word) : (b.put r w).ledger = b.ledger := rfl
@[simp] theorem Bridge.put_freed (r : Reg) (w : Word) : (b.put r w).freed = b.freed := rfl
@[simp] theorem Bridge.put_pbs (r : Reg) (w : Word) : (b.put r w).pbs = b.pbs := rfl
@[simp] theorem Bridge.put_proving (r : Reg) (w : Word) : (b.put r w).proving = b.proving := rfl
@[simp] theorem Bridge.put_reqs (r : Reg) (w : Word) : (b.put r w).reqs = b.reqs := rfl
@[simp] theorem Bridge.put_hostReads (r : Reg) (w : Word) : (b.put r w).hostReads = b.hostReads := rfl
@[simp] theorem Bridge.put_ups (r : Reg) (w : Word) : (b.put r w).ups = b.ups := rfl
@[simp] theorem Bridge.put_barriers (r : Reg) (w : Word) : (b.put r w).barriers = b.barriers := rfl
@[simp] theorem Bridge.put_barSeq (r : Reg) (w : Word) : (b.put r w).barSeq = b.barSeq := rfl
@[simp] theorem Bridge.put_barStat (r : Reg) (w : Word) : (b.put r w).barStat = b.barStat := rfl
@[simp] theorem Bridge.put_eng (r : Reg) (w : Word) : (b.put r w).eng = b.eng := rfl

/-! `Bridge.set` writes regs alone. -/

@[simp] theorem Bridge.set_part (r : Reg) (f : Fld) (v : Nat) : (b.set r f v).part = b.part := rfl
@[simp] theorem Bridge.set_authFuse (r : Reg) (f : Fld) (v : Nat) : (b.set r f v).authFuse = b.authFuse := rfl
@[simp] theorem Bridge.set_tick (r : Reg) (f : Fld) (v : Nat) : (b.set r f v).tick = b.tick := rfl
@[simp] theorem Bridge.set_freeCtr (r : Reg) (f : Fld) (v : Nat) : (b.set r f v).freeCtr = b.freeCtr := rfl
@[simp] theorem Bridge.set_nextId (r : Reg) (f : Fld) (v : Nat) : (b.set r f v).nextId = b.nextId := rfl
@[simp] theorem Bridge.set_out (r : Reg) (f : Fld) (v : Nat) : (b.set r f v).out = b.out := rfl
@[simp] theorem Bridge.set_overridden (r : Reg) (f : Fld) (v : Nat) : (b.set r f v).overridden = b.overridden := rfl
@[simp] theorem Bridge.set_cfg (r : Reg) (f : Fld) (v : Nat) : (b.set r f v).cfg = b.cfg := rfl
@[simp] theorem Bridge.set_msix (r : Reg) (f : Fld) (v : Nat) : (b.set r f v).msix = b.msix := rfl
@[simp] theorem Bridge.set_pendVec (r : Reg) (f : Fld) (v : Nat) : (b.set r f v).pendVec = b.pendVec := rfl
@[simp] theorem Bridge.set_pins (r : Reg) (f : Fld) (v : Nat) : (b.set r f v).pins = b.pins := rfl
@[simp] theorem Bridge.set_kept (r : Reg) (f : Fld) (v : Nat) : (b.set r f v).kept = b.kept := rfl
@[simp] theorem Bridge.set_alm (r : Reg) (f : Fld) (v : Nat) : (b.set r f v).alm = b.alm := rfl
@[simp] theorem Bridge.set_archReqs (r : Reg) (f : Fld) (v : Nat) : (b.set r f v).archReqs = b.archReqs := rfl
@[simp] theorem Bridge.set_ledger (r : Reg) (f : Fld) (v : Nat) : (b.set r f v).ledger = b.ledger := rfl
@[simp] theorem Bridge.set_freed (r : Reg) (f : Fld) (v : Nat) : (b.set r f v).freed = b.freed := rfl
@[simp] theorem Bridge.set_pbs (r : Reg) (f : Fld) (v : Nat) : (b.set r f v).pbs = b.pbs := rfl
@[simp] theorem Bridge.set_proving (r : Reg) (f : Fld) (v : Nat) : (b.set r f v).proving = b.proving := rfl
@[simp] theorem Bridge.set_reqs (r : Reg) (f : Fld) (v : Nat) : (b.set r f v).reqs = b.reqs := rfl
@[simp] theorem Bridge.set_hostReads (r : Reg) (f : Fld) (v : Nat) : (b.set r f v).hostReads = b.hostReads := rfl
@[simp] theorem Bridge.set_ups (r : Reg) (f : Fld) (v : Nat) : (b.set r f v).ups = b.ups := rfl
@[simp] theorem Bridge.set_barriers (r : Reg) (f : Fld) (v : Nat) : (b.set r f v).barriers = b.barriers := rfl
@[simp] theorem Bridge.set_barSeq (r : Reg) (f : Fld) (v : Nat) : (b.set r f v).barSeq = b.barSeq := rfl
@[simp] theorem Bridge.set_barStat (r : Reg) (f : Fld) (v : Nat) : (b.set r f v).barStat = b.barStat := rfl
@[simp] theorem Bridge.set_eng (r : Reg) (f : Fld) (v : Nat) : (b.set r f v).eng = b.eng := rfl

/-! `Bridge.sets` writes regs alone. -/

@[simp] theorem Bridge.sets_part (r : Reg) (l : List (Fld × Nat)) : (b.sets r l).part = b.part := rfl
@[simp] theorem Bridge.sets_authFuse (r : Reg) (l : List (Fld × Nat)) : (b.sets r l).authFuse = b.authFuse := rfl
@[simp] theorem Bridge.sets_tick (r : Reg) (l : List (Fld × Nat)) : (b.sets r l).tick = b.tick := rfl
@[simp] theorem Bridge.sets_freeCtr (r : Reg) (l : List (Fld × Nat)) : (b.sets r l).freeCtr = b.freeCtr := rfl
@[simp] theorem Bridge.sets_nextId (r : Reg) (l : List (Fld × Nat)) : (b.sets r l).nextId = b.nextId := rfl
@[simp] theorem Bridge.sets_out (r : Reg) (l : List (Fld × Nat)) : (b.sets r l).out = b.out := rfl
@[simp] theorem Bridge.sets_overridden (r : Reg) (l : List (Fld × Nat)) : (b.sets r l).overridden = b.overridden := rfl
@[simp] theorem Bridge.sets_cfg (r : Reg) (l : List (Fld × Nat)) : (b.sets r l).cfg = b.cfg := rfl
@[simp] theorem Bridge.sets_msix (r : Reg) (l : List (Fld × Nat)) : (b.sets r l).msix = b.msix := rfl
@[simp] theorem Bridge.sets_pendVec (r : Reg) (l : List (Fld × Nat)) : (b.sets r l).pendVec = b.pendVec := rfl
@[simp] theorem Bridge.sets_pins (r : Reg) (l : List (Fld × Nat)) : (b.sets r l).pins = b.pins := rfl
@[simp] theorem Bridge.sets_kept (r : Reg) (l : List (Fld × Nat)) : (b.sets r l).kept = b.kept := rfl
@[simp] theorem Bridge.sets_alm (r : Reg) (l : List (Fld × Nat)) : (b.sets r l).alm = b.alm := rfl
@[simp] theorem Bridge.sets_archReqs (r : Reg) (l : List (Fld × Nat)) : (b.sets r l).archReqs = b.archReqs := rfl
@[simp] theorem Bridge.sets_ledger (r : Reg) (l : List (Fld × Nat)) : (b.sets r l).ledger = b.ledger := rfl
@[simp] theorem Bridge.sets_freed (r : Reg) (l : List (Fld × Nat)) : (b.sets r l).freed = b.freed := rfl
@[simp] theorem Bridge.sets_pbs (r : Reg) (l : List (Fld × Nat)) : (b.sets r l).pbs = b.pbs := rfl
@[simp] theorem Bridge.sets_proving (r : Reg) (l : List (Fld × Nat)) : (b.sets r l).proving = b.proving := rfl
@[simp] theorem Bridge.sets_reqs (r : Reg) (l : List (Fld × Nat)) : (b.sets r l).reqs = b.reqs := rfl
@[simp] theorem Bridge.sets_hostReads (r : Reg) (l : List (Fld × Nat)) : (b.sets r l).hostReads = b.hostReads := rfl
@[simp] theorem Bridge.sets_ups (r : Reg) (l : List (Fld × Nat)) : (b.sets r l).ups = b.ups := rfl
@[simp] theorem Bridge.sets_barriers (r : Reg) (l : List (Fld × Nat)) : (b.sets r l).barriers = b.barriers := rfl
@[simp] theorem Bridge.sets_barSeq (r : Reg) (l : List (Fld × Nat)) : (b.sets r l).barSeq = b.barSeq := rfl
@[simp] theorem Bridge.sets_barStat (r : Reg) (l : List (Fld × Nat)) : (b.sets r l).barStat = b.barStat := rfl
@[simp] theorem Bridge.sets_eng (r : Reg) (l : List (Fld × Nat)) : (b.sets r l).eng = b.eng := rfl

/-! `Bridge.bump` writes regs alone. -/

@[simp] theorem Bridge.bump_part (r : Reg) (f : Fld) (n : Nat) : (b.bump r f n).part = b.part := rfl
@[simp] theorem Bridge.bump_authFuse (r : Reg) (f : Fld) (n : Nat) : (b.bump r f n).authFuse = b.authFuse := rfl
@[simp] theorem Bridge.bump_tick (r : Reg) (f : Fld) (n : Nat) : (b.bump r f n).tick = b.tick := rfl
@[simp] theorem Bridge.bump_freeCtr (r : Reg) (f : Fld) (n : Nat) : (b.bump r f n).freeCtr = b.freeCtr := rfl
@[simp] theorem Bridge.bump_nextId (r : Reg) (f : Fld) (n : Nat) : (b.bump r f n).nextId = b.nextId := rfl
@[simp] theorem Bridge.bump_out (r : Reg) (f : Fld) (n : Nat) : (b.bump r f n).out = b.out := rfl
@[simp] theorem Bridge.bump_overridden (r : Reg) (f : Fld) (n : Nat) : (b.bump r f n).overridden = b.overridden := rfl
@[simp] theorem Bridge.bump_cfg (r : Reg) (f : Fld) (n : Nat) : (b.bump r f n).cfg = b.cfg := rfl
@[simp] theorem Bridge.bump_msix (r : Reg) (f : Fld) (n : Nat) : (b.bump r f n).msix = b.msix := rfl
@[simp] theorem Bridge.bump_pendVec (r : Reg) (f : Fld) (n : Nat) : (b.bump r f n).pendVec = b.pendVec := rfl
@[simp] theorem Bridge.bump_pins (r : Reg) (f : Fld) (n : Nat) : (b.bump r f n).pins = b.pins := rfl
@[simp] theorem Bridge.bump_kept (r : Reg) (f : Fld) (n : Nat) : (b.bump r f n).kept = b.kept := rfl
@[simp] theorem Bridge.bump_alm (r : Reg) (f : Fld) (n : Nat) : (b.bump r f n).alm = b.alm := rfl
@[simp] theorem Bridge.bump_archReqs (r : Reg) (f : Fld) (n : Nat) : (b.bump r f n).archReqs = b.archReqs := rfl
@[simp] theorem Bridge.bump_ledger (r : Reg) (f : Fld) (n : Nat) : (b.bump r f n).ledger = b.ledger := rfl
@[simp] theorem Bridge.bump_freed (r : Reg) (f : Fld) (n : Nat) : (b.bump r f n).freed = b.freed := rfl
@[simp] theorem Bridge.bump_pbs (r : Reg) (f : Fld) (n : Nat) : (b.bump r f n).pbs = b.pbs := rfl
@[simp] theorem Bridge.bump_proving (r : Reg) (f : Fld) (n : Nat) : (b.bump r f n).proving = b.proving := rfl
@[simp] theorem Bridge.bump_reqs (r : Reg) (f : Fld) (n : Nat) : (b.bump r f n).reqs = b.reqs := rfl
@[simp] theorem Bridge.bump_hostReads (r : Reg) (f : Fld) (n : Nat) : (b.bump r f n).hostReads = b.hostReads := rfl
@[simp] theorem Bridge.bump_ups (r : Reg) (f : Fld) (n : Nat) : (b.bump r f n).ups = b.ups := rfl
@[simp] theorem Bridge.bump_barriers (r : Reg) (f : Fld) (n : Nat) : (b.bump r f n).barriers = b.barriers := rfl
@[simp] theorem Bridge.bump_barSeq (r : Reg) (f : Fld) (n : Nat) : (b.bump r f n).barSeq = b.barSeq := rfl
@[simp] theorem Bridge.bump_barStat (r : Reg) (f : Fld) (n : Nat) : (b.bump r f n).barStat = b.barStat := rfl
@[simp] theorem Bridge.bump_eng (r : Reg) (f : Fld) (n : Nat) : (b.bump r f n).eng = b.eng := rfl

/-! `Bridge.inc` writes regs alone. -/

@[simp] theorem Bridge.inc_part (r : Reg) (f : Fld) (n : Nat) : (b.inc r f n).part = b.part := rfl
@[simp] theorem Bridge.inc_authFuse (r : Reg) (f : Fld) (n : Nat) : (b.inc r f n).authFuse = b.authFuse := rfl
@[simp] theorem Bridge.inc_tick (r : Reg) (f : Fld) (n : Nat) : (b.inc r f n).tick = b.tick := rfl
@[simp] theorem Bridge.inc_freeCtr (r : Reg) (f : Fld) (n : Nat) : (b.inc r f n).freeCtr = b.freeCtr := rfl
@[simp] theorem Bridge.inc_nextId (r : Reg) (f : Fld) (n : Nat) : (b.inc r f n).nextId = b.nextId := rfl
@[simp] theorem Bridge.inc_out (r : Reg) (f : Fld) (n : Nat) : (b.inc r f n).out = b.out := rfl
@[simp] theorem Bridge.inc_overridden (r : Reg) (f : Fld) (n : Nat) : (b.inc r f n).overridden = b.overridden := rfl
@[simp] theorem Bridge.inc_cfg (r : Reg) (f : Fld) (n : Nat) : (b.inc r f n).cfg = b.cfg := rfl
@[simp] theorem Bridge.inc_msix (r : Reg) (f : Fld) (n : Nat) : (b.inc r f n).msix = b.msix := rfl
@[simp] theorem Bridge.inc_pendVec (r : Reg) (f : Fld) (n : Nat) : (b.inc r f n).pendVec = b.pendVec := rfl
@[simp] theorem Bridge.inc_pins (r : Reg) (f : Fld) (n : Nat) : (b.inc r f n).pins = b.pins := rfl
@[simp] theorem Bridge.inc_kept (r : Reg) (f : Fld) (n : Nat) : (b.inc r f n).kept = b.kept := rfl
@[simp] theorem Bridge.inc_alm (r : Reg) (f : Fld) (n : Nat) : (b.inc r f n).alm = b.alm := rfl
@[simp] theorem Bridge.inc_archReqs (r : Reg) (f : Fld) (n : Nat) : (b.inc r f n).archReqs = b.archReqs := rfl
@[simp] theorem Bridge.inc_ledger (r : Reg) (f : Fld) (n : Nat) : (b.inc r f n).ledger = b.ledger := rfl
@[simp] theorem Bridge.inc_freed (r : Reg) (f : Fld) (n : Nat) : (b.inc r f n).freed = b.freed := rfl
@[simp] theorem Bridge.inc_pbs (r : Reg) (f : Fld) (n : Nat) : (b.inc r f n).pbs = b.pbs := rfl
@[simp] theorem Bridge.inc_proving (r : Reg) (f : Fld) (n : Nat) : (b.inc r f n).proving = b.proving := rfl
@[simp] theorem Bridge.inc_reqs (r : Reg) (f : Fld) (n : Nat) : (b.inc r f n).reqs = b.reqs := rfl
@[simp] theorem Bridge.inc_hostReads (r : Reg) (f : Fld) (n : Nat) : (b.inc r f n).hostReads = b.hostReads := rfl
@[simp] theorem Bridge.inc_ups (r : Reg) (f : Fld) (n : Nat) : (b.inc r f n).ups = b.ups := rfl
@[simp] theorem Bridge.inc_barriers (r : Reg) (f : Fld) (n : Nat) : (b.inc r f n).barriers = b.barriers := rfl
@[simp] theorem Bridge.inc_barSeq (r : Reg) (f : Fld) (n : Nat) : (b.inc r f n).barSeq = b.barSeq := rfl
@[simp] theorem Bridge.inc_barStat (r : Reg) (f : Fld) (n : Nat) : (b.inc r f n).barStat = b.barStat := rfl
@[simp] theorem Bridge.inc_eng (r : Reg) (f : Fld) (n : Nat) : (b.inc r f n).eng = b.eng := rfl

/-! `Bridge.emit` writes out alone. -/

@[simp] theorem Bridge.emit_part (e : Emission) : (b.emit e).part = b.part := rfl
@[simp] theorem Bridge.emit_authFuse (e : Emission) : (b.emit e).authFuse = b.authFuse := rfl
@[simp] theorem Bridge.emit_tick (e : Emission) : (b.emit e).tick = b.tick := rfl
@[simp] theorem Bridge.emit_freeCtr (e : Emission) : (b.emit e).freeCtr = b.freeCtr := rfl
@[simp] theorem Bridge.emit_nextId (e : Emission) : (b.emit e).nextId = b.nextId := rfl
@[simp] theorem Bridge.emit_regs (e : Emission) : (b.emit e).regs = b.regs := rfl
@[simp] theorem Bridge.emit_overridden (e : Emission) : (b.emit e).overridden = b.overridden := rfl
@[simp] theorem Bridge.emit_cfg (e : Emission) : (b.emit e).cfg = b.cfg := rfl
@[simp] theorem Bridge.emit_msix (e : Emission) : (b.emit e).msix = b.msix := rfl
@[simp] theorem Bridge.emit_pendVec (e : Emission) : (b.emit e).pendVec = b.pendVec := rfl
@[simp] theorem Bridge.emit_pins (e : Emission) : (b.emit e).pins = b.pins := rfl
@[simp] theorem Bridge.emit_kept (e : Emission) : (b.emit e).kept = b.kept := rfl
@[simp] theorem Bridge.emit_alm (e : Emission) : (b.emit e).alm = b.alm := rfl
@[simp] theorem Bridge.emit_archReqs (e : Emission) : (b.emit e).archReqs = b.archReqs := rfl
@[simp] theorem Bridge.emit_ledger (e : Emission) : (b.emit e).ledger = b.ledger := rfl
@[simp] theorem Bridge.emit_freed (e : Emission) : (b.emit e).freed = b.freed := rfl
@[simp] theorem Bridge.emit_pbs (e : Emission) : (b.emit e).pbs = b.pbs := rfl
@[simp] theorem Bridge.emit_proving (e : Emission) : (b.emit e).proving = b.proving := rfl
@[simp] theorem Bridge.emit_reqs (e : Emission) : (b.emit e).reqs = b.reqs := rfl
@[simp] theorem Bridge.emit_hostReads (e : Emission) : (b.emit e).hostReads = b.hostReads := rfl
@[simp] theorem Bridge.emit_ups (e : Emission) : (b.emit e).ups = b.ups := rfl
@[simp] theorem Bridge.emit_barriers (e : Emission) : (b.emit e).barriers = b.barriers := rfl
@[simp] theorem Bridge.emit_barSeq (e : Emission) : (b.emit e).barSeq = b.barSeq := rfl
@[simp] theorem Bridge.emit_barStat (e : Emission) : (b.emit e).barStat = b.barStat := rfl
@[simp] theorem Bridge.emit_eng (e : Emission) : (b.emit e).eng = b.eng := rfl

/-! `Bridge.life` writes kept alone. -/

@[simp] theorem Bridge.life_part (w n : Nat) : (b.life w n).part = b.part := rfl
@[simp] theorem Bridge.life_authFuse (w n : Nat) : (b.life w n).authFuse = b.authFuse := rfl
@[simp] theorem Bridge.life_tick (w n : Nat) : (b.life w n).tick = b.tick := rfl
@[simp] theorem Bridge.life_freeCtr (w n : Nat) : (b.life w n).freeCtr = b.freeCtr := rfl
@[simp] theorem Bridge.life_nextId (w n : Nat) : (b.life w n).nextId = b.nextId := rfl
@[simp] theorem Bridge.life_out (w n : Nat) : (b.life w n).out = b.out := rfl
@[simp] theorem Bridge.life_regs (w n : Nat) : (b.life w n).regs = b.regs := rfl
@[simp] theorem Bridge.life_overridden (w n : Nat) : (b.life w n).overridden = b.overridden := rfl
@[simp] theorem Bridge.life_cfg (w n : Nat) : (b.life w n).cfg = b.cfg := rfl
@[simp] theorem Bridge.life_msix (w n : Nat) : (b.life w n).msix = b.msix := rfl
@[simp] theorem Bridge.life_pendVec (w n : Nat) : (b.life w n).pendVec = b.pendVec := rfl
@[simp] theorem Bridge.life_pins (w n : Nat) : (b.life w n).pins = b.pins := rfl
@[simp] theorem Bridge.life_alm (w n : Nat) : (b.life w n).alm = b.alm := rfl
@[simp] theorem Bridge.life_archReqs (w n : Nat) : (b.life w n).archReqs = b.archReqs := rfl
@[simp] theorem Bridge.life_ledger (w n : Nat) : (b.life w n).ledger = b.ledger := rfl
@[simp] theorem Bridge.life_freed (w n : Nat) : (b.life w n).freed = b.freed := rfl
@[simp] theorem Bridge.life_pbs (w n : Nat) : (b.life w n).pbs = b.pbs := rfl
@[simp] theorem Bridge.life_proving (w n : Nat) : (b.life w n).proving = b.proving := rfl
@[simp] theorem Bridge.life_reqs (w n : Nat) : (b.life w n).reqs = b.reqs := rfl
@[simp] theorem Bridge.life_hostReads (w n : Nat) : (b.life w n).hostReads = b.hostReads := rfl
@[simp] theorem Bridge.life_ups (w n : Nat) : (b.life w n).ups = b.ups := rfl
@[simp] theorem Bridge.life_barriers (w n : Nat) : (b.life w n).barriers = b.barriers := rfl
@[simp] theorem Bridge.life_barSeq (w n : Nat) : (b.life w n).barSeq = b.barSeq := rfl
@[simp] theorem Bridge.life_barStat (w n : Nat) : (b.life w n).barStat = b.barStat := rfl
@[simp] theorem Bridge.life_eng (w n : Nat) : (b.life w n).eng = b.eng := rfl

/-! `Bridge.cfgPut` writes cfg alone. -/

@[simp] theorem Bridge.cfgPut_part (ap fn : Nat) (f : CfgField) (v : Nat) : (b.cfgPut ap fn f v).part = b.part := rfl
@[simp] theorem Bridge.cfgPut_authFuse (ap fn : Nat) (f : CfgField) (v : Nat) : (b.cfgPut ap fn f v).authFuse = b.authFuse := rfl
@[simp] theorem Bridge.cfgPut_tick (ap fn : Nat) (f : CfgField) (v : Nat) : (b.cfgPut ap fn f v).tick = b.tick := rfl
@[simp] theorem Bridge.cfgPut_freeCtr (ap fn : Nat) (f : CfgField) (v : Nat) : (b.cfgPut ap fn f v).freeCtr = b.freeCtr := rfl
@[simp] theorem Bridge.cfgPut_nextId (ap fn : Nat) (f : CfgField) (v : Nat) : (b.cfgPut ap fn f v).nextId = b.nextId := rfl
@[simp] theorem Bridge.cfgPut_out (ap fn : Nat) (f : CfgField) (v : Nat) : (b.cfgPut ap fn f v).out = b.out := rfl
@[simp] theorem Bridge.cfgPut_regs (ap fn : Nat) (f : CfgField) (v : Nat) : (b.cfgPut ap fn f v).regs = b.regs := rfl
@[simp] theorem Bridge.cfgPut_overridden (ap fn : Nat) (f : CfgField) (v : Nat) : (b.cfgPut ap fn f v).overridden = b.overridden := rfl
@[simp] theorem Bridge.cfgPut_msix (ap fn : Nat) (f : CfgField) (v : Nat) : (b.cfgPut ap fn f v).msix = b.msix := rfl
@[simp] theorem Bridge.cfgPut_pendVec (ap fn : Nat) (f : CfgField) (v : Nat) : (b.cfgPut ap fn f v).pendVec = b.pendVec := rfl
@[simp] theorem Bridge.cfgPut_pins (ap fn : Nat) (f : CfgField) (v : Nat) : (b.cfgPut ap fn f v).pins = b.pins := rfl
@[simp] theorem Bridge.cfgPut_kept (ap fn : Nat) (f : CfgField) (v : Nat) : (b.cfgPut ap fn f v).kept = b.kept := rfl
@[simp] theorem Bridge.cfgPut_alm (ap fn : Nat) (f : CfgField) (v : Nat) : (b.cfgPut ap fn f v).alm = b.alm := rfl
@[simp] theorem Bridge.cfgPut_archReqs (ap fn : Nat) (f : CfgField) (v : Nat) : (b.cfgPut ap fn f v).archReqs = b.archReqs := rfl
@[simp] theorem Bridge.cfgPut_ledger (ap fn : Nat) (f : CfgField) (v : Nat) : (b.cfgPut ap fn f v).ledger = b.ledger := rfl
@[simp] theorem Bridge.cfgPut_freed (ap fn : Nat) (f : CfgField) (v : Nat) : (b.cfgPut ap fn f v).freed = b.freed := rfl
@[simp] theorem Bridge.cfgPut_pbs (ap fn : Nat) (f : CfgField) (v : Nat) : (b.cfgPut ap fn f v).pbs = b.pbs := rfl
@[simp] theorem Bridge.cfgPut_proving (ap fn : Nat) (f : CfgField) (v : Nat) : (b.cfgPut ap fn f v).proving = b.proving := rfl
@[simp] theorem Bridge.cfgPut_reqs (ap fn : Nat) (f : CfgField) (v : Nat) : (b.cfgPut ap fn f v).reqs = b.reqs := rfl
@[simp] theorem Bridge.cfgPut_hostReads (ap fn : Nat) (f : CfgField) (v : Nat) : (b.cfgPut ap fn f v).hostReads = b.hostReads := rfl
@[simp] theorem Bridge.cfgPut_ups (ap fn : Nat) (f : CfgField) (v : Nat) : (b.cfgPut ap fn f v).ups = b.ups := rfl
@[simp] theorem Bridge.cfgPut_barriers (ap fn : Nat) (f : CfgField) (v : Nat) : (b.cfgPut ap fn f v).barriers = b.barriers := rfl
@[simp] theorem Bridge.cfgPut_barSeq (ap fn : Nat) (f : CfgField) (v : Nat) : (b.cfgPut ap fn f v).barSeq = b.barSeq := rfl
@[simp] theorem Bridge.cfgPut_barStat (ap fn : Nat) (f : CfgField) (v : Nat) : (b.cfgPut ap fn f v).barStat = b.barStat := rfl
@[simp] theorem Bridge.cfgPut_eng (ap fn : Nat) (f : CfgField) (v : Nat) : (b.cfgPut ap fn f v).eng = b.eng := rfl

/-! `Bridge.setDom` writes eng.doms alone. -/

@[simp] theorem Bridge.setDom_part (n st : Nat) : (b.setDom n st).part = b.part := rfl
@[simp] theorem Bridge.setDom_authFuse (n st : Nat) : (b.setDom n st).authFuse = b.authFuse := rfl
@[simp] theorem Bridge.setDom_tick (n st : Nat) : (b.setDom n st).tick = b.tick := rfl
@[simp] theorem Bridge.setDom_freeCtr (n st : Nat) : (b.setDom n st).freeCtr = b.freeCtr := rfl
@[simp] theorem Bridge.setDom_nextId (n st : Nat) : (b.setDom n st).nextId = b.nextId := rfl
@[simp] theorem Bridge.setDom_out (n st : Nat) : (b.setDom n st).out = b.out := rfl
@[simp] theorem Bridge.setDom_regs (n st : Nat) : (b.setDom n st).regs = b.regs := rfl
@[simp] theorem Bridge.setDom_overridden (n st : Nat) : (b.setDom n st).overridden = b.overridden := rfl
@[simp] theorem Bridge.setDom_cfg (n st : Nat) : (b.setDom n st).cfg = b.cfg := rfl
@[simp] theorem Bridge.setDom_msix (n st : Nat) : (b.setDom n st).msix = b.msix := rfl
@[simp] theorem Bridge.setDom_pendVec (n st : Nat) : (b.setDom n st).pendVec = b.pendVec := rfl
@[simp] theorem Bridge.setDom_pins (n st : Nat) : (b.setDom n st).pins = b.pins := rfl
@[simp] theorem Bridge.setDom_kept (n st : Nat) : (b.setDom n st).kept = b.kept := rfl
@[simp] theorem Bridge.setDom_alm (n st : Nat) : (b.setDom n st).alm = b.alm := rfl
@[simp] theorem Bridge.setDom_archReqs (n st : Nat) : (b.setDom n st).archReqs = b.archReqs := rfl
@[simp] theorem Bridge.setDom_ledger (n st : Nat) : (b.setDom n st).ledger = b.ledger := rfl
@[simp] theorem Bridge.setDom_freed (n st : Nat) : (b.setDom n st).freed = b.freed := rfl
@[simp] theorem Bridge.setDom_pbs (n st : Nat) : (b.setDom n st).pbs = b.pbs := rfl
@[simp] theorem Bridge.setDom_proving (n st : Nat) : (b.setDom n st).proving = b.proving := rfl
@[simp] theorem Bridge.setDom_reqs (n st : Nat) : (b.setDom n st).reqs = b.reqs := rfl
@[simp] theorem Bridge.setDom_hostReads (n st : Nat) : (b.setDom n st).hostReads = b.hostReads := rfl
@[simp] theorem Bridge.setDom_ups (n st : Nat) : (b.setDom n st).ups = b.ups := rfl
@[simp] theorem Bridge.setDom_barriers (n st : Nat) : (b.setDom n st).barriers = b.barriers := rfl
@[simp] theorem Bridge.setDom_barSeq (n st : Nat) : (b.setDom n st).barSeq = b.barSeq := rfl
@[simp] theorem Bridge.setDom_barStat (n st : Nat) : (b.setDom n st).barStat = b.barStat := rfl
@[simp] theorem Bridge.setDom_eng_chans (n st : Nat) : (b.setDom n st).eng.chans = b.eng.chans := rfl
@[simp] theorem Bridge.setDom_eng_finders (n st : Nat) : (b.setDom n st).eng.finders = b.eng.finders := rfl
@[simp] theorem Bridge.setDom_eng_scheds (n st : Nat) : (b.setDom n st).eng.scheds = b.eng.scheds := rfl
@[simp] theorem Bridge.setDom_eng_buckets (n st : Nat) : (b.setDom n st).eng.buckets = b.eng.buckets := rfl
@[simp] theorem Bridge.setDom_eng_sharePend (n st : Nat) : (b.setDom n st).eng.sharePend = b.eng.sharePend := rfl
@[simp] theorem Bridge.setDom_eng_guides (n st : Nat) : (b.setDom n st).eng.guides = b.eng.guides := rfl
@[simp] theorem Bridge.setDom_eng_insts (n st : Nat) : (b.setDom n st).eng.insts = b.eng.insts := rfl
@[simp] theorem Bridge.setDom_eng_reserve (n st : Nat) : (b.setDom n st).eng.reserve = b.eng.reserve := rfl
@[simp] theorem Bridge.setDom_eng_queues (n st : Nat) : (b.setDom n st).eng.queues = b.eng.queues := rfl
@[simp] theorem Bridge.setDom_eng_merTags (n st : Nat) : (b.setDom n st).eng.merTags = b.eng.merTags := rfl
@[simp] theorem Bridge.setDom_eng_merPorts (n st : Nat) : (b.setDom n st).eng.merPorts = b.eng.merPorts := rfl
@[simp] theorem Bridge.setDom_eng_trn (n st : Nat) : (b.setDom n st).eng.trn = b.eng.trn := rfl
@[simp] theorem Bridge.setDom_eng_lanes (n st : Nat) : (b.setDom n st).eng.lanes = b.eng.lanes := rfl
@[simp] theorem Bridge.setDom_eng_links (n st : Nat) : (b.setDom n st).eng.links = b.eng.links := rfl
@[simp] theorem Bridge.setDom_eng_pair (n st : Nat) : (b.setDom n st).eng.pair = b.eng.pair := rfl
@[simp] theorem Bridge.setDom_eng_eyes (n st : Nat) : (b.setDom n st).eng.eyes = b.eng.eyes := rfl
@[simp] theorem Bridge.setDom_eng_resets (n st : Nat) : (b.setDom n st).eng.resets = b.eng.resets := rfl
@[simp] theorem Bridge.setDom_eng_ltr (n st : Nat) : (b.setDom n st).eng.ltr = b.eng.ltr := rfl
@[simp] theorem Bridge.setDom_eng_quotaWait (n st : Nat) : (b.setDom n st).eng.quotaWait = b.eng.quotaWait := rfl
@[simp] theorem Bridge.setDom_eng_drainWait (n st : Nat) : (b.setDom n st).eng.drainWait = b.eng.drainWait := rfl
@[simp] theorem Bridge.setDom_eng_held (n st : Nat) : (b.setDom n st).eng.held = b.eng.held := rfl
@[simp] theorem Bridge.setDom_eng_dimSince (n st : Nat) : (b.setDom n st).eng.dimSince = b.eng.dimSince := rfl
@[simp] theorem Bridge.setDom_eng_wakeStart (n st : Nat) : (b.setDom n st).eng.wakeStart = b.eng.wakeStart := rfl
@[simp] theorem Bridge.setDom_eng_calStart (n st : Nat) : (b.setDom n st).eng.calStart = b.eng.calStart := rfl
@[simp] theorem Bridge.setDom_eng_calPeriod (n st : Nat) : (b.setDom n st).eng.calPeriod = b.eng.calPeriod := rfl
@[simp] theorem Bridge.setDom_eng_pfFlrs (n st : Nat) : (b.setDom n st).eng.pfFlrs = b.eng.pfFlrs := rfl
@[simp] theorem Bridge.setDom_eng_domHeld (n st : Nat) : (b.setDom n st).eng.domHeld = b.eng.domHeld := rfl
@[simp] theorem Bridge.setDom_eng_logWait (n st : Nat) : (b.setDom n st).eng.logWait = b.eng.logWait := rfl
@[simp] theorem Bridge.setDom_eng_fcWait (n st : Nat) : (b.setDom n st).eng.fcWait = b.eng.fcWait := rfl
@[simp] theorem Bridge.setDom_eng_placeAt (n st : Nat) : (b.setDom n st).eng.placeAt = b.eng.placeAt := rfl
@[simp] theorem Bridge.setDom_eng_cycle (n st : Nat) : (b.setDom n st).eng.cycle = b.eng.cycle := rfl
@[simp] theorem Bridge.setDom_eng_archUsed (n st : Nat) : (b.setDom n st).eng.archUsed = b.eng.archUsed := rfl
@[simp] theorem Bridge.setDom_eng_archTurn (n st : Nat) : (b.setDom n st).eng.archTurn = b.eng.archTurn := rfl
@[simp] theorem Bridge.setDom_eng_absentRefs (n st : Nat) : (b.setDom n st).eng.absentRefs = b.eng.absentRefs := rfl
@[simp] theorem Bridge.setDom_eng_svcErr (n st : Nat) : (b.setDom n st).eng.svcErr = b.eng.svcErr := rfl
@[simp] theorem Bridge.setDom_eng_done (n st : Nat) : (b.setDom n st).eng.done = b.eng.done := rfl

/-! `Bridge.putLink` writes eng.links alone. -/

@[simp] theorem Bridge.putLink_part (l : Link) : (b.putLink l).part = b.part := rfl
@[simp] theorem Bridge.putLink_authFuse (l : Link) : (b.putLink l).authFuse = b.authFuse := rfl
@[simp] theorem Bridge.putLink_tick (l : Link) : (b.putLink l).tick = b.tick := rfl
@[simp] theorem Bridge.putLink_freeCtr (l : Link) : (b.putLink l).freeCtr = b.freeCtr := rfl
@[simp] theorem Bridge.putLink_nextId (l : Link) : (b.putLink l).nextId = b.nextId := rfl
@[simp] theorem Bridge.putLink_out (l : Link) : (b.putLink l).out = b.out := rfl
@[simp] theorem Bridge.putLink_regs (l : Link) : (b.putLink l).regs = b.regs := rfl
@[simp] theorem Bridge.putLink_overridden (l : Link) : (b.putLink l).overridden = b.overridden := rfl
@[simp] theorem Bridge.putLink_cfg (l : Link) : (b.putLink l).cfg = b.cfg := rfl
@[simp] theorem Bridge.putLink_msix (l : Link) : (b.putLink l).msix = b.msix := rfl
@[simp] theorem Bridge.putLink_pendVec (l : Link) : (b.putLink l).pendVec = b.pendVec := rfl
@[simp] theorem Bridge.putLink_pins (l : Link) : (b.putLink l).pins = b.pins := rfl
@[simp] theorem Bridge.putLink_kept (l : Link) : (b.putLink l).kept = b.kept := rfl
@[simp] theorem Bridge.putLink_alm (l : Link) : (b.putLink l).alm = b.alm := rfl
@[simp] theorem Bridge.putLink_archReqs (l : Link) : (b.putLink l).archReqs = b.archReqs := rfl
@[simp] theorem Bridge.putLink_ledger (l : Link) : (b.putLink l).ledger = b.ledger := rfl
@[simp] theorem Bridge.putLink_freed (l : Link) : (b.putLink l).freed = b.freed := rfl
@[simp] theorem Bridge.putLink_pbs (l : Link) : (b.putLink l).pbs = b.pbs := rfl
@[simp] theorem Bridge.putLink_proving (l : Link) : (b.putLink l).proving = b.proving := rfl
@[simp] theorem Bridge.putLink_reqs (l : Link) : (b.putLink l).reqs = b.reqs := rfl
@[simp] theorem Bridge.putLink_hostReads (l : Link) : (b.putLink l).hostReads = b.hostReads := rfl
@[simp] theorem Bridge.putLink_ups (l : Link) : (b.putLink l).ups = b.ups := rfl
@[simp] theorem Bridge.putLink_barriers (l : Link) : (b.putLink l).barriers = b.barriers := rfl
@[simp] theorem Bridge.putLink_barSeq (l : Link) : (b.putLink l).barSeq = b.barSeq := rfl
@[simp] theorem Bridge.putLink_barStat (l : Link) : (b.putLink l).barStat = b.barStat := rfl
@[simp] theorem Bridge.putLink_eng_chans (l : Link) : (b.putLink l).eng.chans = b.eng.chans := rfl
@[simp] theorem Bridge.putLink_eng_finders (l : Link) : (b.putLink l).eng.finders = b.eng.finders := rfl
@[simp] theorem Bridge.putLink_eng_scheds (l : Link) : (b.putLink l).eng.scheds = b.eng.scheds := rfl
@[simp] theorem Bridge.putLink_eng_buckets (l : Link) : (b.putLink l).eng.buckets = b.eng.buckets := rfl
@[simp] theorem Bridge.putLink_eng_sharePend (l : Link) : (b.putLink l).eng.sharePend = b.eng.sharePend := rfl
@[simp] theorem Bridge.putLink_eng_guides (l : Link) : (b.putLink l).eng.guides = b.eng.guides := rfl
@[simp] theorem Bridge.putLink_eng_insts (l : Link) : (b.putLink l).eng.insts = b.eng.insts := rfl
@[simp] theorem Bridge.putLink_eng_reserve (l : Link) : (b.putLink l).eng.reserve = b.eng.reserve := rfl
@[simp] theorem Bridge.putLink_eng_queues (l : Link) : (b.putLink l).eng.queues = b.eng.queues := rfl
@[simp] theorem Bridge.putLink_eng_merTags (l : Link) : (b.putLink l).eng.merTags = b.eng.merTags := rfl
@[simp] theorem Bridge.putLink_eng_merPorts (l : Link) : (b.putLink l).eng.merPorts = b.eng.merPorts := rfl
@[simp] theorem Bridge.putLink_eng_trn (l : Link) : (b.putLink l).eng.trn = b.eng.trn := rfl
@[simp] theorem Bridge.putLink_eng_lanes (l : Link) : (b.putLink l).eng.lanes = b.eng.lanes := rfl
@[simp] theorem Bridge.putLink_eng_pair (l : Link) : (b.putLink l).eng.pair = b.eng.pair := rfl
@[simp] theorem Bridge.putLink_eng_doms (l : Link) : (b.putLink l).eng.doms = b.eng.doms := rfl
@[simp] theorem Bridge.putLink_eng_eyes (l : Link) : (b.putLink l).eng.eyes = b.eng.eyes := rfl
@[simp] theorem Bridge.putLink_eng_resets (l : Link) : (b.putLink l).eng.resets = b.eng.resets := rfl
@[simp] theorem Bridge.putLink_eng_ltr (l : Link) : (b.putLink l).eng.ltr = b.eng.ltr := rfl
@[simp] theorem Bridge.putLink_eng_quotaWait (l : Link) : (b.putLink l).eng.quotaWait = b.eng.quotaWait := rfl
@[simp] theorem Bridge.putLink_eng_drainWait (l : Link) : (b.putLink l).eng.drainWait = b.eng.drainWait := rfl
@[simp] theorem Bridge.putLink_eng_held (l : Link) : (b.putLink l).eng.held = b.eng.held := rfl
@[simp] theorem Bridge.putLink_eng_dimSince (l : Link) : (b.putLink l).eng.dimSince = b.eng.dimSince := rfl
@[simp] theorem Bridge.putLink_eng_wakeStart (l : Link) : (b.putLink l).eng.wakeStart = b.eng.wakeStart := rfl
@[simp] theorem Bridge.putLink_eng_calStart (l : Link) : (b.putLink l).eng.calStart = b.eng.calStart := rfl
@[simp] theorem Bridge.putLink_eng_calPeriod (l : Link) : (b.putLink l).eng.calPeriod = b.eng.calPeriod := rfl
@[simp] theorem Bridge.putLink_eng_pfFlrs (l : Link) : (b.putLink l).eng.pfFlrs = b.eng.pfFlrs := rfl
@[simp] theorem Bridge.putLink_eng_domHeld (l : Link) : (b.putLink l).eng.domHeld = b.eng.domHeld := rfl
@[simp] theorem Bridge.putLink_eng_logWait (l : Link) : (b.putLink l).eng.logWait = b.eng.logWait := rfl
@[simp] theorem Bridge.putLink_eng_fcWait (l : Link) : (b.putLink l).eng.fcWait = b.eng.fcWait := rfl
@[simp] theorem Bridge.putLink_eng_placeAt (l : Link) : (b.putLink l).eng.placeAt = b.eng.placeAt := rfl
@[simp] theorem Bridge.putLink_eng_cycle (l : Link) : (b.putLink l).eng.cycle = b.eng.cycle := rfl
@[simp] theorem Bridge.putLink_eng_archUsed (l : Link) : (b.putLink l).eng.archUsed = b.eng.archUsed := rfl
@[simp] theorem Bridge.putLink_eng_archTurn (l : Link) : (b.putLink l).eng.archTurn = b.eng.archTurn := rfl
@[simp] theorem Bridge.putLink_eng_absentRefs (l : Link) : (b.putLink l).eng.absentRefs = b.eng.absentRefs := rfl
@[simp] theorem Bridge.putLink_eng_svcErr (l : Link) : (b.putLink l).eng.svcErr = b.eng.svcErr := rfl
@[simp] theorem Bridge.putLink_eng_done (l : Link) : (b.putLink l).eng.done = b.eng.done := rfl

/-! `Bridge.putLane` writes eng.lanes alone. -/

@[simp] theorem Bridge.putLane_part (l : Lane) : (b.putLane l).part = b.part := rfl
@[simp] theorem Bridge.putLane_authFuse (l : Lane) : (b.putLane l).authFuse = b.authFuse := rfl
@[simp] theorem Bridge.putLane_tick (l : Lane) : (b.putLane l).tick = b.tick := rfl
@[simp] theorem Bridge.putLane_freeCtr (l : Lane) : (b.putLane l).freeCtr = b.freeCtr := rfl
@[simp] theorem Bridge.putLane_nextId (l : Lane) : (b.putLane l).nextId = b.nextId := rfl
@[simp] theorem Bridge.putLane_out (l : Lane) : (b.putLane l).out = b.out := rfl
@[simp] theorem Bridge.putLane_regs (l : Lane) : (b.putLane l).regs = b.regs := rfl
@[simp] theorem Bridge.putLane_overridden (l : Lane) : (b.putLane l).overridden = b.overridden := rfl
@[simp] theorem Bridge.putLane_cfg (l : Lane) : (b.putLane l).cfg = b.cfg := rfl
@[simp] theorem Bridge.putLane_msix (l : Lane) : (b.putLane l).msix = b.msix := rfl
@[simp] theorem Bridge.putLane_pendVec (l : Lane) : (b.putLane l).pendVec = b.pendVec := rfl
@[simp] theorem Bridge.putLane_pins (l : Lane) : (b.putLane l).pins = b.pins := rfl
@[simp] theorem Bridge.putLane_kept (l : Lane) : (b.putLane l).kept = b.kept := rfl
@[simp] theorem Bridge.putLane_alm (l : Lane) : (b.putLane l).alm = b.alm := rfl
@[simp] theorem Bridge.putLane_archReqs (l : Lane) : (b.putLane l).archReqs = b.archReqs := rfl
@[simp] theorem Bridge.putLane_ledger (l : Lane) : (b.putLane l).ledger = b.ledger := rfl
@[simp] theorem Bridge.putLane_freed (l : Lane) : (b.putLane l).freed = b.freed := rfl
@[simp] theorem Bridge.putLane_pbs (l : Lane) : (b.putLane l).pbs = b.pbs := rfl
@[simp] theorem Bridge.putLane_proving (l : Lane) : (b.putLane l).proving = b.proving := rfl
@[simp] theorem Bridge.putLane_reqs (l : Lane) : (b.putLane l).reqs = b.reqs := rfl
@[simp] theorem Bridge.putLane_hostReads (l : Lane) : (b.putLane l).hostReads = b.hostReads := rfl
@[simp] theorem Bridge.putLane_ups (l : Lane) : (b.putLane l).ups = b.ups := rfl
@[simp] theorem Bridge.putLane_barriers (l : Lane) : (b.putLane l).barriers = b.barriers := rfl
@[simp] theorem Bridge.putLane_barSeq (l : Lane) : (b.putLane l).barSeq = b.barSeq := rfl
@[simp] theorem Bridge.putLane_barStat (l : Lane) : (b.putLane l).barStat = b.barStat := rfl
@[simp] theorem Bridge.putLane_eng_chans (l : Lane) : (b.putLane l).eng.chans = b.eng.chans := rfl
@[simp] theorem Bridge.putLane_eng_finders (l : Lane) : (b.putLane l).eng.finders = b.eng.finders := rfl
@[simp] theorem Bridge.putLane_eng_scheds (l : Lane) : (b.putLane l).eng.scheds = b.eng.scheds := rfl
@[simp] theorem Bridge.putLane_eng_buckets (l : Lane) : (b.putLane l).eng.buckets = b.eng.buckets := rfl
@[simp] theorem Bridge.putLane_eng_sharePend (l : Lane) : (b.putLane l).eng.sharePend = b.eng.sharePend := rfl
@[simp] theorem Bridge.putLane_eng_guides (l : Lane) : (b.putLane l).eng.guides = b.eng.guides := rfl
@[simp] theorem Bridge.putLane_eng_insts (l : Lane) : (b.putLane l).eng.insts = b.eng.insts := rfl
@[simp] theorem Bridge.putLane_eng_reserve (l : Lane) : (b.putLane l).eng.reserve = b.eng.reserve := rfl
@[simp] theorem Bridge.putLane_eng_queues (l : Lane) : (b.putLane l).eng.queues = b.eng.queues := rfl
@[simp] theorem Bridge.putLane_eng_merTags (l : Lane) : (b.putLane l).eng.merTags = b.eng.merTags := rfl
@[simp] theorem Bridge.putLane_eng_merPorts (l : Lane) : (b.putLane l).eng.merPorts = b.eng.merPorts := rfl
@[simp] theorem Bridge.putLane_eng_trn (l : Lane) : (b.putLane l).eng.trn = b.eng.trn := rfl
@[simp] theorem Bridge.putLane_eng_links (l : Lane) : (b.putLane l).eng.links = b.eng.links := rfl
@[simp] theorem Bridge.putLane_eng_pair (l : Lane) : (b.putLane l).eng.pair = b.eng.pair := rfl
@[simp] theorem Bridge.putLane_eng_doms (l : Lane) : (b.putLane l).eng.doms = b.eng.doms := rfl
@[simp] theorem Bridge.putLane_eng_eyes (l : Lane) : (b.putLane l).eng.eyes = b.eng.eyes := rfl
@[simp] theorem Bridge.putLane_eng_resets (l : Lane) : (b.putLane l).eng.resets = b.eng.resets := rfl
@[simp] theorem Bridge.putLane_eng_ltr (l : Lane) : (b.putLane l).eng.ltr = b.eng.ltr := rfl
@[simp] theorem Bridge.putLane_eng_quotaWait (l : Lane) : (b.putLane l).eng.quotaWait = b.eng.quotaWait := rfl
@[simp] theorem Bridge.putLane_eng_drainWait (l : Lane) : (b.putLane l).eng.drainWait = b.eng.drainWait := rfl
@[simp] theorem Bridge.putLane_eng_held (l : Lane) : (b.putLane l).eng.held = b.eng.held := rfl
@[simp] theorem Bridge.putLane_eng_dimSince (l : Lane) : (b.putLane l).eng.dimSince = b.eng.dimSince := rfl
@[simp] theorem Bridge.putLane_eng_wakeStart (l : Lane) : (b.putLane l).eng.wakeStart = b.eng.wakeStart := rfl
@[simp] theorem Bridge.putLane_eng_calStart (l : Lane) : (b.putLane l).eng.calStart = b.eng.calStart := rfl
@[simp] theorem Bridge.putLane_eng_calPeriod (l : Lane) : (b.putLane l).eng.calPeriod = b.eng.calPeriod := rfl
@[simp] theorem Bridge.putLane_eng_pfFlrs (l : Lane) : (b.putLane l).eng.pfFlrs = b.eng.pfFlrs := rfl
@[simp] theorem Bridge.putLane_eng_domHeld (l : Lane) : (b.putLane l).eng.domHeld = b.eng.domHeld := rfl
@[simp] theorem Bridge.putLane_eng_logWait (l : Lane) : (b.putLane l).eng.logWait = b.eng.logWait := rfl
@[simp] theorem Bridge.putLane_eng_fcWait (l : Lane) : (b.putLane l).eng.fcWait = b.eng.fcWait := rfl
@[simp] theorem Bridge.putLane_eng_placeAt (l : Lane) : (b.putLane l).eng.placeAt = b.eng.placeAt := rfl
@[simp] theorem Bridge.putLane_eng_cycle (l : Lane) : (b.putLane l).eng.cycle = b.eng.cycle := rfl
@[simp] theorem Bridge.putLane_eng_archUsed (l : Lane) : (b.putLane l).eng.archUsed = b.eng.archUsed := rfl
@[simp] theorem Bridge.putLane_eng_archTurn (l : Lane) : (b.putLane l).eng.archTurn = b.eng.archTurn := rfl
@[simp] theorem Bridge.putLane_eng_absentRefs (l : Lane) : (b.putLane l).eng.absentRefs = b.eng.absentRefs := rfl
@[simp] theorem Bridge.putLane_eng_svcErr (l : Lane) : (b.putLane l).eng.svcErr = b.eng.svcErr := rfl
@[simp] theorem Bridge.putLane_eng_done (l : Lane) : (b.putLane l).eng.done = b.eng.done := rfl

/-! `Bridge.putChan` writes eng.chans alone. -/

@[simp] theorem Bridge.putChan_part (x : Chan) : (b.putChan x).part = b.part := rfl
@[simp] theorem Bridge.putChan_authFuse (x : Chan) : (b.putChan x).authFuse = b.authFuse := rfl
@[simp] theorem Bridge.putChan_tick (x : Chan) : (b.putChan x).tick = b.tick := rfl
@[simp] theorem Bridge.putChan_freeCtr (x : Chan) : (b.putChan x).freeCtr = b.freeCtr := rfl
@[simp] theorem Bridge.putChan_nextId (x : Chan) : (b.putChan x).nextId = b.nextId := rfl
@[simp] theorem Bridge.putChan_out (x : Chan) : (b.putChan x).out = b.out := rfl
@[simp] theorem Bridge.putChan_regs (x : Chan) : (b.putChan x).regs = b.regs := rfl
@[simp] theorem Bridge.putChan_overridden (x : Chan) : (b.putChan x).overridden = b.overridden := rfl
@[simp] theorem Bridge.putChan_cfg (x : Chan) : (b.putChan x).cfg = b.cfg := rfl
@[simp] theorem Bridge.putChan_msix (x : Chan) : (b.putChan x).msix = b.msix := rfl
@[simp] theorem Bridge.putChan_pendVec (x : Chan) : (b.putChan x).pendVec = b.pendVec := rfl
@[simp] theorem Bridge.putChan_pins (x : Chan) : (b.putChan x).pins = b.pins := rfl
@[simp] theorem Bridge.putChan_kept (x : Chan) : (b.putChan x).kept = b.kept := rfl
@[simp] theorem Bridge.putChan_alm (x : Chan) : (b.putChan x).alm = b.alm := rfl
@[simp] theorem Bridge.putChan_archReqs (x : Chan) : (b.putChan x).archReqs = b.archReqs := rfl
@[simp] theorem Bridge.putChan_ledger (x : Chan) : (b.putChan x).ledger = b.ledger := rfl
@[simp] theorem Bridge.putChan_freed (x : Chan) : (b.putChan x).freed = b.freed := rfl
@[simp] theorem Bridge.putChan_pbs (x : Chan) : (b.putChan x).pbs = b.pbs := rfl
@[simp] theorem Bridge.putChan_proving (x : Chan) : (b.putChan x).proving = b.proving := rfl
@[simp] theorem Bridge.putChan_reqs (x : Chan) : (b.putChan x).reqs = b.reqs := rfl
@[simp] theorem Bridge.putChan_hostReads (x : Chan) : (b.putChan x).hostReads = b.hostReads := rfl
@[simp] theorem Bridge.putChan_ups (x : Chan) : (b.putChan x).ups = b.ups := rfl
@[simp] theorem Bridge.putChan_barriers (x : Chan) : (b.putChan x).barriers = b.barriers := rfl
@[simp] theorem Bridge.putChan_barSeq (x : Chan) : (b.putChan x).barSeq = b.barSeq := rfl
@[simp] theorem Bridge.putChan_barStat (x : Chan) : (b.putChan x).barStat = b.barStat := rfl
@[simp] theorem Bridge.putChan_eng_finders (x : Chan) : (b.putChan x).eng.finders = b.eng.finders := rfl
@[simp] theorem Bridge.putChan_eng_scheds (x : Chan) : (b.putChan x).eng.scheds = b.eng.scheds := rfl
@[simp] theorem Bridge.putChan_eng_buckets (x : Chan) : (b.putChan x).eng.buckets = b.eng.buckets := rfl
@[simp] theorem Bridge.putChan_eng_sharePend (x : Chan) : (b.putChan x).eng.sharePend = b.eng.sharePend := rfl
@[simp] theorem Bridge.putChan_eng_guides (x : Chan) : (b.putChan x).eng.guides = b.eng.guides := rfl
@[simp] theorem Bridge.putChan_eng_insts (x : Chan) : (b.putChan x).eng.insts = b.eng.insts := rfl
@[simp] theorem Bridge.putChan_eng_reserve (x : Chan) : (b.putChan x).eng.reserve = b.eng.reserve := rfl
@[simp] theorem Bridge.putChan_eng_queues (x : Chan) : (b.putChan x).eng.queues = b.eng.queues := rfl
@[simp] theorem Bridge.putChan_eng_merTags (x : Chan) : (b.putChan x).eng.merTags = b.eng.merTags := rfl
@[simp] theorem Bridge.putChan_eng_merPorts (x : Chan) : (b.putChan x).eng.merPorts = b.eng.merPorts := rfl
@[simp] theorem Bridge.putChan_eng_trn (x : Chan) : (b.putChan x).eng.trn = b.eng.trn := rfl
@[simp] theorem Bridge.putChan_eng_lanes (x : Chan) : (b.putChan x).eng.lanes = b.eng.lanes := rfl
@[simp] theorem Bridge.putChan_eng_links (x : Chan) : (b.putChan x).eng.links = b.eng.links := rfl
@[simp] theorem Bridge.putChan_eng_pair (x : Chan) : (b.putChan x).eng.pair = b.eng.pair := rfl
@[simp] theorem Bridge.putChan_eng_doms (x : Chan) : (b.putChan x).eng.doms = b.eng.doms := rfl
@[simp] theorem Bridge.putChan_eng_eyes (x : Chan) : (b.putChan x).eng.eyes = b.eng.eyes := rfl
@[simp] theorem Bridge.putChan_eng_resets (x : Chan) : (b.putChan x).eng.resets = b.eng.resets := rfl
@[simp] theorem Bridge.putChan_eng_ltr (x : Chan) : (b.putChan x).eng.ltr = b.eng.ltr := rfl
@[simp] theorem Bridge.putChan_eng_quotaWait (x : Chan) : (b.putChan x).eng.quotaWait = b.eng.quotaWait := rfl
@[simp] theorem Bridge.putChan_eng_drainWait (x : Chan) : (b.putChan x).eng.drainWait = b.eng.drainWait := rfl
@[simp] theorem Bridge.putChan_eng_held (x : Chan) : (b.putChan x).eng.held = b.eng.held := rfl
@[simp] theorem Bridge.putChan_eng_dimSince (x : Chan) : (b.putChan x).eng.dimSince = b.eng.dimSince := rfl
@[simp] theorem Bridge.putChan_eng_wakeStart (x : Chan) : (b.putChan x).eng.wakeStart = b.eng.wakeStart := rfl
@[simp] theorem Bridge.putChan_eng_calStart (x : Chan) : (b.putChan x).eng.calStart = b.eng.calStart := rfl
@[simp] theorem Bridge.putChan_eng_calPeriod (x : Chan) : (b.putChan x).eng.calPeriod = b.eng.calPeriod := rfl
@[simp] theorem Bridge.putChan_eng_pfFlrs (x : Chan) : (b.putChan x).eng.pfFlrs = b.eng.pfFlrs := rfl
@[simp] theorem Bridge.putChan_eng_domHeld (x : Chan) : (b.putChan x).eng.domHeld = b.eng.domHeld := rfl
@[simp] theorem Bridge.putChan_eng_logWait (x : Chan) : (b.putChan x).eng.logWait = b.eng.logWait := rfl
@[simp] theorem Bridge.putChan_eng_fcWait (x : Chan) : (b.putChan x).eng.fcWait = b.eng.fcWait := rfl
@[simp] theorem Bridge.putChan_eng_placeAt (x : Chan) : (b.putChan x).eng.placeAt = b.eng.placeAt := rfl
@[simp] theorem Bridge.putChan_eng_cycle (x : Chan) : (b.putChan x).eng.cycle = b.eng.cycle := rfl
@[simp] theorem Bridge.putChan_eng_archUsed (x : Chan) : (b.putChan x).eng.archUsed = b.eng.archUsed := rfl
@[simp] theorem Bridge.putChan_eng_archTurn (x : Chan) : (b.putChan x).eng.archTurn = b.eng.archTurn := rfl
@[simp] theorem Bridge.putChan_eng_absentRefs (x : Chan) : (b.putChan x).eng.absentRefs = b.eng.absentRefs := rfl
@[simp] theorem Bridge.putChan_eng_svcErr (x : Chan) : (b.putChan x).eng.svcErr = b.eng.svcErr := rfl
@[simp] theorem Bridge.putChan_eng_done (x : Chan) : (b.putChan x).eng.done = b.eng.done := rfl

/-! `Bridge.putFinder` writes eng.finders alone. -/

@[simp] theorem Bridge.putFinder_part (x : Finder) : (b.putFinder x).part = b.part := rfl
@[simp] theorem Bridge.putFinder_authFuse (x : Finder) : (b.putFinder x).authFuse = b.authFuse := rfl
@[simp] theorem Bridge.putFinder_tick (x : Finder) : (b.putFinder x).tick = b.tick := rfl
@[simp] theorem Bridge.putFinder_freeCtr (x : Finder) : (b.putFinder x).freeCtr = b.freeCtr := rfl
@[simp] theorem Bridge.putFinder_nextId (x : Finder) : (b.putFinder x).nextId = b.nextId := rfl
@[simp] theorem Bridge.putFinder_out (x : Finder) : (b.putFinder x).out = b.out := rfl
@[simp] theorem Bridge.putFinder_regs (x : Finder) : (b.putFinder x).regs = b.regs := rfl
@[simp] theorem Bridge.putFinder_overridden (x : Finder) : (b.putFinder x).overridden = b.overridden := rfl
@[simp] theorem Bridge.putFinder_cfg (x : Finder) : (b.putFinder x).cfg = b.cfg := rfl
@[simp] theorem Bridge.putFinder_msix (x : Finder) : (b.putFinder x).msix = b.msix := rfl
@[simp] theorem Bridge.putFinder_pendVec (x : Finder) : (b.putFinder x).pendVec = b.pendVec := rfl
@[simp] theorem Bridge.putFinder_pins (x : Finder) : (b.putFinder x).pins = b.pins := rfl
@[simp] theorem Bridge.putFinder_kept (x : Finder) : (b.putFinder x).kept = b.kept := rfl
@[simp] theorem Bridge.putFinder_alm (x : Finder) : (b.putFinder x).alm = b.alm := rfl
@[simp] theorem Bridge.putFinder_archReqs (x : Finder) : (b.putFinder x).archReqs = b.archReqs := rfl
@[simp] theorem Bridge.putFinder_ledger (x : Finder) : (b.putFinder x).ledger = b.ledger := rfl
@[simp] theorem Bridge.putFinder_freed (x : Finder) : (b.putFinder x).freed = b.freed := rfl
@[simp] theorem Bridge.putFinder_pbs (x : Finder) : (b.putFinder x).pbs = b.pbs := rfl
@[simp] theorem Bridge.putFinder_proving (x : Finder) : (b.putFinder x).proving = b.proving := rfl
@[simp] theorem Bridge.putFinder_reqs (x : Finder) : (b.putFinder x).reqs = b.reqs := rfl
@[simp] theorem Bridge.putFinder_hostReads (x : Finder) : (b.putFinder x).hostReads = b.hostReads := rfl
@[simp] theorem Bridge.putFinder_ups (x : Finder) : (b.putFinder x).ups = b.ups := rfl
@[simp] theorem Bridge.putFinder_barriers (x : Finder) : (b.putFinder x).barriers = b.barriers := rfl
@[simp] theorem Bridge.putFinder_barSeq (x : Finder) : (b.putFinder x).barSeq = b.barSeq := rfl
@[simp] theorem Bridge.putFinder_barStat (x : Finder) : (b.putFinder x).barStat = b.barStat := rfl
@[simp] theorem Bridge.putFinder_eng_chans (x : Finder) : (b.putFinder x).eng.chans = b.eng.chans := rfl
@[simp] theorem Bridge.putFinder_eng_scheds (x : Finder) : (b.putFinder x).eng.scheds = b.eng.scheds := rfl
@[simp] theorem Bridge.putFinder_eng_buckets (x : Finder) : (b.putFinder x).eng.buckets = b.eng.buckets := rfl
@[simp] theorem Bridge.putFinder_eng_sharePend (x : Finder) : (b.putFinder x).eng.sharePend = b.eng.sharePend := rfl
@[simp] theorem Bridge.putFinder_eng_guides (x : Finder) : (b.putFinder x).eng.guides = b.eng.guides := rfl
@[simp] theorem Bridge.putFinder_eng_insts (x : Finder) : (b.putFinder x).eng.insts = b.eng.insts := rfl
@[simp] theorem Bridge.putFinder_eng_reserve (x : Finder) : (b.putFinder x).eng.reserve = b.eng.reserve := rfl
@[simp] theorem Bridge.putFinder_eng_queues (x : Finder) : (b.putFinder x).eng.queues = b.eng.queues := rfl
@[simp] theorem Bridge.putFinder_eng_merTags (x : Finder) : (b.putFinder x).eng.merTags = b.eng.merTags := rfl
@[simp] theorem Bridge.putFinder_eng_merPorts (x : Finder) : (b.putFinder x).eng.merPorts = b.eng.merPorts := rfl
@[simp] theorem Bridge.putFinder_eng_trn (x : Finder) : (b.putFinder x).eng.trn = b.eng.trn := rfl
@[simp] theorem Bridge.putFinder_eng_lanes (x : Finder) : (b.putFinder x).eng.lanes = b.eng.lanes := rfl
@[simp] theorem Bridge.putFinder_eng_links (x : Finder) : (b.putFinder x).eng.links = b.eng.links := rfl
@[simp] theorem Bridge.putFinder_eng_pair (x : Finder) : (b.putFinder x).eng.pair = b.eng.pair := rfl
@[simp] theorem Bridge.putFinder_eng_doms (x : Finder) : (b.putFinder x).eng.doms = b.eng.doms := rfl
@[simp] theorem Bridge.putFinder_eng_eyes (x : Finder) : (b.putFinder x).eng.eyes = b.eng.eyes := rfl
@[simp] theorem Bridge.putFinder_eng_resets (x : Finder) : (b.putFinder x).eng.resets = b.eng.resets := rfl
@[simp] theorem Bridge.putFinder_eng_ltr (x : Finder) : (b.putFinder x).eng.ltr = b.eng.ltr := rfl
@[simp] theorem Bridge.putFinder_eng_quotaWait (x : Finder) : (b.putFinder x).eng.quotaWait = b.eng.quotaWait := rfl
@[simp] theorem Bridge.putFinder_eng_drainWait (x : Finder) : (b.putFinder x).eng.drainWait = b.eng.drainWait := rfl
@[simp] theorem Bridge.putFinder_eng_held (x : Finder) : (b.putFinder x).eng.held = b.eng.held := rfl
@[simp] theorem Bridge.putFinder_eng_dimSince (x : Finder) : (b.putFinder x).eng.dimSince = b.eng.dimSince := rfl
@[simp] theorem Bridge.putFinder_eng_wakeStart (x : Finder) : (b.putFinder x).eng.wakeStart = b.eng.wakeStart := rfl
@[simp] theorem Bridge.putFinder_eng_calStart (x : Finder) : (b.putFinder x).eng.calStart = b.eng.calStart := rfl
@[simp] theorem Bridge.putFinder_eng_calPeriod (x : Finder) : (b.putFinder x).eng.calPeriod = b.eng.calPeriod := rfl
@[simp] theorem Bridge.putFinder_eng_pfFlrs (x : Finder) : (b.putFinder x).eng.pfFlrs = b.eng.pfFlrs := rfl
@[simp] theorem Bridge.putFinder_eng_domHeld (x : Finder) : (b.putFinder x).eng.domHeld = b.eng.domHeld := rfl
@[simp] theorem Bridge.putFinder_eng_logWait (x : Finder) : (b.putFinder x).eng.logWait = b.eng.logWait := rfl
@[simp] theorem Bridge.putFinder_eng_fcWait (x : Finder) : (b.putFinder x).eng.fcWait = b.eng.fcWait := rfl
@[simp] theorem Bridge.putFinder_eng_placeAt (x : Finder) : (b.putFinder x).eng.placeAt = b.eng.placeAt := rfl
@[simp] theorem Bridge.putFinder_eng_cycle (x : Finder) : (b.putFinder x).eng.cycle = b.eng.cycle := rfl
@[simp] theorem Bridge.putFinder_eng_archUsed (x : Finder) : (b.putFinder x).eng.archUsed = b.eng.archUsed := rfl
@[simp] theorem Bridge.putFinder_eng_archTurn (x : Finder) : (b.putFinder x).eng.archTurn = b.eng.archTurn := rfl
@[simp] theorem Bridge.putFinder_eng_absentRefs (x : Finder) : (b.putFinder x).eng.absentRefs = b.eng.absentRefs := rfl
@[simp] theorem Bridge.putFinder_eng_svcErr (x : Finder) : (b.putFinder x).eng.svcErr = b.eng.svcErr := rfl
@[simp] theorem Bridge.putFinder_eng_done (x : Finder) : (b.putFinder x).eng.done = b.eng.done := rfl

/-! `Bridge.putInst` writes eng.insts alone. -/

@[simp] theorem Bridge.putInst_part (x : Inst) : (b.putInst x).part = b.part := rfl
@[simp] theorem Bridge.putInst_authFuse (x : Inst) : (b.putInst x).authFuse = b.authFuse := rfl
@[simp] theorem Bridge.putInst_tick (x : Inst) : (b.putInst x).tick = b.tick := rfl
@[simp] theorem Bridge.putInst_freeCtr (x : Inst) : (b.putInst x).freeCtr = b.freeCtr := rfl
@[simp] theorem Bridge.putInst_nextId (x : Inst) : (b.putInst x).nextId = b.nextId := rfl
@[simp] theorem Bridge.putInst_out (x : Inst) : (b.putInst x).out = b.out := rfl
@[simp] theorem Bridge.putInst_regs (x : Inst) : (b.putInst x).regs = b.regs := rfl
@[simp] theorem Bridge.putInst_overridden (x : Inst) : (b.putInst x).overridden = b.overridden := rfl
@[simp] theorem Bridge.putInst_cfg (x : Inst) : (b.putInst x).cfg = b.cfg := rfl
@[simp] theorem Bridge.putInst_msix (x : Inst) : (b.putInst x).msix = b.msix := rfl
@[simp] theorem Bridge.putInst_pendVec (x : Inst) : (b.putInst x).pendVec = b.pendVec := rfl
@[simp] theorem Bridge.putInst_pins (x : Inst) : (b.putInst x).pins = b.pins := rfl
@[simp] theorem Bridge.putInst_kept (x : Inst) : (b.putInst x).kept = b.kept := rfl
@[simp] theorem Bridge.putInst_alm (x : Inst) : (b.putInst x).alm = b.alm := rfl
@[simp] theorem Bridge.putInst_archReqs (x : Inst) : (b.putInst x).archReqs = b.archReqs := rfl
@[simp] theorem Bridge.putInst_ledger (x : Inst) : (b.putInst x).ledger = b.ledger := rfl
@[simp] theorem Bridge.putInst_freed (x : Inst) : (b.putInst x).freed = b.freed := rfl
@[simp] theorem Bridge.putInst_pbs (x : Inst) : (b.putInst x).pbs = b.pbs := rfl
@[simp] theorem Bridge.putInst_proving (x : Inst) : (b.putInst x).proving = b.proving := rfl
@[simp] theorem Bridge.putInst_reqs (x : Inst) : (b.putInst x).reqs = b.reqs := rfl
@[simp] theorem Bridge.putInst_hostReads (x : Inst) : (b.putInst x).hostReads = b.hostReads := rfl
@[simp] theorem Bridge.putInst_ups (x : Inst) : (b.putInst x).ups = b.ups := rfl
@[simp] theorem Bridge.putInst_barriers (x : Inst) : (b.putInst x).barriers = b.barriers := rfl
@[simp] theorem Bridge.putInst_barSeq (x : Inst) : (b.putInst x).barSeq = b.barSeq := rfl
@[simp] theorem Bridge.putInst_barStat (x : Inst) : (b.putInst x).barStat = b.barStat := rfl
@[simp] theorem Bridge.putInst_eng_chans (x : Inst) : (b.putInst x).eng.chans = b.eng.chans := rfl
@[simp] theorem Bridge.putInst_eng_finders (x : Inst) : (b.putInst x).eng.finders = b.eng.finders := rfl
@[simp] theorem Bridge.putInst_eng_scheds (x : Inst) : (b.putInst x).eng.scheds = b.eng.scheds := rfl
@[simp] theorem Bridge.putInst_eng_buckets (x : Inst) : (b.putInst x).eng.buckets = b.eng.buckets := rfl
@[simp] theorem Bridge.putInst_eng_sharePend (x : Inst) : (b.putInst x).eng.sharePend = b.eng.sharePend := rfl
@[simp] theorem Bridge.putInst_eng_guides (x : Inst) : (b.putInst x).eng.guides = b.eng.guides := rfl
@[simp] theorem Bridge.putInst_eng_reserve (x : Inst) : (b.putInst x).eng.reserve = b.eng.reserve := rfl
@[simp] theorem Bridge.putInst_eng_queues (x : Inst) : (b.putInst x).eng.queues = b.eng.queues := rfl
@[simp] theorem Bridge.putInst_eng_merTags (x : Inst) : (b.putInst x).eng.merTags = b.eng.merTags := rfl
@[simp] theorem Bridge.putInst_eng_merPorts (x : Inst) : (b.putInst x).eng.merPorts = b.eng.merPorts := rfl
@[simp] theorem Bridge.putInst_eng_trn (x : Inst) : (b.putInst x).eng.trn = b.eng.trn := rfl
@[simp] theorem Bridge.putInst_eng_lanes (x : Inst) : (b.putInst x).eng.lanes = b.eng.lanes := rfl
@[simp] theorem Bridge.putInst_eng_links (x : Inst) : (b.putInst x).eng.links = b.eng.links := rfl
@[simp] theorem Bridge.putInst_eng_pair (x : Inst) : (b.putInst x).eng.pair = b.eng.pair := rfl
@[simp] theorem Bridge.putInst_eng_doms (x : Inst) : (b.putInst x).eng.doms = b.eng.doms := rfl
@[simp] theorem Bridge.putInst_eng_eyes (x : Inst) : (b.putInst x).eng.eyes = b.eng.eyes := rfl
@[simp] theorem Bridge.putInst_eng_resets (x : Inst) : (b.putInst x).eng.resets = b.eng.resets := rfl
@[simp] theorem Bridge.putInst_eng_ltr (x : Inst) : (b.putInst x).eng.ltr = b.eng.ltr := rfl
@[simp] theorem Bridge.putInst_eng_quotaWait (x : Inst) : (b.putInst x).eng.quotaWait = b.eng.quotaWait := rfl
@[simp] theorem Bridge.putInst_eng_drainWait (x : Inst) : (b.putInst x).eng.drainWait = b.eng.drainWait := rfl
@[simp] theorem Bridge.putInst_eng_held (x : Inst) : (b.putInst x).eng.held = b.eng.held := rfl
@[simp] theorem Bridge.putInst_eng_dimSince (x : Inst) : (b.putInst x).eng.dimSince = b.eng.dimSince := rfl
@[simp] theorem Bridge.putInst_eng_wakeStart (x : Inst) : (b.putInst x).eng.wakeStart = b.eng.wakeStart := rfl
@[simp] theorem Bridge.putInst_eng_calStart (x : Inst) : (b.putInst x).eng.calStart = b.eng.calStart := rfl
@[simp] theorem Bridge.putInst_eng_calPeriod (x : Inst) : (b.putInst x).eng.calPeriod = b.eng.calPeriod := rfl
@[simp] theorem Bridge.putInst_eng_pfFlrs (x : Inst) : (b.putInst x).eng.pfFlrs = b.eng.pfFlrs := rfl
@[simp] theorem Bridge.putInst_eng_domHeld (x : Inst) : (b.putInst x).eng.domHeld = b.eng.domHeld := rfl
@[simp] theorem Bridge.putInst_eng_logWait (x : Inst) : (b.putInst x).eng.logWait = b.eng.logWait := rfl
@[simp] theorem Bridge.putInst_eng_fcWait (x : Inst) : (b.putInst x).eng.fcWait = b.eng.fcWait := rfl
@[simp] theorem Bridge.putInst_eng_placeAt (x : Inst) : (b.putInst x).eng.placeAt = b.eng.placeAt := rfl
@[simp] theorem Bridge.putInst_eng_cycle (x : Inst) : (b.putInst x).eng.cycle = b.eng.cycle := rfl
@[simp] theorem Bridge.putInst_eng_archUsed (x : Inst) : (b.putInst x).eng.archUsed = b.eng.archUsed := rfl
@[simp] theorem Bridge.putInst_eng_archTurn (x : Inst) : (b.putInst x).eng.archTurn = b.eng.archTurn := rfl
@[simp] theorem Bridge.putInst_eng_absentRefs (x : Inst) : (b.putInst x).eng.absentRefs = b.eng.absentRefs := rfl
@[simp] theorem Bridge.putInst_eng_svcErr (x : Inst) : (b.putInst x).eng.svcErr = b.eng.svcErr := rfl
@[simp] theorem Bridge.putInst_eng_done (x : Inst) : (b.putInst x).eng.done = b.eng.done := rfl

/-! `Bridge.putQueue` writes eng.queues alone. -/

@[simp] theorem Bridge.putQueue_part (q : Nat) (x : Queue) : (b.putQueue q x).part = b.part := rfl
@[simp] theorem Bridge.putQueue_authFuse (q : Nat) (x : Queue) : (b.putQueue q x).authFuse = b.authFuse := rfl
@[simp] theorem Bridge.putQueue_tick (q : Nat) (x : Queue) : (b.putQueue q x).tick = b.tick := rfl
@[simp] theorem Bridge.putQueue_freeCtr (q : Nat) (x : Queue) : (b.putQueue q x).freeCtr = b.freeCtr := rfl
@[simp] theorem Bridge.putQueue_nextId (q : Nat) (x : Queue) : (b.putQueue q x).nextId = b.nextId := rfl
@[simp] theorem Bridge.putQueue_out (q : Nat) (x : Queue) : (b.putQueue q x).out = b.out := rfl
@[simp] theorem Bridge.putQueue_regs (q : Nat) (x : Queue) : (b.putQueue q x).regs = b.regs := rfl
@[simp] theorem Bridge.putQueue_overridden (q : Nat) (x : Queue) : (b.putQueue q x).overridden = b.overridden := rfl
@[simp] theorem Bridge.putQueue_cfg (q : Nat) (x : Queue) : (b.putQueue q x).cfg = b.cfg := rfl
@[simp] theorem Bridge.putQueue_msix (q : Nat) (x : Queue) : (b.putQueue q x).msix = b.msix := rfl
@[simp] theorem Bridge.putQueue_pendVec (q : Nat) (x : Queue) : (b.putQueue q x).pendVec = b.pendVec := rfl
@[simp] theorem Bridge.putQueue_pins (q : Nat) (x : Queue) : (b.putQueue q x).pins = b.pins := rfl
@[simp] theorem Bridge.putQueue_kept (q : Nat) (x : Queue) : (b.putQueue q x).kept = b.kept := rfl
@[simp] theorem Bridge.putQueue_alm (q : Nat) (x : Queue) : (b.putQueue q x).alm = b.alm := rfl
@[simp] theorem Bridge.putQueue_archReqs (q : Nat) (x : Queue) : (b.putQueue q x).archReqs = b.archReqs := rfl
@[simp] theorem Bridge.putQueue_ledger (q : Nat) (x : Queue) : (b.putQueue q x).ledger = b.ledger := rfl
@[simp] theorem Bridge.putQueue_freed (q : Nat) (x : Queue) : (b.putQueue q x).freed = b.freed := rfl
@[simp] theorem Bridge.putQueue_pbs (q : Nat) (x : Queue) : (b.putQueue q x).pbs = b.pbs := rfl
@[simp] theorem Bridge.putQueue_proving (q : Nat) (x : Queue) : (b.putQueue q x).proving = b.proving := rfl
@[simp] theorem Bridge.putQueue_reqs (q : Nat) (x : Queue) : (b.putQueue q x).reqs = b.reqs := rfl
@[simp] theorem Bridge.putQueue_hostReads (q : Nat) (x : Queue) : (b.putQueue q x).hostReads = b.hostReads := rfl
@[simp] theorem Bridge.putQueue_ups (q : Nat) (x : Queue) : (b.putQueue q x).ups = b.ups := rfl
@[simp] theorem Bridge.putQueue_barriers (q : Nat) (x : Queue) : (b.putQueue q x).barriers = b.barriers := rfl
@[simp] theorem Bridge.putQueue_barSeq (q : Nat) (x : Queue) : (b.putQueue q x).barSeq = b.barSeq := rfl
@[simp] theorem Bridge.putQueue_barStat (q : Nat) (x : Queue) : (b.putQueue q x).barStat = b.barStat := rfl
@[simp] theorem Bridge.putQueue_eng_chans (q : Nat) (x : Queue) : (b.putQueue q x).eng.chans = b.eng.chans := rfl
@[simp] theorem Bridge.putQueue_eng_finders (q : Nat) (x : Queue) : (b.putQueue q x).eng.finders = b.eng.finders := rfl
@[simp] theorem Bridge.putQueue_eng_scheds (q : Nat) (x : Queue) : (b.putQueue q x).eng.scheds = b.eng.scheds := rfl
@[simp] theorem Bridge.putQueue_eng_buckets (q : Nat) (x : Queue) : (b.putQueue q x).eng.buckets = b.eng.buckets := rfl
@[simp] theorem Bridge.putQueue_eng_sharePend (q : Nat) (x : Queue) : (b.putQueue q x).eng.sharePend = b.eng.sharePend := rfl
@[simp] theorem Bridge.putQueue_eng_guides (q : Nat) (x : Queue) : (b.putQueue q x).eng.guides = b.eng.guides := rfl
@[simp] theorem Bridge.putQueue_eng_insts (q : Nat) (x : Queue) : (b.putQueue q x).eng.insts = b.eng.insts := rfl
@[simp] theorem Bridge.putQueue_eng_reserve (q : Nat) (x : Queue) : (b.putQueue q x).eng.reserve = b.eng.reserve := rfl
@[simp] theorem Bridge.putQueue_eng_merTags (q : Nat) (x : Queue) : (b.putQueue q x).eng.merTags = b.eng.merTags := rfl
@[simp] theorem Bridge.putQueue_eng_merPorts (q : Nat) (x : Queue) : (b.putQueue q x).eng.merPorts = b.eng.merPorts := rfl
@[simp] theorem Bridge.putQueue_eng_trn (q : Nat) (x : Queue) : (b.putQueue q x).eng.trn = b.eng.trn := rfl
@[simp] theorem Bridge.putQueue_eng_lanes (q : Nat) (x : Queue) : (b.putQueue q x).eng.lanes = b.eng.lanes := rfl
@[simp] theorem Bridge.putQueue_eng_links (q : Nat) (x : Queue) : (b.putQueue q x).eng.links = b.eng.links := rfl
@[simp] theorem Bridge.putQueue_eng_pair (q : Nat) (x : Queue) : (b.putQueue q x).eng.pair = b.eng.pair := rfl
@[simp] theorem Bridge.putQueue_eng_doms (q : Nat) (x : Queue) : (b.putQueue q x).eng.doms = b.eng.doms := rfl
@[simp] theorem Bridge.putQueue_eng_eyes (q : Nat) (x : Queue) : (b.putQueue q x).eng.eyes = b.eng.eyes := rfl
@[simp] theorem Bridge.putQueue_eng_resets (q : Nat) (x : Queue) : (b.putQueue q x).eng.resets = b.eng.resets := rfl
@[simp] theorem Bridge.putQueue_eng_ltr (q : Nat) (x : Queue) : (b.putQueue q x).eng.ltr = b.eng.ltr := rfl
@[simp] theorem Bridge.putQueue_eng_quotaWait (q : Nat) (x : Queue) : (b.putQueue q x).eng.quotaWait = b.eng.quotaWait := rfl
@[simp] theorem Bridge.putQueue_eng_drainWait (q : Nat) (x : Queue) : (b.putQueue q x).eng.drainWait = b.eng.drainWait := rfl
@[simp] theorem Bridge.putQueue_eng_held (q : Nat) (x : Queue) : (b.putQueue q x).eng.held = b.eng.held := rfl
@[simp] theorem Bridge.putQueue_eng_dimSince (q : Nat) (x : Queue) : (b.putQueue q x).eng.dimSince = b.eng.dimSince := rfl
@[simp] theorem Bridge.putQueue_eng_wakeStart (q : Nat) (x : Queue) : (b.putQueue q x).eng.wakeStart = b.eng.wakeStart := rfl
@[simp] theorem Bridge.putQueue_eng_calStart (q : Nat) (x : Queue) : (b.putQueue q x).eng.calStart = b.eng.calStart := rfl
@[simp] theorem Bridge.putQueue_eng_calPeriod (q : Nat) (x : Queue) : (b.putQueue q x).eng.calPeriod = b.eng.calPeriod := rfl
@[simp] theorem Bridge.putQueue_eng_pfFlrs (q : Nat) (x : Queue) : (b.putQueue q x).eng.pfFlrs = b.eng.pfFlrs := rfl
@[simp] theorem Bridge.putQueue_eng_domHeld (q : Nat) (x : Queue) : (b.putQueue q x).eng.domHeld = b.eng.domHeld := rfl
@[simp] theorem Bridge.putQueue_eng_logWait (q : Nat) (x : Queue) : (b.putQueue q x).eng.logWait = b.eng.logWait := rfl
@[simp] theorem Bridge.putQueue_eng_fcWait (q : Nat) (x : Queue) : (b.putQueue q x).eng.fcWait = b.eng.fcWait := rfl
@[simp] theorem Bridge.putQueue_eng_placeAt (q : Nat) (x : Queue) : (b.putQueue q x).eng.placeAt = b.eng.placeAt := rfl
@[simp] theorem Bridge.putQueue_eng_cycle (q : Nat) (x : Queue) : (b.putQueue q x).eng.cycle = b.eng.cycle := rfl
@[simp] theorem Bridge.putQueue_eng_archUsed (q : Nat) (x : Queue) : (b.putQueue q x).eng.archUsed = b.eng.archUsed := rfl
@[simp] theorem Bridge.putQueue_eng_archTurn (q : Nat) (x : Queue) : (b.putQueue q x).eng.archTurn = b.eng.archTurn := rfl
@[simp] theorem Bridge.putQueue_eng_absentRefs (q : Nat) (x : Queue) : (b.putQueue q x).eng.absentRefs = b.eng.absentRefs := rfl
@[simp] theorem Bridge.putQueue_eng_svcErr (q : Nat) (x : Queue) : (b.putQueue q x).eng.svcErr = b.eng.svcErr := rfl
@[simp] theorem Bridge.putQueue_eng_done (q : Nat) (x : Queue) : (b.putQueue q x).eng.done = b.eng.done := rfl

/-! `Bridge.putTrn` writes eng.trn alone. -/

@[simp] theorem Bridge.putTrn_part (t : Transit) : (b.putTrn t).part = b.part := rfl
@[simp] theorem Bridge.putTrn_authFuse (t : Transit) : (b.putTrn t).authFuse = b.authFuse := rfl
@[simp] theorem Bridge.putTrn_tick (t : Transit) : (b.putTrn t).tick = b.tick := rfl
@[simp] theorem Bridge.putTrn_freeCtr (t : Transit) : (b.putTrn t).freeCtr = b.freeCtr := rfl
@[simp] theorem Bridge.putTrn_nextId (t : Transit) : (b.putTrn t).nextId = b.nextId := rfl
@[simp] theorem Bridge.putTrn_out (t : Transit) : (b.putTrn t).out = b.out := rfl
@[simp] theorem Bridge.putTrn_regs (t : Transit) : (b.putTrn t).regs = b.regs := rfl
@[simp] theorem Bridge.putTrn_overridden (t : Transit) : (b.putTrn t).overridden = b.overridden := rfl
@[simp] theorem Bridge.putTrn_cfg (t : Transit) : (b.putTrn t).cfg = b.cfg := rfl
@[simp] theorem Bridge.putTrn_msix (t : Transit) : (b.putTrn t).msix = b.msix := rfl
@[simp] theorem Bridge.putTrn_pendVec (t : Transit) : (b.putTrn t).pendVec = b.pendVec := rfl
@[simp] theorem Bridge.putTrn_pins (t : Transit) : (b.putTrn t).pins = b.pins := rfl
@[simp] theorem Bridge.putTrn_kept (t : Transit) : (b.putTrn t).kept = b.kept := rfl
@[simp] theorem Bridge.putTrn_alm (t : Transit) : (b.putTrn t).alm = b.alm := rfl
@[simp] theorem Bridge.putTrn_archReqs (t : Transit) : (b.putTrn t).archReqs = b.archReqs := rfl
@[simp] theorem Bridge.putTrn_ledger (t : Transit) : (b.putTrn t).ledger = b.ledger := rfl
@[simp] theorem Bridge.putTrn_freed (t : Transit) : (b.putTrn t).freed = b.freed := rfl
@[simp] theorem Bridge.putTrn_pbs (t : Transit) : (b.putTrn t).pbs = b.pbs := rfl
@[simp] theorem Bridge.putTrn_proving (t : Transit) : (b.putTrn t).proving = b.proving := rfl
@[simp] theorem Bridge.putTrn_reqs (t : Transit) : (b.putTrn t).reqs = b.reqs := rfl
@[simp] theorem Bridge.putTrn_hostReads (t : Transit) : (b.putTrn t).hostReads = b.hostReads := rfl
@[simp] theorem Bridge.putTrn_ups (t : Transit) : (b.putTrn t).ups = b.ups := rfl
@[simp] theorem Bridge.putTrn_barriers (t : Transit) : (b.putTrn t).barriers = b.barriers := rfl
@[simp] theorem Bridge.putTrn_barSeq (t : Transit) : (b.putTrn t).barSeq = b.barSeq := rfl
@[simp] theorem Bridge.putTrn_barStat (t : Transit) : (b.putTrn t).barStat = b.barStat := rfl
@[simp] theorem Bridge.putTrn_eng_chans (t : Transit) : (b.putTrn t).eng.chans = b.eng.chans := rfl
@[simp] theorem Bridge.putTrn_eng_finders (t : Transit) : (b.putTrn t).eng.finders = b.eng.finders := rfl
@[simp] theorem Bridge.putTrn_eng_scheds (t : Transit) : (b.putTrn t).eng.scheds = b.eng.scheds := rfl
@[simp] theorem Bridge.putTrn_eng_buckets (t : Transit) : (b.putTrn t).eng.buckets = b.eng.buckets := rfl
@[simp] theorem Bridge.putTrn_eng_sharePend (t : Transit) : (b.putTrn t).eng.sharePend = b.eng.sharePend := rfl
@[simp] theorem Bridge.putTrn_eng_guides (t : Transit) : (b.putTrn t).eng.guides = b.eng.guides := rfl
@[simp] theorem Bridge.putTrn_eng_insts (t : Transit) : (b.putTrn t).eng.insts = b.eng.insts := rfl
@[simp] theorem Bridge.putTrn_eng_reserve (t : Transit) : (b.putTrn t).eng.reserve = b.eng.reserve := rfl
@[simp] theorem Bridge.putTrn_eng_queues (t : Transit) : (b.putTrn t).eng.queues = b.eng.queues := rfl
@[simp] theorem Bridge.putTrn_eng_merTags (t : Transit) : (b.putTrn t).eng.merTags = b.eng.merTags := rfl
@[simp] theorem Bridge.putTrn_eng_merPorts (t : Transit) : (b.putTrn t).eng.merPorts = b.eng.merPorts := rfl
@[simp] theorem Bridge.putTrn_eng_lanes (t : Transit) : (b.putTrn t).eng.lanes = b.eng.lanes := rfl
@[simp] theorem Bridge.putTrn_eng_links (t : Transit) : (b.putTrn t).eng.links = b.eng.links := rfl
@[simp] theorem Bridge.putTrn_eng_pair (t : Transit) : (b.putTrn t).eng.pair = b.eng.pair := rfl
@[simp] theorem Bridge.putTrn_eng_doms (t : Transit) : (b.putTrn t).eng.doms = b.eng.doms := rfl
@[simp] theorem Bridge.putTrn_eng_eyes (t : Transit) : (b.putTrn t).eng.eyes = b.eng.eyes := rfl
@[simp] theorem Bridge.putTrn_eng_resets (t : Transit) : (b.putTrn t).eng.resets = b.eng.resets := rfl
@[simp] theorem Bridge.putTrn_eng_ltr (t : Transit) : (b.putTrn t).eng.ltr = b.eng.ltr := rfl
@[simp] theorem Bridge.putTrn_eng_quotaWait (t : Transit) : (b.putTrn t).eng.quotaWait = b.eng.quotaWait := rfl
@[simp] theorem Bridge.putTrn_eng_drainWait (t : Transit) : (b.putTrn t).eng.drainWait = b.eng.drainWait := rfl
@[simp] theorem Bridge.putTrn_eng_held (t : Transit) : (b.putTrn t).eng.held = b.eng.held := rfl
@[simp] theorem Bridge.putTrn_eng_dimSince (t : Transit) : (b.putTrn t).eng.dimSince = b.eng.dimSince := rfl
@[simp] theorem Bridge.putTrn_eng_wakeStart (t : Transit) : (b.putTrn t).eng.wakeStart = b.eng.wakeStart := rfl
@[simp] theorem Bridge.putTrn_eng_calStart (t : Transit) : (b.putTrn t).eng.calStart = b.eng.calStart := rfl
@[simp] theorem Bridge.putTrn_eng_calPeriod (t : Transit) : (b.putTrn t).eng.calPeriod = b.eng.calPeriod := rfl
@[simp] theorem Bridge.putTrn_eng_pfFlrs (t : Transit) : (b.putTrn t).eng.pfFlrs = b.eng.pfFlrs := rfl
@[simp] theorem Bridge.putTrn_eng_domHeld (t : Transit) : (b.putTrn t).eng.domHeld = b.eng.domHeld := rfl
@[simp] theorem Bridge.putTrn_eng_logWait (t : Transit) : (b.putTrn t).eng.logWait = b.eng.logWait := rfl
@[simp] theorem Bridge.putTrn_eng_fcWait (t : Transit) : (b.putTrn t).eng.fcWait = b.eng.fcWait := rfl
@[simp] theorem Bridge.putTrn_eng_placeAt (t : Transit) : (b.putTrn t).eng.placeAt = b.eng.placeAt := rfl
@[simp] theorem Bridge.putTrn_eng_cycle (t : Transit) : (b.putTrn t).eng.cycle = b.eng.cycle := rfl
@[simp] theorem Bridge.putTrn_eng_archUsed (t : Transit) : (b.putTrn t).eng.archUsed = b.eng.archUsed := rfl
@[simp] theorem Bridge.putTrn_eng_archTurn (t : Transit) : (b.putTrn t).eng.archTurn = b.eng.archTurn := rfl
@[simp] theorem Bridge.putTrn_eng_absentRefs (t : Transit) : (b.putTrn t).eng.absentRefs = b.eng.absentRefs := rfl
@[simp] theorem Bridge.putTrn_eng_svcErr (t : Transit) : (b.putTrn t).eng.svcErr = b.eng.svcErr := rfl
@[simp] theorem Bridge.putTrn_eng_done (t : Transit) : (b.putTrn t).eng.done = b.eng.done := rfl

/-! `Bridge.putPair` writes eng.pair alone. -/

@[simp] theorem Bridge.putPair_part (p : Pair) : (b.putPair p).part = b.part := rfl
@[simp] theorem Bridge.putPair_authFuse (p : Pair) : (b.putPair p).authFuse = b.authFuse := rfl
@[simp] theorem Bridge.putPair_tick (p : Pair) : (b.putPair p).tick = b.tick := rfl
@[simp] theorem Bridge.putPair_freeCtr (p : Pair) : (b.putPair p).freeCtr = b.freeCtr := rfl
@[simp] theorem Bridge.putPair_nextId (p : Pair) : (b.putPair p).nextId = b.nextId := rfl
@[simp] theorem Bridge.putPair_out (p : Pair) : (b.putPair p).out = b.out := rfl
@[simp] theorem Bridge.putPair_regs (p : Pair) : (b.putPair p).regs = b.regs := rfl
@[simp] theorem Bridge.putPair_overridden (p : Pair) : (b.putPair p).overridden = b.overridden := rfl
@[simp] theorem Bridge.putPair_cfg (p : Pair) : (b.putPair p).cfg = b.cfg := rfl
@[simp] theorem Bridge.putPair_msix (p : Pair) : (b.putPair p).msix = b.msix := rfl
@[simp] theorem Bridge.putPair_pendVec (p : Pair) : (b.putPair p).pendVec = b.pendVec := rfl
@[simp] theorem Bridge.putPair_pins (p : Pair) : (b.putPair p).pins = b.pins := rfl
@[simp] theorem Bridge.putPair_kept (p : Pair) : (b.putPair p).kept = b.kept := rfl
@[simp] theorem Bridge.putPair_alm (p : Pair) : (b.putPair p).alm = b.alm := rfl
@[simp] theorem Bridge.putPair_archReqs (p : Pair) : (b.putPair p).archReqs = b.archReqs := rfl
@[simp] theorem Bridge.putPair_ledger (p : Pair) : (b.putPair p).ledger = b.ledger := rfl
@[simp] theorem Bridge.putPair_freed (p : Pair) : (b.putPair p).freed = b.freed := rfl
@[simp] theorem Bridge.putPair_pbs (p : Pair) : (b.putPair p).pbs = b.pbs := rfl
@[simp] theorem Bridge.putPair_proving (p : Pair) : (b.putPair p).proving = b.proving := rfl
@[simp] theorem Bridge.putPair_reqs (p : Pair) : (b.putPair p).reqs = b.reqs := rfl
@[simp] theorem Bridge.putPair_hostReads (p : Pair) : (b.putPair p).hostReads = b.hostReads := rfl
@[simp] theorem Bridge.putPair_ups (p : Pair) : (b.putPair p).ups = b.ups := rfl
@[simp] theorem Bridge.putPair_barriers (p : Pair) : (b.putPair p).barriers = b.barriers := rfl
@[simp] theorem Bridge.putPair_barSeq (p : Pair) : (b.putPair p).barSeq = b.barSeq := rfl
@[simp] theorem Bridge.putPair_barStat (p : Pair) : (b.putPair p).barStat = b.barStat := rfl
@[simp] theorem Bridge.putPair_eng_chans (p : Pair) : (b.putPair p).eng.chans = b.eng.chans := rfl
@[simp] theorem Bridge.putPair_eng_finders (p : Pair) : (b.putPair p).eng.finders = b.eng.finders := rfl
@[simp] theorem Bridge.putPair_eng_scheds (p : Pair) : (b.putPair p).eng.scheds = b.eng.scheds := rfl
@[simp] theorem Bridge.putPair_eng_buckets (p : Pair) : (b.putPair p).eng.buckets = b.eng.buckets := rfl
@[simp] theorem Bridge.putPair_eng_sharePend (p : Pair) : (b.putPair p).eng.sharePend = b.eng.sharePend := rfl
@[simp] theorem Bridge.putPair_eng_guides (p : Pair) : (b.putPair p).eng.guides = b.eng.guides := rfl
@[simp] theorem Bridge.putPair_eng_insts (p : Pair) : (b.putPair p).eng.insts = b.eng.insts := rfl
@[simp] theorem Bridge.putPair_eng_reserve (p : Pair) : (b.putPair p).eng.reserve = b.eng.reserve := rfl
@[simp] theorem Bridge.putPair_eng_queues (p : Pair) : (b.putPair p).eng.queues = b.eng.queues := rfl
@[simp] theorem Bridge.putPair_eng_merTags (p : Pair) : (b.putPair p).eng.merTags = b.eng.merTags := rfl
@[simp] theorem Bridge.putPair_eng_merPorts (p : Pair) : (b.putPair p).eng.merPorts = b.eng.merPorts := rfl
@[simp] theorem Bridge.putPair_eng_lanes (p : Pair) : (b.putPair p).eng.lanes = b.eng.lanes := rfl
@[simp] theorem Bridge.putPair_eng_links (p : Pair) : (b.putPair p).eng.links = b.eng.links := rfl
@[simp] theorem Bridge.putPair_eng_trn (p : Pair) : (b.putPair p).eng.trn = b.eng.trn := rfl
@[simp] theorem Bridge.putPair_eng_doms (p : Pair) : (b.putPair p).eng.doms = b.eng.doms := rfl
@[simp] theorem Bridge.putPair_eng_eyes (p : Pair) : (b.putPair p).eng.eyes = b.eng.eyes := rfl
@[simp] theorem Bridge.putPair_eng_resets (p : Pair) : (b.putPair p).eng.resets = b.eng.resets := rfl
@[simp] theorem Bridge.putPair_eng_ltr (p : Pair) : (b.putPair p).eng.ltr = b.eng.ltr := rfl
@[simp] theorem Bridge.putPair_eng_quotaWait (p : Pair) : (b.putPair p).eng.quotaWait = b.eng.quotaWait := rfl
@[simp] theorem Bridge.putPair_eng_drainWait (p : Pair) : (b.putPair p).eng.drainWait = b.eng.drainWait := rfl
@[simp] theorem Bridge.putPair_eng_held (p : Pair) : (b.putPair p).eng.held = b.eng.held := rfl
@[simp] theorem Bridge.putPair_eng_dimSince (p : Pair) : (b.putPair p).eng.dimSince = b.eng.dimSince := rfl
@[simp] theorem Bridge.putPair_eng_wakeStart (p : Pair) : (b.putPair p).eng.wakeStart = b.eng.wakeStart := rfl
@[simp] theorem Bridge.putPair_eng_calStart (p : Pair) : (b.putPair p).eng.calStart = b.eng.calStart := rfl
@[simp] theorem Bridge.putPair_eng_calPeriod (p : Pair) : (b.putPair p).eng.calPeriod = b.eng.calPeriod := rfl
@[simp] theorem Bridge.putPair_eng_pfFlrs (p : Pair) : (b.putPair p).eng.pfFlrs = b.eng.pfFlrs := rfl
@[simp] theorem Bridge.putPair_eng_domHeld (p : Pair) : (b.putPair p).eng.domHeld = b.eng.domHeld := rfl
@[simp] theorem Bridge.putPair_eng_logWait (p : Pair) : (b.putPair p).eng.logWait = b.eng.logWait := rfl
@[simp] theorem Bridge.putPair_eng_fcWait (p : Pair) : (b.putPair p).eng.fcWait = b.eng.fcWait := rfl
@[simp] theorem Bridge.putPair_eng_placeAt (p : Pair) : (b.putPair p).eng.placeAt = b.eng.placeAt := rfl
@[simp] theorem Bridge.putPair_eng_cycle (p : Pair) : (b.putPair p).eng.cycle = b.eng.cycle := rfl
@[simp] theorem Bridge.putPair_eng_archUsed (p : Pair) : (b.putPair p).eng.archUsed = b.eng.archUsed := rfl
@[simp] theorem Bridge.putPair_eng_archTurn (p : Pair) : (b.putPair p).eng.archTurn = b.eng.archTurn := rfl
@[simp] theorem Bridge.putPair_eng_absentRefs (p : Pair) : (b.putPair p).eng.absentRefs = b.eng.absentRefs := rfl
@[simp] theorem Bridge.putPair_eng_svcErr (p : Pair) : (b.putPair p).eng.svcErr = b.eng.svcErr := rfl
@[simp] theorem Bridge.putPair_eng_done (p : Pair) : (b.putPair p).eng.done = b.eng.done := rfl

/-! `Bridge.putMerPort` writes eng.merPorts alone. -/

@[simp] theorem Bridge.putMerPort_part (x : MerPort) : (b.putMerPort x).part = b.part := rfl
@[simp] theorem Bridge.putMerPort_authFuse (x : MerPort) : (b.putMerPort x).authFuse = b.authFuse := rfl
@[simp] theorem Bridge.putMerPort_tick (x : MerPort) : (b.putMerPort x).tick = b.tick := rfl
@[simp] theorem Bridge.putMerPort_freeCtr (x : MerPort) : (b.putMerPort x).freeCtr = b.freeCtr := rfl
@[simp] theorem Bridge.putMerPort_nextId (x : MerPort) : (b.putMerPort x).nextId = b.nextId := rfl
@[simp] theorem Bridge.putMerPort_out (x : MerPort) : (b.putMerPort x).out = b.out := rfl
@[simp] theorem Bridge.putMerPort_regs (x : MerPort) : (b.putMerPort x).regs = b.regs := rfl
@[simp] theorem Bridge.putMerPort_overridden (x : MerPort) : (b.putMerPort x).overridden = b.overridden := rfl
@[simp] theorem Bridge.putMerPort_cfg (x : MerPort) : (b.putMerPort x).cfg = b.cfg := rfl
@[simp] theorem Bridge.putMerPort_msix (x : MerPort) : (b.putMerPort x).msix = b.msix := rfl
@[simp] theorem Bridge.putMerPort_pendVec (x : MerPort) : (b.putMerPort x).pendVec = b.pendVec := rfl
@[simp] theorem Bridge.putMerPort_pins (x : MerPort) : (b.putMerPort x).pins = b.pins := rfl
@[simp] theorem Bridge.putMerPort_kept (x : MerPort) : (b.putMerPort x).kept = b.kept := rfl
@[simp] theorem Bridge.putMerPort_alm (x : MerPort) : (b.putMerPort x).alm = b.alm := rfl
@[simp] theorem Bridge.putMerPort_archReqs (x : MerPort) : (b.putMerPort x).archReqs = b.archReqs := rfl
@[simp] theorem Bridge.putMerPort_ledger (x : MerPort) : (b.putMerPort x).ledger = b.ledger := rfl
@[simp] theorem Bridge.putMerPort_freed (x : MerPort) : (b.putMerPort x).freed = b.freed := rfl
@[simp] theorem Bridge.putMerPort_pbs (x : MerPort) : (b.putMerPort x).pbs = b.pbs := rfl
@[simp] theorem Bridge.putMerPort_proving (x : MerPort) : (b.putMerPort x).proving = b.proving := rfl
@[simp] theorem Bridge.putMerPort_reqs (x : MerPort) : (b.putMerPort x).reqs = b.reqs := rfl
@[simp] theorem Bridge.putMerPort_hostReads (x : MerPort) : (b.putMerPort x).hostReads = b.hostReads := rfl
@[simp] theorem Bridge.putMerPort_ups (x : MerPort) : (b.putMerPort x).ups = b.ups := rfl
@[simp] theorem Bridge.putMerPort_barriers (x : MerPort) : (b.putMerPort x).barriers = b.barriers := rfl
@[simp] theorem Bridge.putMerPort_barSeq (x : MerPort) : (b.putMerPort x).barSeq = b.barSeq := rfl
@[simp] theorem Bridge.putMerPort_barStat (x : MerPort) : (b.putMerPort x).barStat = b.barStat := rfl
@[simp] theorem Bridge.putMerPort_eng_chans (x : MerPort) : (b.putMerPort x).eng.chans = b.eng.chans := rfl
@[simp] theorem Bridge.putMerPort_eng_finders (x : MerPort) : (b.putMerPort x).eng.finders = b.eng.finders := rfl
@[simp] theorem Bridge.putMerPort_eng_scheds (x : MerPort) : (b.putMerPort x).eng.scheds = b.eng.scheds := rfl
@[simp] theorem Bridge.putMerPort_eng_buckets (x : MerPort) : (b.putMerPort x).eng.buckets = b.eng.buckets := rfl
@[simp] theorem Bridge.putMerPort_eng_sharePend (x : MerPort) : (b.putMerPort x).eng.sharePend = b.eng.sharePend := rfl
@[simp] theorem Bridge.putMerPort_eng_guides (x : MerPort) : (b.putMerPort x).eng.guides = b.eng.guides := rfl
@[simp] theorem Bridge.putMerPort_eng_insts (x : MerPort) : (b.putMerPort x).eng.insts = b.eng.insts := rfl
@[simp] theorem Bridge.putMerPort_eng_reserve (x : MerPort) : (b.putMerPort x).eng.reserve = b.eng.reserve := rfl
@[simp] theorem Bridge.putMerPort_eng_queues (x : MerPort) : (b.putMerPort x).eng.queues = b.eng.queues := rfl
@[simp] theorem Bridge.putMerPort_eng_merTags (x : MerPort) : (b.putMerPort x).eng.merTags = b.eng.merTags := rfl
@[simp] theorem Bridge.putMerPort_eng_trn (x : MerPort) : (b.putMerPort x).eng.trn = b.eng.trn := rfl
@[simp] theorem Bridge.putMerPort_eng_lanes (x : MerPort) : (b.putMerPort x).eng.lanes = b.eng.lanes := rfl
@[simp] theorem Bridge.putMerPort_eng_links (x : MerPort) : (b.putMerPort x).eng.links = b.eng.links := rfl
@[simp] theorem Bridge.putMerPort_eng_pair (x : MerPort) : (b.putMerPort x).eng.pair = b.eng.pair := rfl
@[simp] theorem Bridge.putMerPort_eng_doms (x : MerPort) : (b.putMerPort x).eng.doms = b.eng.doms := rfl
@[simp] theorem Bridge.putMerPort_eng_eyes (x : MerPort) : (b.putMerPort x).eng.eyes = b.eng.eyes := rfl
@[simp] theorem Bridge.putMerPort_eng_resets (x : MerPort) : (b.putMerPort x).eng.resets = b.eng.resets := rfl
@[simp] theorem Bridge.putMerPort_eng_ltr (x : MerPort) : (b.putMerPort x).eng.ltr = b.eng.ltr := rfl
@[simp] theorem Bridge.putMerPort_eng_quotaWait (x : MerPort) : (b.putMerPort x).eng.quotaWait = b.eng.quotaWait := rfl
@[simp] theorem Bridge.putMerPort_eng_drainWait (x : MerPort) : (b.putMerPort x).eng.drainWait = b.eng.drainWait := rfl
@[simp] theorem Bridge.putMerPort_eng_held (x : MerPort) : (b.putMerPort x).eng.held = b.eng.held := rfl
@[simp] theorem Bridge.putMerPort_eng_dimSince (x : MerPort) : (b.putMerPort x).eng.dimSince = b.eng.dimSince := rfl
@[simp] theorem Bridge.putMerPort_eng_wakeStart (x : MerPort) : (b.putMerPort x).eng.wakeStart = b.eng.wakeStart := rfl
@[simp] theorem Bridge.putMerPort_eng_calStart (x : MerPort) : (b.putMerPort x).eng.calStart = b.eng.calStart := rfl
@[simp] theorem Bridge.putMerPort_eng_calPeriod (x : MerPort) : (b.putMerPort x).eng.calPeriod = b.eng.calPeriod := rfl
@[simp] theorem Bridge.putMerPort_eng_pfFlrs (x : MerPort) : (b.putMerPort x).eng.pfFlrs = b.eng.pfFlrs := rfl
@[simp] theorem Bridge.putMerPort_eng_domHeld (x : MerPort) : (b.putMerPort x).eng.domHeld = b.eng.domHeld := rfl
@[simp] theorem Bridge.putMerPort_eng_logWait (x : MerPort) : (b.putMerPort x).eng.logWait = b.eng.logWait := rfl
@[simp] theorem Bridge.putMerPort_eng_fcWait (x : MerPort) : (b.putMerPort x).eng.fcWait = b.eng.fcWait := rfl
@[simp] theorem Bridge.putMerPort_eng_placeAt (x : MerPort) : (b.putMerPort x).eng.placeAt = b.eng.placeAt := rfl
@[simp] theorem Bridge.putMerPort_eng_cycle (x : MerPort) : (b.putMerPort x).eng.cycle = b.eng.cycle := rfl
@[simp] theorem Bridge.putMerPort_eng_archUsed (x : MerPort) : (b.putMerPort x).eng.archUsed = b.eng.archUsed := rfl
@[simp] theorem Bridge.putMerPort_eng_archTurn (x : MerPort) : (b.putMerPort x).eng.archTurn = b.eng.archTurn := rfl
@[simp] theorem Bridge.putMerPort_eng_absentRefs (x : MerPort) : (b.putMerPort x).eng.absentRefs = b.eng.absentRefs := rfl
@[simp] theorem Bridge.putMerPort_eng_svcErr (x : MerPort) : (b.putMerPort x).eng.svcErr = b.eng.svcErr := rfl
@[simp] theorem Bridge.putMerPort_eng_done (x : MerPort) : (b.putMerPort x).eng.done = b.eng.done := rfl

/-! `Bridge.holdCmd` writes eng.held alone. -/

@[simp] theorem Bridge.holdCmd_part (i : Instr) : (b.holdCmd i).part = b.part := rfl
@[simp] theorem Bridge.holdCmd_authFuse (i : Instr) : (b.holdCmd i).authFuse = b.authFuse := rfl
@[simp] theorem Bridge.holdCmd_tick (i : Instr) : (b.holdCmd i).tick = b.tick := rfl
@[simp] theorem Bridge.holdCmd_freeCtr (i : Instr) : (b.holdCmd i).freeCtr = b.freeCtr := rfl
@[simp] theorem Bridge.holdCmd_nextId (i : Instr) : (b.holdCmd i).nextId = b.nextId := rfl
@[simp] theorem Bridge.holdCmd_out (i : Instr) : (b.holdCmd i).out = b.out := rfl
@[simp] theorem Bridge.holdCmd_regs (i : Instr) : (b.holdCmd i).regs = b.regs := rfl
@[simp] theorem Bridge.holdCmd_overridden (i : Instr) : (b.holdCmd i).overridden = b.overridden := rfl
@[simp] theorem Bridge.holdCmd_cfg (i : Instr) : (b.holdCmd i).cfg = b.cfg := rfl
@[simp] theorem Bridge.holdCmd_msix (i : Instr) : (b.holdCmd i).msix = b.msix := rfl
@[simp] theorem Bridge.holdCmd_pendVec (i : Instr) : (b.holdCmd i).pendVec = b.pendVec := rfl
@[simp] theorem Bridge.holdCmd_pins (i : Instr) : (b.holdCmd i).pins = b.pins := rfl
@[simp] theorem Bridge.holdCmd_kept (i : Instr) : (b.holdCmd i).kept = b.kept := rfl
@[simp] theorem Bridge.holdCmd_alm (i : Instr) : (b.holdCmd i).alm = b.alm := rfl
@[simp] theorem Bridge.holdCmd_archReqs (i : Instr) : (b.holdCmd i).archReqs = b.archReqs := rfl
@[simp] theorem Bridge.holdCmd_ledger (i : Instr) : (b.holdCmd i).ledger = b.ledger := rfl
@[simp] theorem Bridge.holdCmd_freed (i : Instr) : (b.holdCmd i).freed = b.freed := rfl
@[simp] theorem Bridge.holdCmd_pbs (i : Instr) : (b.holdCmd i).pbs = b.pbs := rfl
@[simp] theorem Bridge.holdCmd_proving (i : Instr) : (b.holdCmd i).proving = b.proving := rfl
@[simp] theorem Bridge.holdCmd_reqs (i : Instr) : (b.holdCmd i).reqs = b.reqs := rfl
@[simp] theorem Bridge.holdCmd_hostReads (i : Instr) : (b.holdCmd i).hostReads = b.hostReads := rfl
@[simp] theorem Bridge.holdCmd_ups (i : Instr) : (b.holdCmd i).ups = b.ups := rfl
@[simp] theorem Bridge.holdCmd_barriers (i : Instr) : (b.holdCmd i).barriers = b.barriers := rfl
@[simp] theorem Bridge.holdCmd_barSeq (i : Instr) : (b.holdCmd i).barSeq = b.barSeq := rfl
@[simp] theorem Bridge.holdCmd_barStat (i : Instr) : (b.holdCmd i).barStat = b.barStat := rfl
@[simp] theorem Bridge.holdCmd_eng_chans (i : Instr) : (b.holdCmd i).eng.chans = b.eng.chans := rfl
@[simp] theorem Bridge.holdCmd_eng_finders (i : Instr) : (b.holdCmd i).eng.finders = b.eng.finders := rfl
@[simp] theorem Bridge.holdCmd_eng_scheds (i : Instr) : (b.holdCmd i).eng.scheds = b.eng.scheds := rfl
@[simp] theorem Bridge.holdCmd_eng_buckets (i : Instr) : (b.holdCmd i).eng.buckets = b.eng.buckets := rfl
@[simp] theorem Bridge.holdCmd_eng_sharePend (i : Instr) : (b.holdCmd i).eng.sharePend = b.eng.sharePend := rfl
@[simp] theorem Bridge.holdCmd_eng_guides (i : Instr) : (b.holdCmd i).eng.guides = b.eng.guides := rfl
@[simp] theorem Bridge.holdCmd_eng_insts (i : Instr) : (b.holdCmd i).eng.insts = b.eng.insts := rfl
@[simp] theorem Bridge.holdCmd_eng_reserve (i : Instr) : (b.holdCmd i).eng.reserve = b.eng.reserve := rfl
@[simp] theorem Bridge.holdCmd_eng_queues (i : Instr) : (b.holdCmd i).eng.queues = b.eng.queues := rfl
@[simp] theorem Bridge.holdCmd_eng_merTags (i : Instr) : (b.holdCmd i).eng.merTags = b.eng.merTags := rfl
@[simp] theorem Bridge.holdCmd_eng_merPorts (i : Instr) : (b.holdCmd i).eng.merPorts = b.eng.merPorts := rfl
@[simp] theorem Bridge.holdCmd_eng_trn (i : Instr) : (b.holdCmd i).eng.trn = b.eng.trn := rfl
@[simp] theorem Bridge.holdCmd_eng_lanes (i : Instr) : (b.holdCmd i).eng.lanes = b.eng.lanes := rfl
@[simp] theorem Bridge.holdCmd_eng_links (i : Instr) : (b.holdCmd i).eng.links = b.eng.links := rfl
@[simp] theorem Bridge.holdCmd_eng_pair (i : Instr) : (b.holdCmd i).eng.pair = b.eng.pair := rfl
@[simp] theorem Bridge.holdCmd_eng_doms (i : Instr) : (b.holdCmd i).eng.doms = b.eng.doms := rfl
@[simp] theorem Bridge.holdCmd_eng_eyes (i : Instr) : (b.holdCmd i).eng.eyes = b.eng.eyes := rfl
@[simp] theorem Bridge.holdCmd_eng_resets (i : Instr) : (b.holdCmd i).eng.resets = b.eng.resets := rfl
@[simp] theorem Bridge.holdCmd_eng_ltr (i : Instr) : (b.holdCmd i).eng.ltr = b.eng.ltr := rfl
@[simp] theorem Bridge.holdCmd_eng_quotaWait (i : Instr) : (b.holdCmd i).eng.quotaWait = b.eng.quotaWait := rfl
@[simp] theorem Bridge.holdCmd_eng_drainWait (i : Instr) : (b.holdCmd i).eng.drainWait = b.eng.drainWait := rfl
@[simp] theorem Bridge.holdCmd_eng_dimSince (i : Instr) : (b.holdCmd i).eng.dimSince = b.eng.dimSince := rfl
@[simp] theorem Bridge.holdCmd_eng_wakeStart (i : Instr) : (b.holdCmd i).eng.wakeStart = b.eng.wakeStart := rfl
@[simp] theorem Bridge.holdCmd_eng_calStart (i : Instr) : (b.holdCmd i).eng.calStart = b.eng.calStart := rfl
@[simp] theorem Bridge.holdCmd_eng_calPeriod (i : Instr) : (b.holdCmd i).eng.calPeriod = b.eng.calPeriod := rfl
@[simp] theorem Bridge.holdCmd_eng_pfFlrs (i : Instr) : (b.holdCmd i).eng.pfFlrs = b.eng.pfFlrs := rfl
@[simp] theorem Bridge.holdCmd_eng_domHeld (i : Instr) : (b.holdCmd i).eng.domHeld = b.eng.domHeld := rfl
@[simp] theorem Bridge.holdCmd_eng_logWait (i : Instr) : (b.holdCmd i).eng.logWait = b.eng.logWait := rfl
@[simp] theorem Bridge.holdCmd_eng_fcWait (i : Instr) : (b.holdCmd i).eng.fcWait = b.eng.fcWait := rfl
@[simp] theorem Bridge.holdCmd_eng_placeAt (i : Instr) : (b.holdCmd i).eng.placeAt = b.eng.placeAt := rfl
@[simp] theorem Bridge.holdCmd_eng_cycle (i : Instr) : (b.holdCmd i).eng.cycle = b.eng.cycle := rfl
@[simp] theorem Bridge.holdCmd_eng_archUsed (i : Instr) : (b.holdCmd i).eng.archUsed = b.eng.archUsed := rfl
@[simp] theorem Bridge.holdCmd_eng_archTurn (i : Instr) : (b.holdCmd i).eng.archTurn = b.eng.archTurn := rfl
@[simp] theorem Bridge.holdCmd_eng_absentRefs (i : Instr) : (b.holdCmd i).eng.absentRefs = b.eng.absentRefs := rfl
@[simp] theorem Bridge.holdCmd_eng_svcErr (i : Instr) : (b.holdCmd i).eng.svcErr = b.eng.svcErr := rfl
@[simp] theorem Bridge.holdCmd_eng_done (i : Instr) : (b.holdCmd i).eng.done = b.eng.done := rfl

end Sys2Proof.Machine
end

