-- ==== Sys2Proof/Laws/Settle.lean ====
section
/-!
SUPPORT. Register reads after writes, what raising an event does, and what settling a calm bridge does: it only reports.
-/
namespace Sys2Proof.Machine

open Sys2Proof

/-! Registers. -/

@[simp] theorem Bridge.raw_put_self (b : Bridge) (r : Reg) (w : Word) : (b.put r w).raw r = w :=
  assocGet_assocPut_self _ _ _ _ _

theorem Bridge.raw_put_ne (b : Bridge) (r r' : Reg) (w : Word) (h : r' ≠ r) : (b.put r w).raw r' = b.raw r' :=
  assocGet_assocPut_ne _ _ _ _ _ _ _ h

@[simp] theorem Bridge.raw_set_self (b : Bridge) (r : Reg) (f : Fld) (v : Nat) : (b.set r f v).raw r = wput (b.raw r) f v :=
  b.raw_put_self r _

theorem Bridge.raw_set_ne (b : Bridge) (r r' : Reg) (f : Fld) (v : Nat) (h : r' ≠ r) : (b.set r f v).raw r' = b.raw r' :=
  b.raw_put_ne r r' _ h

theorem Bridge.get_set_self (b : Bridge) (r : Reg) (f : Fld) (v : Nat) (h : f.lo + f.len ≤ 64) :
    (b.set r f v).get r f = v % 2 ^ f.len := by
  unfold Bridge.get; rw [b.raw_set_self]; exact wget_wput_self _ _ _ h

theorem Bridge.get_set_apart (b : Bridge) (r : Reg) (f g : Fld) (v : Nat) (h : f.apart g) :
    (b.set r f v).get r g = b.get r g := by
  unfold Bridge.get; rw [b.raw_set_self]; exact wget_wput_apart _ _ _ _ h

theorem Bridge.get_put_ne (b : Bridge) (r r' : Reg) (w : Word) (f : Fld) (h : r' ≠ r) : (b.put r w).get r' f = b.get r' f := by
  unfold Bridge.get; rw [b.raw_put_ne r r' w h]

theorem Bridge.get_set_ne (b : Bridge) (r r' : Reg) (f g : Fld) (v : Nat) (h : r' ≠ r) : (b.set r f v).get r' g = b.get r' g :=
  b.get_put_ne r r' _ g h

theorem Bridge.raw_bump_ne (b : Bridge) (r r' : Reg) (f : Fld) (n : Nat) (h : r' ≠ r) : (b.bump r f n).raw r' = b.raw r' :=
  b.raw_put_ne r r' _ h

/-- A read depends on the part and the register file alone. -/
theorem Bridge.raw_congr (b c : Bridge) (r : Reg) (hp : b.part = c.part) (hr : b.regs = c.regs) : b.raw r = c.raw r := by
  unfold Bridge.raw; rw [hp, hr]

/-! Structures by key. -/

theorem Bridge.link_k (b : Bridge) (k : Nat) : (b.link k).k = k := by
  unfold Bridge.link
  cases h : b.eng.links.find? (fun l => decide (l.k = k)) with
  | none => rfl
  | some l => simpa using List.find?_some h

@[simp] theorem Bridge.link_putLink_self (b : Bridge) (l : Link) : (b.putLink l).link l.k = l := by
  unfold Bridge.putLink Bridge.link
  exact congrArg (fun o => Option.getD o _) (find?_listPut_self (fun y : Link => decide (y.k = l.k)) l b.eng.links (by simp))

theorem Bridge.link_putLink_at (b : Bridge) (l : Link) (k : Nat) (h : l.k = k) : (b.putLink l).link k = l :=
  h ▸ b.link_putLink_self l

theorem Bridge.link_putLink_ne (b : Bridge) (l : Link) (k : Nat) (h : k ≠ l.k) : (b.putLink l).link k = b.link k := by
  unfold Bridge.putLink Bridge.link
  exact congrArg (fun o => Option.getD o _) (find?_listPut_ne (fun y : Link => decide (y.k = l.k))
    (fun y : Link => decide (y.k = k)) l b.eng.links (by simp [Ne.symm h])
    (fun y hy => by simp only [decide_eq_true_eq] at hy; simp [hy, Ne.symm h]))

theorem Bridge.lane_i (b : Bridge) (k : Nat) : (b.lane k).i = k := by
  unfold Bridge.lane
  cases h : b.eng.lanes.find? (fun l => decide (l.i = k)) with
  | none => rfl
  | some l => simpa using List.find?_some h

@[simp] theorem Bridge.lane_putLane_self (b : Bridge) (l : Lane) : (b.putLane l).lane l.i = l := by
  unfold Bridge.putLane Bridge.lane
  exact congrArg (fun o => Option.getD o _) (find?_listPut_self (fun y : Lane => decide (y.i = l.i)) l b.eng.lanes (by simp))

theorem Bridge.lane_putLane_at (b : Bridge) (l : Lane) (k : Nat) (h : l.i = k) : (b.putLane l).lane k = l :=
  h ▸ b.lane_putLane_self l

theorem Bridge.lane_putLane_ne (b : Bridge) (l : Lane) (k : Nat) (h : k ≠ l.i) : (b.putLane l).lane k = b.lane k := by
  unfold Bridge.putLane Bridge.lane
  exact congrArg (fun o => Option.getD o _) (find?_listPut_ne (fun y : Lane => decide (y.i = l.i))
    (fun y : Lane => decide (y.i = k)) l b.eng.lanes (by simp [Ne.symm h])
    (fun y hy => by simp only [decide_eq_true_eq] at hy; simp [hy, Ne.symm h]))

theorem Bridge.chan_c (b : Bridge) (k : Nat) : (b.chan k).c = k := by
  unfold Bridge.chan
  cases h : b.eng.chans.find? (fun l => decide (l.c = k)) with
  | none => rfl
  | some l => simpa using List.find?_some h

@[simp] theorem Bridge.chan_putChan_self (b : Bridge) (l : Chan) : (b.putChan l).chan l.c = l := by
  unfold Bridge.putChan Bridge.chan
  exact congrArg (fun o => Option.getD o _) (find?_listPut_self (fun y : Chan => decide (y.c = l.c)) l b.eng.chans (by simp))

theorem Bridge.chan_putChan_at (b : Bridge) (l : Chan) (k : Nat) (h : l.c = k) : (b.putChan l).chan k = l :=
  h ▸ b.chan_putChan_self l

theorem Bridge.chan_putChan_ne (b : Bridge) (l : Chan) (k : Nat) (h : k ≠ l.c) : (b.putChan l).chan k = b.chan k := by
  unfold Bridge.putChan Bridge.chan
  exact congrArg (fun o => Option.getD o _) (find?_listPut_ne (fun y : Chan => decide (y.c = l.c))
    (fun y : Chan => decide (y.c = k)) l b.eng.chans (by simp [Ne.symm h])
    (fun y hy => by simp only [decide_eq_true_eq] at hy; simp [hy, Ne.symm h]))

theorem Bridge.finder_f (b : Bridge) (k : Nat) : (b.finder k).f = k := by
  unfold Bridge.finder
  cases h : b.eng.finders.find? (fun l => decide (l.f = k)) with
  | none => rfl
  | some l => simpa using List.find?_some h

@[simp] theorem Bridge.finder_putFinder_self (b : Bridge) (l : Finder) : (b.putFinder l).finder l.f = l := by
  unfold Bridge.putFinder Bridge.finder
  exact congrArg (fun o => Option.getD o _) (find?_listPut_self (fun y : Finder => decide (y.f = l.f)) l b.eng.finders (by simp))

theorem Bridge.finder_putFinder_at (b : Bridge) (l : Finder) (k : Nat) (h : l.f = k) : (b.putFinder l).finder k = l :=
  h ▸ b.finder_putFinder_self l

theorem Bridge.finder_putFinder_ne (b : Bridge) (l : Finder) (k : Nat) (h : k ≠ l.f) : (b.putFinder l).finder k = b.finder k := by
  unfold Bridge.putFinder Bridge.finder
  exact congrArg (fun o => Option.getD o _) (find?_listPut_ne (fun y : Finder => decide (y.f = l.f))
    (fun y : Finder => decide (y.f = k)) l b.eng.finders (by simp [Ne.symm h])
    (fun y hy => by simp only [decide_eq_true_eq] at hy; simp [hy, Ne.symm h]))

theorem Bridge.merPort_p (b : Bridge) (k : Nat) : (b.merPort k).p = k := by
  unfold Bridge.merPort
  cases h : b.eng.merPorts.find? (fun l => decide (l.p = k)) with
  | none => rfl
  | some l => simpa using List.find?_some h

@[simp] theorem Bridge.merPort_putMerPort_self (b : Bridge) (l : MerPort) : (b.putMerPort l).merPort l.p = l := by
  unfold Bridge.putMerPort Bridge.merPort
  exact congrArg (fun o => Option.getD o _) (find?_listPut_self (fun y : MerPort => decide (y.p = l.p)) l b.eng.merPorts (by simp))

theorem Bridge.merPort_putMerPort_at (b : Bridge) (l : MerPort) (k : Nat) (h : l.p = k) : (b.putMerPort l).merPort k = l :=
  h ▸ b.merPort_putMerPort_self l

theorem Bridge.merPort_putMerPort_ne (b : Bridge) (l : MerPort) (k : Nat) (h : k ≠ l.p) : (b.putMerPort l).merPort k = b.merPort k := by
  unfold Bridge.putMerPort Bridge.merPort
  exact congrArg (fun o => Option.getD o _) (find?_listPut_ne (fun y : MerPort => decide (y.p = l.p))
    (fun y : MerPort => decide (y.p = k)) l b.eng.merPorts (by simp [Ne.symm h])
    (fun y hy => by simp only [decide_eq_true_eq] at hy; simp [hy, Ne.symm h]))

@[simp] theorem Bridge.queue_putQueue_self (b : Bridge) (q : Nat) (x : Queue) : (b.putQueue q x).queue q = x :=
  alGet_alPut_self _ _ _ _

theorem Bridge.queue_putQueue_ne (b : Bridge) (q r : Nat) (x : Queue) (h : r ≠ q) : (b.putQueue q x).queue r = b.queue r :=
  alGet_alPut_ne _ _ _ _ _ h

@[simp] theorem Bridge.inst?_putInst_self (b : Bridge) (x : Inst) : (b.putInst x).inst? x.v = some x :=
  find?_listPut_self (fun y : Inst => decide (y.v = x.v)) x b.eng.insts (by simp)

theorem Bridge.inst?_putInst_ne (b : Bridge) (x : Inst) (v : Nat) (h : v ≠ x.v) : (b.putInst x).inst? v = b.inst? v :=
  find?_listPut_ne (fun y : Inst => decide (y.v = x.v)) (fun y : Inst => decide (y.v = v)) x b.eng.insts (by simp [Ne.symm h])
    (fun y hy => by simp only [decide_eq_true_eq] at hy; simp [hy, Ne.symm h])

/-! Reporting. -/

theorem Bridge.Reported.refl (b : Bridge) : b.Reported b :=
  ⟨rfl, fun _ _ => rfl, fun _ _ h => h, ⟨[], by simp⟩, ⟨[], by simp⟩, fun _ h => h, fun _ => rfl, fun _ => .inl rfl⟩

theorem Bridge.Reported.trans {a b c : Bridge} (h : a.Reported b) (g : b.Reported c) : a.Reported c where
  shape := by
    have h1 := h.shape
    have g1 := g.shape
    rw [h1] at g1
    exact g1
  raw := fun r hr => (g.raw r hr).trans (h.raw r hr)
  events := fun k n hk => g.events k n (h.events k n hk)
  out := by
    obtain ⟨l, hl⟩ := h.out
    obtain ⟨l', hl'⟩ := g.out
    exact ⟨l ++ l', by rw [hl', hl, List.append_assoc]⟩
  reqs := by
    obtain ⟨l, hl, hm⟩ := h.reqs
    obtain ⟨l', hl', hm'⟩ := g.reqs
    refine ⟨l ++ l', by rw [hl', hl, List.append_assoc], fun j hj => ?_⟩
    rcases List.mem_append.mp hj with hj | hj
    · exact hm j hj
    · exact hm' j hj
  pendVec := fun p hp => g.pendVec p (h.pendVec p hp)
  link := fun k => by rw [g.link k, h.link k]
  dom := fun n => by
    rcases h.dom n with h | h <;> rcases g.dom n with g | g
    · exact .inl (g.trans h)
    · exact .inr ⟨h ▸ g.1, g.2⟩
    · exact .inr ⟨h.1, g.trans h.2⟩
    · exact absurd (h.2.symm.trans g.1) (by decide)

/-- Folding reports reports. -/
theorem Bridge.Reported.fold {α : Type} (f : Bridge → α → Bridge) (hf : ∀ (b : Bridge) (x : α), b.Reported (f b x)) (l : List α) (b : Bridge) :
    b.Reported (l.foldl f b) := by
  induction l generalizing b with
  | nil => exact .refl b
  | cons x l ih => exact (hf b x).trans (ih (f b x))

/-- A field that settling never touches reads as before. -/
theorem Bridge.Reported.get {b t : Bridge} (h : b.Reported t) (r : Reg) (f : Fld) (hr : Reg.reports r = false) :
    t.get r f = b.get r f := by unfold Bridge.get; rw [h.raw r hr]

theorem Bridge.Reported.part {b t : Bridge} (h : b.Reported t) : t.part = b.part := (congrArg Bridge.part h.shape :)
theorem Bridge.Reported.tick {b t : Bridge} (h : b.Reported t) : t.tick = b.tick := (congrArg Bridge.tick h.shape :)
theorem Bridge.Reported.freeCtr {b t : Bridge} (h : b.Reported t) : t.freeCtr = b.freeCtr := (congrArg Bridge.freeCtr h.shape :)
theorem Bridge.Reported.overridden {b t : Bridge} (h : b.Reported t) : t.overridden = b.overridden := (congrArg Bridge.overridden h.shape :)
theorem Bridge.Reported.cfg {b t : Bridge} (h : b.Reported t) : t.cfg = b.cfg := (congrArg Bridge.cfg h.shape :)
theorem Bridge.Reported.msix {b t : Bridge} (h : b.Reported t) : t.msix = b.msix := (congrArg Bridge.msix h.shape :)
theorem Bridge.Reported.pins {b t : Bridge} (h : b.Reported t) : t.pins = b.pins := (congrArg Bridge.pins h.shape :)
theorem Bridge.Reported.kept {b t : Bridge} (h : b.Reported t) : t.kept = b.kept := (congrArg Bridge.kept h.shape :)
theorem Bridge.Reported.alm {b t : Bridge} (h : b.Reported t) : t.alm = b.alm := (congrArg Bridge.alm h.shape :)
theorem Bridge.Reported.archReqs {b t : Bridge} (h : b.Reported t) : t.archReqs = b.archReqs := (congrArg Bridge.archReqs h.shape :)
theorem Bridge.Reported.ledger {b t : Bridge} (h : b.Reported t) : t.ledger = b.ledger := (congrArg Bridge.ledger h.shape :)
theorem Bridge.Reported.freed {b t : Bridge} (h : b.Reported t) : t.freed = b.freed := (congrArg Bridge.freed h.shape :)
theorem Bridge.Reported.pbs {b t : Bridge} (h : b.Reported t) : t.pbs = b.pbs := (congrArg Bridge.pbs h.shape :)
theorem Bridge.Reported.proving {b t : Bridge} (h : b.Reported t) : t.proving = b.proving := (congrArg Bridge.proving h.shape :)
theorem Bridge.Reported.hostReads {b t : Bridge} (h : b.Reported t) : t.hostReads = b.hostReads := (congrArg Bridge.hostReads h.shape :)
theorem Bridge.Reported.ups {b t : Bridge} (h : b.Reported t) : t.ups = b.ups := (congrArg Bridge.ups h.shape :)
theorem Bridge.Reported.barriers {b t : Bridge} (h : b.Reported t) : t.barriers = b.barriers := (congrArg Bridge.barriers h.shape :)
theorem Bridge.Reported.barStat {b t : Bridge} (h : b.Reported t) : t.barStat = b.barStat := (congrArg Bridge.barStat h.shape :)
theorem Bridge.Reported.eng {b t : Bridge} (h : b.Reported t) : t.eng = { b.eng with
      ltr := t.eng.ltr, quotaWait := t.eng.quotaWait, drainWait := t.eng.drainWait, links := t.eng.links, doms := t.eng.doms
      dimSince := t.eng.dimSince } := (congrArg Bridge.eng h.shape :)

theorem Bridge.Reported.mode {b t : Bridge} (h : b.Reported t) : t.mode = b.mode := h.get _ _ rfl

/-! Operations that report. -/

theorem Reg.reports_ne {r r' : Reg} (hr : Reg.reports r = true) (h : Reg.reports r' = false) : r' ≠ r := by
  intro e; subst e; rw [hr] at h; cases h

/-- A write of a reporting register that loses no event. -/
theorem Bridge.Reported.putReport (b : Bridge) (r : Reg) (w : Word) (hr : Reg.reports r = true)
    (he : ∀ k n, r = .blkEvent k → (b.raw r).getLsbD n = true → w.getLsbD n = true) : b.Reported (b.put r w) where
  shape := rfl
  raw := fun r' h => b.raw_put_ne r r' w (Reg.reports_ne hr h)
  events := fun k n hk => by
    by_cases h : Reg.blkEvent k = r
    · rw [h, b.raw_put_self]; exact he k n h.symm (h ▸ hk)
    · rw [b.raw_put_ne r _ w h]; exact hk
  out := ⟨[], by simp⟩
  reqs := ⟨[], by simp⟩
  pendVec := fun _ h => h
  link := fun _ => rfl
  dom := fun _ => .inl rfl

/-- Sending a message of a vector. -/
theorem Bridge.Reported.sendMessage (b : Bridge) (ap fn v : Nat) : b.Reported (b.sendMessage ap fn v) where
  shape := by unfold Bridge.sendMessage; split <;> rfl
  raw := fun _ _ => by unfold Bridge.sendMessage; split <;> rfl
  events := fun _ _ h => by unfold Bridge.sendMessage; split <;> exact h
  out := ⟨[], by unfold Bridge.sendMessage; split <;> simp [Bridge.fresh]⟩
  reqs := by
    unfold Bridge.sendMessage
    split
    exact ⟨_, rfl, fun j hj => by simp only [List.mem_singleton] at hj; subst hj; rfl⟩
  pendVec := fun _ h => by unfold Bridge.sendMessage; split <;> exact h
  link := fun _ => by unfold Bridge.sendMessage; split <;> rfl
  dom := fun _ => .inl (by unfold Bridge.sendMessage; split <;> rfl)

/-- Raising a vector. -/
theorem Bridge.Reported.raiseVector (b : Bridge) (ap fn v : Nat) : b.Reported (b.raiseVector ap fn v) := by
  unfold Bridge.raiseVector
  simp only
  split
  · exact .putReport b _ _ rfl (fun k n h => by cases h)
  · split
    · split
      · exact .refl b
      · exact ⟨rfl, fun _ _ => rfl, fun _ _ h => h, ⟨[], by simp⟩, ⟨[], by simp⟩, fun _ h => by simp [h], fun _ => rfl,
          fun _ => .inl rfl⟩
    · exact .sendMessage b ap fn v

theorem Bridge.Reported.raiseRoutes (b : Bridge) (rose : Nat → Bool) : b.Reported (b.raiseRoutes rose) :=
  .fold _ (fun b a => by split; exact .raiseVector b _ _ _; exact .refl b) _ b

/-- Raising an event. -/
theorem Bridge.Reported.raise (b : Bridge) (k : Blk) (n : Nat) : b.Reported (b.raise k n) :=
  (Bridge.Reported.putReport b (.blkEvent k) (b.raw (.blkEvent k) ||| BitVec.ofNat 64 (2 ^ n)) rfl
    (fun _ m _ h => by simp [h])).trans (.raiseRoutes _ _)

/-- A raised event reads as raised. -/
theorem Bridge.raise_event (b : Bridge) (k : Blk) (n : Nat) (h : n < 64) : ((b.raise k n).raw (.blkEvent k)).getLsbD n = true := by
  have h1 := (Bridge.Reported.raiseRoutes (b.put (.blkEvent k) (b.raw (.blkEvent k) ||| BitVec.ofNat 64 (2 ^ n)))
    (fun a => !b.routePending a && (b.put (.blkEvent k) (b.raw (.blkEvent k) ||| BitVec.ofNat 64 (2 ^ n))).routePending a)).events k n
  apply h1
  rw [b.raw_put_self, BitVec.getLsbD_or, BitVec.getLsbD_ofNat, Nat.testBit_two_pow_self]
  simp [h]

/-- A change of the fields that only settling keeps. -/
theorem Bridge.Reported.ofEng (b : Bridge) (e : Engines) (o : List Emission) (ho : ∃ l, o = b.out ++ l)
    (he : e = { b.eng with ltr := e.ltr, quotaWait := e.quotaWait, drainWait := e.drainWait, dimSince := e.dimSince }) :
    b.Reported { b with eng := e, out := o } where
  shape := by rw [he]
  raw := fun _ _ => rfl
  events := fun _ _ h => h
  out := ho
  reqs := ⟨[], by simp⟩
  pendVec := fun _ h => h
  link := fun _ => by simp only [Bridge.link]; rw [he]
  dom := fun _ => .inl (by simp only [Bridge.domState]; rw [he])

theorem Bridge.domState_setDom_self (b : Bridge) (n st : Nat) (h : b.part.domFused n = false) : (b.setDom n st).domState n = st := by
  have := find?_listPut_self (fun d : Domain => decide (d.n = n)) ⟨n, st, b.tick⟩ b.eng.doms (by simp)
  simp only [Bridge.domState, Bridge.setDom, h, this]
  rfl

theorem Bridge.domState_setDom_ne (b : Bridge) (n m st : Nat) (h : m ≠ n) : (b.setDom n st).domState m = b.domState m := by
  have := find?_listPut_ne (fun d : Domain => decide (d.n = n)) (fun d : Domain => decide (d.n = m)) ⟨n, st, b.tick⟩ b.eng.doms
    (by simp [Ne.symm h]) (fun y hy => by simp only [decide_eq_true_eq] at hy; simp [hy, Ne.symm h])
  simp only [Bridge.domState, Bridge.setDom, this]

/-- A domain that opens. -/
theorem Bridge.Reported.openDom (b : Bridge) (n : Nat) : b.Reported (b.openDom n) := by
  unfold Bridge.openDom
  split
  · rename_i h
    have h0 : b.domState n = 0 := by simp only [Bool.and_eq_true, decide_eq_true_eq] at h; exact h.1.1
    have hf : b.part.domFused n = false := by
      cases hc : b.part.domFused n
      · rfl
      · simp [Bridge.domState, hc] at h0
    have h1 : b.Reported (b.setDom n 1) :=
      { shape := rfl, raw := fun _ _ => rfl, events := fun _ _ h => h, out := ⟨[], by simp⟩, reqs := ⟨[], by simp⟩
        pendVec := fun _ h => h, link := fun _ => rfl
        dom := fun m => by
          by_cases hm : m = n
          · subst hm; exact .inr ⟨h0, b.domState_setDom_self m 1 hf⟩
          · exact .inl (b.domState_setDom_ne n m 1 hm) }
    exact h1.trans (.putReport _ _ _ rfl (fun k n h => by cases h))
  · exact .refl b

/-- The credit waits that a port keeps. -/
theorem Bridge.Reported.markCredits (b : Bridge) (k : Nat) : b.Reported (b.markCredits k) := by
  have key : ∀ w, b.Reported (b.putLink { b.link k with creditWait := w }) := fun w =>
    { shape := rfl, raw := fun _ _ => rfl, events := fun _ _ h => h, out := ⟨[], by simp⟩, reqs := ⟨[], by simp⟩
      pendVec := fun _ h => h, dom := fun _ => .inl rfl
      link := fun m => by
        by_cases hm : m = k
        · subst hm
          rw [show (b.putLink { b.link m with creditWait := w }).link m = { b.link m with creditWait := w } from
            (congrArg _ (b.link_k m).symm).trans (b.link_putLink_self { b.link m with creditWait := w })]
        · rw [b.link_putLink_ne { b.link k with creditWait := w } m (fun e => hm (e.trans (b.link_k k)))] }
  have pick : ∀ (w : List (Nat × Nat)) (c : Prop) [Decidable c],
      b.Reported (if c then b else b.putLink { b.link k with creditWait := w }) := fun w c _ => by
    split
    · exact .refl b
    · exact key w
  exact pick _ _

/-! Settling a calm bridge. -/

/-- What calm says, part by part. -/
structure Bridge.Calm (b : Bridge) : Prop where
  done : b.eng.done = []
  tx : b.eng.pair.tx = []
  ports : ∀ x ∈ b.eng.merPorts, x.waiting = []
  log : b.eng.logWait = []
  queues : ∀ q ∈ b.eng.queues, q.2.blocked = []
  wq : b.eng.trn.wq = []
  pendingWait : b.eng.trn.pendingWait = []
  delayed : b.eng.trn.delayed = []
  chans : ∀ x ∈ b.eng.chans, x.segs = [] ∧ b.chState x.c ≠ 1
  reads : b.hostReads = []
  barriers : b.barriers = []
  flrs : b.eng.pfFlrs = []

theorem Bridge.calm_iff (b : Bridge) : b.calm = true ↔ b.Calm := by
  simp only [Bridge.calm, Bool.and_eq_true, List.isEmpty_iff, List.all_eq_true, decide_eq_true_eq]
  constructor
  · rintro ⟨⟨⟨⟨⟨⟨⟨⟨⟨⟨⟨h1, h2⟩, h3⟩, h4⟩, h5⟩, h6⟩, h7⟩, h8⟩, h9⟩, h10⟩, h11⟩, h12⟩
    exact ⟨h1, h2, h3, h4, h5, h6, h7, h8, h9, h10, h11, h12⟩
  · rintro ⟨h1, h2, h3, h4, h5, h6, h7, h8, h9, h10, h11, h12⟩
    exact ⟨⟨⟨⟨⟨⟨⟨⟨⟨⟨⟨h1, h2⟩, h3⟩, h4⟩, h5⟩, h6⟩, h7⟩, h8⟩, h9⟩, h10⟩, h11⟩, h12⟩

/-- A fold over steps that each leave the bridge as it is. -/
theorem foldl_fixed {α : Type} (f : Bridge → α → Bridge) (b : Bridge) (l : List α) (h : ∀ x ∈ l, f b x = b) : l.foldl f b = b := by
  induction l with
  | nil => rfl
  | cons x l ih =>
    simp only [List.foldl_cons, h x (by simp)]
    exact ih (fun y hy => h y (by simp [hy]))

theorem pump_calm (b : Bridge) (m : List Host.Cell) (h : b.calm = true) : b.pump m = b := by
  have c := b.calm_iff.mp h
  have h1 : ∀ p, b.pumpMer p = b := by
    intro p
    have : (b.merPort p).waiting = [] := by
      unfold Bridge.merPort
      cases hx : b.eng.merPorts.find? (fun x => decide (x.p = p)) with
      | none => rfl
      | some x => exact c.ports x (List.mem_of_find?_eq_some hx)
    unfold Bridge.pumpMer
    simp [this]
  have h2 : (List.range 4).foldl (fun (b : Bridge) p => b.pumpMer p) b = b := foldl_fixed _ b _ (fun p _ => h1 p)
  have h3 : b.pumpLog = b := by unfold Bridge.pumpLog; simp [c.log]
  have h4 : b.pumpBlocked = b := foldl_fixed _ b _ (fun q hq => by simp [c.queues q hq])
  have h5 : b.pumpTransit = b := by unfold Bridge.pumpTransit; simp [c.wq, c.pendingWait, c.delayed]
  have h6 : b.pumpFinders = b := by
    have : b.eng.chans.flatMap (fun x => x.segs.filterMap Seg.finder) = [] := by
      simp only [List.flatMap_eq_nil_iff]
      exact fun x hx => by simp [(c.chans x hx).1]
    unfold Bridge.pumpFinders
    simp [this]
  have h7 : b.eng.chans.foldl (fun (b : Bridge) x => if b.chState x.c = 1 then b.checkGate x.c else b) b = b :=
    foldl_fixed _ b _ (fun x hx => by simp [(c.chans x hx).2])
  unfold Bridge.pump
  simp only [c.tx, h2, h3, h4, h5, h6, h7, c.reads, c.barriers, List.foldl_nil, if_true]

theorem settleGo_calm (b : Bridge) (m : List Host.Cell) (n : Nat) (h : b.calm = true) : Bridge.settleGo m n b = b := by
  have hd : b.eng.done = [] := (b.calm_iff.mp h).done
  cases n with
  | zero => rfl
  | succ n => simp [Bridge.settleGo, hd, pump_calm b m h]

theorem Bridge.Reported.ltr (b : Bridge) : b.Reported b.ltr := by
  unfold Bridge.ltr
  refine .fold _ (fun b a => ?_) _ b
  have pick : ∀ (e : Engines) (x : Emission) (c : Prop) [Decidable c], e = { b.eng with ltr := e.ltr } →
      b.Reported (if c then b else ({ b with eng := e } : Bridge).emit x) := fun e x c _ he => by
    split
    · exact .refl b
    · exact .ofEng b e (b.out ++ [x]) ⟨[x], rfl⟩ (by rw [he])
  exact pick _ _ _ rfl

theorem Bridge.Reported.quotaEvents (b : Bridge) : b.Reported b.quotaEvents := by
  unfold Bridge.quotaEvents
  exact (Bridge.Reported.ofEng b _ b.out ⟨[], by simp⟩ rfl).trans (.fold _ (fun b a => .raise b _ _) _ _)

theorem Bridge.Reported.drainEvents (b : Bridge) : b.Reported b.drainEvents := by
  unfold Bridge.drainEvents
  exact (Bridge.Reported.ofEng b _ b.out ⟨[], by simp⟩ rfl).trans (.fold _ (fun b a => .raise b _ _) _ _)

theorem Bridge.Reported.markAll (b : Bridge) : b.Reported b.markAll :=
  .fold _ (fun b k => .markCredits b k) _ b

/-- Restarting the close delays changes no domain's state. -/
theorem Bridge.Reported.restart (b : Bridge) (f : Domain → Domain) (hf : ∀ d, (f d).n = d.n ∧ (f d).st = d.st) :
    b.Reported { b with eng := { b.eng with doms := b.eng.doms.map f } } where
  shape := rfl
  raw := fun _ _ => rfl
  events := fun _ _ h => h
  out := ⟨[], by simp⟩
  reqs := ⟨[], by simp⟩
  pendVec := fun _ h => h
  link := fun _ => rfl
  dom := fun n => .inl (by
    simp only [Bridge.domState]
    have : ∀ l : List Domain, ((l.map f).find? (fun d => decide (d.n = n))).map (·.st) =
        (l.find? (fun d => decide (d.n = n))).map (·.st) := by
      intro l
      induction l with
      | nil => rfl
      | cons d l ih =>
        by_cases h : d.n = n
        · simp [List.find?, (hf d).1, (hf d).2, h]
        · simpa [List.find?, (hf d).1, h] using ih
    have := this b.eng.doms
    split
    · rfl
    · cases h1 : (b.eng.doms.map f).find? (fun d => decide (d.n = n)) <;>
        cases h2 : b.eng.doms.find? (fun d => decide (d.n = n)) <;> simp_all)

theorem Bridge.Reported.restartBusy (b : Bridge) (tick : Nat) (busy : List Nat) :
    b.Reported { b with eng := { b.eng with
      doms := b.eng.doms.map (fun d => if d.st = 2 && busy.contains d.n then { d with emptySince := tick } else d) } } :=
  .restart b _ (fun d => by split <;> exact ⟨rfl, rfl⟩)

theorem Bridge.Reported.domMarks (b : Bridge) : b.Reported b.domMarks := by
  have open_ : ∀ l : List Nat, b.Reported (l.foldl (fun (b : Bridge) n => b.openDom n) b) := fun l =>
    .fold _ (fun b n => .openDom b n) l b
  have pick : ∀ (c : Prop) [Decidable c] (x : Bridge), b.Reported x → b.Reported (if c then b else x) := fun c _ x h => by
    split
    · exact .refl b
    · exact h
  exact pick _ _ ((open_ _).trans (.restartBusy _ _ _))

theorem Bridge.Reported.dimMark (b : Bridge) : b.Reported b.dimMark :=
  .ofEng b _ b.out ⟨[], by simp⟩ rfl

/-- Settling a calm bridge only reports. -/
theorem Bridge.Reported.settled (b : Bridge) (m : List Host.Cell) (h : b.calm = true) : b.Reported (b.settled m) := by
  have hs : b.Reported ((b.ltr.quotaEvents).drainEvents) := ((Bridge.Reported.ltr b).trans (.quotaEvents _)).trans (.drainEvents _)
  have hf : ((b.ltr.quotaEvents).drainEvents).pf0Drains = (b.ltr.quotaEvents).drainEvents := by
    unfold Bridge.pf0Drains
    rw [hs.eng]
    simp only [(b.calm_iff.mp h).flrs, List.foldl_nil]
  unfold Bridge.settled Bridge.settle
  split
  · exact .refl b
  · simp only [settleGo_calm b m _ h, hf]
    exact ((hs.trans (.markAll _)).trans (.domMarks _)).trans (.dimMark _)

/-- What was held stays held while a bridge reports. -/
theorem Bridge.Reported.nothingHeld {b t : Bridge} (h : b.Reported t) : t.nothingHeld = b.nothingHeld := by
  unfold Bridge.nothingHeld
  rw [h.alm, h.eng]

/-- Where nothing is held nothing resumes. -/
theorem State.resume_nothingHeld (s : State) (h : s.b.nothingHeld = true) : s.resume = s := by
  simp only [Bridge.nothingHeld, Bool.and_eq_true, List.isEmpty_iff] at h
  obtain ⟨⟨⟨⟨h1, h2⟩, h3⟩, h4⟩, h5⟩ := h
  have e0 : s.serveMirror = s := by unfold State.serveMirror Bridge.unmirror; simp [h5]
  have e1 : s.serveAlm = s := by unfold State.serveAlm; simp [h2]
  have e2 : s.serveFaces = s := by unfold State.serveFaces; simp [h1]
  have e3 : s.serveDoms = s := by unfold State.serveDoms; simp [h3]
  have e4 : s.serveFc = s := by unfold State.serveFc; simp [h4]
  simp only [State.resume, e0, e1, e2, e3, e4]

end Sys2Proof.Machine
end

