-- ==== Sys2Proof/Laws/Ops.lean ====
section
/-!
SUPPORT. What the shared operations do, one lemma each: which leave a bridge calm, and what reads give after them.
-/
namespace Sys2Proof.Machine

open Sys2Proof

/-! Calm bridges. -/

/-- Whether a register shows a channel's state. -/
@[simp] def Reg.isChStatus : Reg → Bool
  | .fndChStatus _ => true
  | _ => false

/-- Two bridges that differ in nothing that calm looks at. -/
theorem Bridge.calm_congr {b t : Bridge} (he : t.eng.done = b.eng.done ∧ t.eng.pair.tx = b.eng.pair.tx ∧
    t.eng.merPorts = b.eng.merPorts ∧ t.eng.logWait = b.eng.logWait ∧ t.eng.queues = b.eng.queues ∧ t.eng.trn = b.eng.trn ∧
    t.eng.chans = b.eng.chans ∧ t.eng.pfFlrs = b.eng.pfFlrs) (hr : t.hostReads = b.hostReads) (hb : t.barriers = b.barriers)
    (hc : ∀ c, t.raw (.fndChStatus c) = b.raw (.fndChStatus c)) : t.calm = b.calm := by
  obtain ⟨h1, h2, h3, h4, h5, h6, h7, h8⟩ := he
  have hs : ∀ c, t.chState c = b.chState c := fun c => by unfold Bridge.chState Bridge.get; rw [hc c]
  unfold Bridge.calm
  simp only [h1, h2, h3, h4, h5, h6, h7, h8, hr, hb, hs]

theorem Bridge.Reported.calm {b t : Bridge} (h : b.Reported t) : t.calm = b.calm :=
  Bridge.calm_congr (by rw [h.eng]; exact ⟨rfl, rfl, rfl, rfl, rfl, rfl, rfl, rfl⟩) h.hostReads h.barriers (fun _ => h.raw _ rfl)

@[simp] theorem Bridge.put_calm (b : Bridge) (r : Reg) (w : Word) (h : r.isChStatus = false) : (b.put r w).calm = b.calm :=
  Bridge.calm_congr ⟨rfl, rfl, rfl, rfl, rfl, rfl, rfl, rfl⟩ rfl rfl
    (fun c => b.raw_put_ne r _ w (fun e => by subst e; cases h))
@[simp] theorem Bridge.set_calm (b : Bridge) (r : Reg) (f : Fld) (v : Nat) (h : r.isChStatus = false) : (b.set r f v).calm = b.calm :=
  b.put_calm r _ h
@[simp] theorem Bridge.sets_calm (b : Bridge) (r : Reg) (l : List (Fld × Nat)) (h : r.isChStatus = false) :
    (b.sets r l).calm = b.calm := b.put_calm r _ h
@[simp] theorem Bridge.bump_calm (b : Bridge) (r : Reg) (f : Fld) (n : Nat) (h : r.isChStatus = false) : (b.bump r f n).calm = b.calm :=
  b.put_calm r _ h
@[simp] theorem Bridge.inc_calm (b : Bridge) (r : Reg) (f : Fld) (n : Nat) (h : r.isChStatus = false) : (b.inc r f n).calm = b.calm :=
  b.put_calm r _ h
@[simp] theorem Bridge.emit_calm (b : Bridge) (e : Emission) : (b.emit e).calm = b.calm := rfl
@[simp] theorem Bridge.life_calm (b : Bridge) (w n : Nat) : (b.life w n).calm = b.calm := rfl
@[simp] theorem Bridge.cfgPut_calm (b : Bridge) (ap fn : Nat) (f : CfgField) (v : Nat) : (b.cfgPut ap fn f v).calm = b.calm := rfl
@[simp] theorem Bridge.setDom_calm (b : Bridge) (n st : Nat) : (b.setDom n st).calm = b.calm := rfl
@[simp] theorem Bridge.putLink_calm (b : Bridge) (l : Link) : (b.putLink l).calm = b.calm := rfl
@[simp] theorem Bridge.putLane_calm (b : Bridge) (l : Lane) : (b.putLane l).calm = b.calm := rfl
@[simp] theorem Bridge.putFinder_calm (b : Bridge) (x : Finder) : (b.putFinder x).calm = b.calm := rfl
@[simp] theorem Bridge.putInst_calm (b : Bridge) (x : Inst) : (b.putInst x).calm = b.calm := rfl
@[simp] theorem Bridge.holdCmd_calm (b : Bridge) (i : Instr) : (b.holdCmd i).calm = b.calm := rfl
@[simp] theorem Bridge.raise_calm (b : Bridge) (k : Blk) (n : Nat) : (b.raise k n).calm = b.calm := (Bridge.Reported.raise b k n).calm
@[simp] theorem Bridge.raiseVector_calm (b : Bridge) (ap fn v : Nat) : (b.raiseVector ap fn v).calm = b.calm :=
  (Bridge.Reported.raiseVector b ap fn v).calm
@[simp] theorem Bridge.openDom_calm (b : Bridge) (n : Nat) : (b.openDom n).calm = b.calm := (Bridge.Reported.openDom b n).calm

/-- Crossing a domain only reports. -/
theorem Bridge.Reported.needDom (b : Bridge) (n : Nat) : b.Reported (b.needDom n) := by
  unfold Bridge.needDom
  split
  · exact (Bridge.Reported.openDom b n).trans (.putReport _ _ _ rfl (fun k n h => by cases h))
  · exact .refl b

theorem Bridge.Reported.needDoms (b : Bridge) (ns : List Nat) : b.Reported (b.needDoms ns) := .fold _ (fun b n => .needDom b n) ns b

/-- A command whose domains are open is served. -/
theorem Bridge.whenOpen_open (b : Bridge) (ns : List Nat) (i : Instr) (serve : Bridge → Bridge) (ws : List Word)
    (h : b.domsOpen ns = true) : b.whenOpen ns i serve ws = serve b := by unfold Bridge.whenOpen; rw [if_pos h]

/-- A command whose domains are not all open waits for them, and its effect does not happen yet. -/
theorem Bridge.whenOpen_waits (b : Bridge) (ns : List Nat) (i : Instr) (serve : Bridge → Bridge) (ws : List Word)
    (h : b.domsOpen ns = false) :
    (b.whenOpen ns i serve ws).eng.domHeld = b.eng.domHeld ++ [(ns, ⟨i, ws⟩)] ∧
      ∀ r, Reg.reports r = false → (b.whenOpen ns i serve ws).raw r = b.raw r := by
  unfold Bridge.whenOpen
  rw [if_neg (by simp [h])]
  exact ⟨rfl, fun r hr => (Bridge.Reported.needDoms b ns).raw r hr⟩

/-! What one operation writes, the reads of everything else do not see. -/

@[simp] theorem Bridge.put_cfgGet_ (b : Bridge) (r : Reg) (w : Word) (ap' fn' : Nat) (g : CfgField) : (b.put r w).cfgGet ap' fn' g = b.cfgGet ap' fn' g := rfl
@[simp] theorem Bridge.put_domState_ (b : Bridge) (r : Reg) (w : Word) (m : Nat) : (b.put r w).domState m = b.domState m := rfl
@[simp] theorem Bridge.put_link_ (b : Bridge) (r : Reg) (w : Word) (k : Nat) : (b.put r w).link k = b.link k := rfl
@[simp] theorem Bridge.put_lane_ (b : Bridge) (r : Reg) (w : Word) (k : Nat) : (b.put r w).lane k = b.lane k := rfl
@[simp] theorem Bridge.put_chan_ (b : Bridge) (r : Reg) (w : Word) (k : Nat) : (b.put r w).chan k = b.chan k := rfl
@[simp] theorem Bridge.put_finder_ (b : Bridge) (r : Reg) (w : Word) (k : Nat) : (b.put r w).finder k = b.finder k := rfl
@[simp] theorem Bridge.put_merPort_ (b : Bridge) (r : Reg) (w : Word) (k : Nat) : (b.put r w).merPort k = b.merPort k := rfl
@[simp] theorem Bridge.put_queue_ (b : Bridge) (r : Reg) (w : Word) (k : Nat) : (b.put r w).queue k = b.queue k := rfl
@[simp] theorem Bridge.put_inst_ (b : Bridge) (r : Reg) (w : Word) (k : Nat) : (b.put r w).inst? k = b.inst? k := rfl
@[simp] theorem Bridge.set_cfgGet_ (b : Bridge) (r : Reg) (f : Fld) (v : Nat) (ap' fn' : Nat) (g : CfgField) : (b.set r f v).cfgGet ap' fn' g = b.cfgGet ap' fn' g := rfl
@[simp] theorem Bridge.set_domState_ (b : Bridge) (r : Reg) (f : Fld) (v : Nat) (m : Nat) : (b.set r f v).domState m = b.domState m := rfl
@[simp] theorem Bridge.set_link_ (b : Bridge) (r : Reg) (f : Fld) (v : Nat) (k : Nat) : (b.set r f v).link k = b.link k := rfl
@[simp] theorem Bridge.set_lane_ (b : Bridge) (r : Reg) (f : Fld) (v : Nat) (k : Nat) : (b.set r f v).lane k = b.lane k := rfl
@[simp] theorem Bridge.set_chan_ (b : Bridge) (r : Reg) (f : Fld) (v : Nat) (k : Nat) : (b.set r f v).chan k = b.chan k := rfl
@[simp] theorem Bridge.set_finder_ (b : Bridge) (r : Reg) (f : Fld) (v : Nat) (k : Nat) : (b.set r f v).finder k = b.finder k := rfl
@[simp] theorem Bridge.set_merPort_ (b : Bridge) (r : Reg) (f : Fld) (v : Nat) (k : Nat) : (b.set r f v).merPort k = b.merPort k := rfl
@[simp] theorem Bridge.set_queue_ (b : Bridge) (r : Reg) (f : Fld) (v : Nat) (k : Nat) : (b.set r f v).queue k = b.queue k := rfl
@[simp] theorem Bridge.set_inst_ (b : Bridge) (r : Reg) (f : Fld) (v : Nat) (k : Nat) : (b.set r f v).inst? k = b.inst? k := rfl
@[simp] theorem Bridge.sets_cfgGet_ (b : Bridge) (r : Reg) (l : List (Fld × Nat)) (ap' fn' : Nat) (g : CfgField) : (b.sets r l).cfgGet ap' fn' g = b.cfgGet ap' fn' g := rfl
@[simp] theorem Bridge.sets_domState_ (b : Bridge) (r : Reg) (l : List (Fld × Nat)) (m : Nat) : (b.sets r l).domState m = b.domState m := rfl
@[simp] theorem Bridge.sets_link_ (b : Bridge) (r : Reg) (l : List (Fld × Nat)) (k : Nat) : (b.sets r l).link k = b.link k := rfl
@[simp] theorem Bridge.sets_lane_ (b : Bridge) (r : Reg) (l : List (Fld × Nat)) (k : Nat) : (b.sets r l).lane k = b.lane k := rfl
@[simp] theorem Bridge.sets_chan_ (b : Bridge) (r : Reg) (l : List (Fld × Nat)) (k : Nat) : (b.sets r l).chan k = b.chan k := rfl
@[simp] theorem Bridge.sets_finder_ (b : Bridge) (r : Reg) (l : List (Fld × Nat)) (k : Nat) : (b.sets r l).finder k = b.finder k := rfl
@[simp] theorem Bridge.sets_merPort_ (b : Bridge) (r : Reg) (l : List (Fld × Nat)) (k : Nat) : (b.sets r l).merPort k = b.merPort k := rfl
@[simp] theorem Bridge.sets_queue_ (b : Bridge) (r : Reg) (l : List (Fld × Nat)) (k : Nat) : (b.sets r l).queue k = b.queue k := rfl
@[simp] theorem Bridge.sets_inst_ (b : Bridge) (r : Reg) (l : List (Fld × Nat)) (k : Nat) : (b.sets r l).inst? k = b.inst? k := rfl
@[simp] theorem Bridge.bump_cfgGet_ (b : Bridge) (r : Reg) (f : Fld) (n : Nat) (ap' fn' : Nat) (g : CfgField) : (b.bump r f n).cfgGet ap' fn' g = b.cfgGet ap' fn' g := rfl
@[simp] theorem Bridge.bump_domState_ (b : Bridge) (r : Reg) (f : Fld) (n : Nat) (m : Nat) : (b.bump r f n).domState m = b.domState m := rfl
@[simp] theorem Bridge.bump_link_ (b : Bridge) (r : Reg) (f : Fld) (n : Nat) (k : Nat) : (b.bump r f n).link k = b.link k := rfl
@[simp] theorem Bridge.bump_lane_ (b : Bridge) (r : Reg) (f : Fld) (n : Nat) (k : Nat) : (b.bump r f n).lane k = b.lane k := rfl
@[simp] theorem Bridge.bump_chan_ (b : Bridge) (r : Reg) (f : Fld) (n : Nat) (k : Nat) : (b.bump r f n).chan k = b.chan k := rfl
@[simp] theorem Bridge.bump_finder_ (b : Bridge) (r : Reg) (f : Fld) (n : Nat) (k : Nat) : (b.bump r f n).finder k = b.finder k := rfl
@[simp] theorem Bridge.bump_merPort_ (b : Bridge) (r : Reg) (f : Fld) (n : Nat) (k : Nat) : (b.bump r f n).merPort k = b.merPort k := rfl
@[simp] theorem Bridge.bump_queue_ (b : Bridge) (r : Reg) (f : Fld) (n : Nat) (k : Nat) : (b.bump r f n).queue k = b.queue k := rfl
@[simp] theorem Bridge.bump_inst_ (b : Bridge) (r : Reg) (f : Fld) (n : Nat) (k : Nat) : (b.bump r f n).inst? k = b.inst? k := rfl
@[simp] theorem Bridge.inc_cfgGet_ (b : Bridge) (r : Reg) (f : Fld) (n : Nat) (ap' fn' : Nat) (g : CfgField) : (b.inc r f n).cfgGet ap' fn' g = b.cfgGet ap' fn' g := rfl
@[simp] theorem Bridge.inc_domState_ (b : Bridge) (r : Reg) (f : Fld) (n : Nat) (m : Nat) : (b.inc r f n).domState m = b.domState m := rfl
@[simp] theorem Bridge.inc_link_ (b : Bridge) (r : Reg) (f : Fld) (n : Nat) (k : Nat) : (b.inc r f n).link k = b.link k := rfl
@[simp] theorem Bridge.inc_lane_ (b : Bridge) (r : Reg) (f : Fld) (n : Nat) (k : Nat) : (b.inc r f n).lane k = b.lane k := rfl
@[simp] theorem Bridge.inc_chan_ (b : Bridge) (r : Reg) (f : Fld) (n : Nat) (k : Nat) : (b.inc r f n).chan k = b.chan k := rfl
@[simp] theorem Bridge.inc_finder_ (b : Bridge) (r : Reg) (f : Fld) (n : Nat) (k : Nat) : (b.inc r f n).finder k = b.finder k := rfl
@[simp] theorem Bridge.inc_merPort_ (b : Bridge) (r : Reg) (f : Fld) (n : Nat) (k : Nat) : (b.inc r f n).merPort k = b.merPort k := rfl
@[simp] theorem Bridge.inc_queue_ (b : Bridge) (r : Reg) (f : Fld) (n : Nat) (k : Nat) : (b.inc r f n).queue k = b.queue k := rfl
@[simp] theorem Bridge.inc_inst_ (b : Bridge) (r : Reg) (f : Fld) (n : Nat) (k : Nat) : (b.inc r f n).inst? k = b.inst? k := rfl
@[simp] theorem Bridge.emit_raw_ (b : Bridge) (e : Emission) (r' : Reg) : (b.emit e).raw r' = b.raw r' := rfl
@[simp] theorem Bridge.emit_get_ (b : Bridge) (e : Emission) (r' : Reg) (g : Fld) : (b.emit e).get r' g = b.get r' g := rfl
@[simp] theorem Bridge.emit_mode_ (b : Bridge) (e : Emission) : (b.emit e).mode = b.mode := rfl
@[simp] theorem Bridge.emit_cfgGet_ (b : Bridge) (e : Emission) (ap' fn' : Nat) (g : CfgField) : (b.emit e).cfgGet ap' fn' g = b.cfgGet ap' fn' g := rfl
@[simp] theorem Bridge.emit_domState_ (b : Bridge) (e : Emission) (m : Nat) : (b.emit e).domState m = b.domState m := rfl
@[simp] theorem Bridge.emit_link_ (b : Bridge) (e : Emission) (k : Nat) : (b.emit e).link k = b.link k := rfl
@[simp] theorem Bridge.emit_lane_ (b : Bridge) (e : Emission) (k : Nat) : (b.emit e).lane k = b.lane k := rfl
@[simp] theorem Bridge.emit_chan_ (b : Bridge) (e : Emission) (k : Nat) : (b.emit e).chan k = b.chan k := rfl
@[simp] theorem Bridge.emit_finder_ (b : Bridge) (e : Emission) (k : Nat) : (b.emit e).finder k = b.finder k := rfl
@[simp] theorem Bridge.emit_merPort_ (b : Bridge) (e : Emission) (k : Nat) : (b.emit e).merPort k = b.merPort k := rfl
@[simp] theorem Bridge.emit_queue_ (b : Bridge) (e : Emission) (k : Nat) : (b.emit e).queue k = b.queue k := rfl
@[simp] theorem Bridge.emit_inst_ (b : Bridge) (e : Emission) (k : Nat) : (b.emit e).inst? k = b.inst? k := rfl
@[simp] theorem Bridge.emit_event_ (b : Bridge) (e : Emission) (k : Blk) (m : Nat) : (b.emit e).event k m = b.event k m := rfl
@[simp] theorem Bridge.life_raw_ (b : Bridge) (w n : Nat) (r' : Reg) : (b.life w n).raw r' = b.raw r' := rfl
@[simp] theorem Bridge.life_get_ (b : Bridge) (w n : Nat) (r' : Reg) (g : Fld) : (b.life w n).get r' g = b.get r' g := rfl
@[simp] theorem Bridge.life_mode_ (b : Bridge) (w n : Nat) : (b.life w n).mode = b.mode := rfl
@[simp] theorem Bridge.life_cfgGet_ (b : Bridge) (w n : Nat) (ap' fn' : Nat) (g : CfgField) : (b.life w n).cfgGet ap' fn' g = b.cfgGet ap' fn' g := rfl
@[simp] theorem Bridge.life_domState_ (b : Bridge) (w n : Nat) (m : Nat) : (b.life w n).domState m = b.domState m := rfl
@[simp] theorem Bridge.life_link_ (b : Bridge) (w n : Nat) (k : Nat) : (b.life w n).link k = b.link k := rfl
@[simp] theorem Bridge.life_lane_ (b : Bridge) (w n : Nat) (k : Nat) : (b.life w n).lane k = b.lane k := rfl
@[simp] theorem Bridge.life_chan_ (b : Bridge) (w n : Nat) (k : Nat) : (b.life w n).chan k = b.chan k := rfl
@[simp] theorem Bridge.life_finder_ (b : Bridge) (w n : Nat) (k : Nat) : (b.life w n).finder k = b.finder k := rfl
@[simp] theorem Bridge.life_merPort_ (b : Bridge) (w n : Nat) (k : Nat) : (b.life w n).merPort k = b.merPort k := rfl
@[simp] theorem Bridge.life_queue_ (b : Bridge) (w n : Nat) (k : Nat) : (b.life w n).queue k = b.queue k := rfl
@[simp] theorem Bridge.life_inst_ (b : Bridge) (w n : Nat) (k : Nat) : (b.life w n).inst? k = b.inst? k := rfl
@[simp] theorem Bridge.life_event_ (b : Bridge) (w n : Nat) (k : Blk) (m : Nat) : (b.life w n).event k m = b.event k m := rfl
@[simp] theorem Bridge.cfgPut_raw_ (b : Bridge) (ap fn : Nat) (f : CfgField) (v : Nat) (r' : Reg) : (b.cfgPut ap fn f v).raw r' = b.raw r' := rfl
@[simp] theorem Bridge.cfgPut_get_ (b : Bridge) (ap fn : Nat) (f : CfgField) (v : Nat) (r' : Reg) (g : Fld) : (b.cfgPut ap fn f v).get r' g = b.get r' g := rfl
@[simp] theorem Bridge.cfgPut_mode_ (b : Bridge) (ap fn : Nat) (f : CfgField) (v : Nat) : (b.cfgPut ap fn f v).mode = b.mode := rfl
@[simp] theorem Bridge.cfgPut_domState_ (b : Bridge) (ap fn : Nat) (f : CfgField) (v : Nat) (m : Nat) : (b.cfgPut ap fn f v).domState m = b.domState m := rfl
@[simp] theorem Bridge.cfgPut_link_ (b : Bridge) (ap fn : Nat) (f : CfgField) (v : Nat) (k : Nat) : (b.cfgPut ap fn f v).link k = b.link k := rfl
@[simp] theorem Bridge.cfgPut_lane_ (b : Bridge) (ap fn : Nat) (f : CfgField) (v : Nat) (k : Nat) : (b.cfgPut ap fn f v).lane k = b.lane k := rfl
@[simp] theorem Bridge.cfgPut_chan_ (b : Bridge) (ap fn : Nat) (f : CfgField) (v : Nat) (k : Nat) : (b.cfgPut ap fn f v).chan k = b.chan k := rfl
@[simp] theorem Bridge.cfgPut_finder_ (b : Bridge) (ap fn : Nat) (f : CfgField) (v : Nat) (k : Nat) : (b.cfgPut ap fn f v).finder k = b.finder k := rfl
@[simp] theorem Bridge.cfgPut_merPort_ (b : Bridge) (ap fn : Nat) (f : CfgField) (v : Nat) (k : Nat) : (b.cfgPut ap fn f v).merPort k = b.merPort k := rfl
@[simp] theorem Bridge.cfgPut_queue_ (b : Bridge) (ap fn : Nat) (f : CfgField) (v : Nat) (k : Nat) : (b.cfgPut ap fn f v).queue k = b.queue k := rfl
@[simp] theorem Bridge.cfgPut_inst_ (b : Bridge) (ap fn : Nat) (f : CfgField) (v : Nat) (k : Nat) : (b.cfgPut ap fn f v).inst? k = b.inst? k := rfl
@[simp] theorem Bridge.cfgPut_event_ (b : Bridge) (ap fn : Nat) (f : CfgField) (v : Nat) (k : Blk) (m : Nat) : (b.cfgPut ap fn f v).event k m = b.event k m := rfl
@[simp] theorem Bridge.setDom_raw_ (b : Bridge) (n st : Nat) (r' : Reg) : (b.setDom n st).raw r' = b.raw r' := rfl
@[simp] theorem Bridge.setDom_get_ (b : Bridge) (n st : Nat) (r' : Reg) (g : Fld) : (b.setDom n st).get r' g = b.get r' g := rfl
@[simp] theorem Bridge.setDom_mode_ (b : Bridge) (n st : Nat) : (b.setDom n st).mode = b.mode := rfl
@[simp] theorem Bridge.setDom_cfgGet_ (b : Bridge) (n st : Nat) (ap' fn' : Nat) (g : CfgField) : (b.setDom n st).cfgGet ap' fn' g = b.cfgGet ap' fn' g := rfl
@[simp] theorem Bridge.setDom_link_ (b : Bridge) (n st : Nat) (k : Nat) : (b.setDom n st).link k = b.link k := rfl
@[simp] theorem Bridge.setDom_lane_ (b : Bridge) (n st : Nat) (k : Nat) : (b.setDom n st).lane k = b.lane k := rfl
@[simp] theorem Bridge.setDom_chan_ (b : Bridge) (n st : Nat) (k : Nat) : (b.setDom n st).chan k = b.chan k := rfl
@[simp] theorem Bridge.setDom_finder_ (b : Bridge) (n st : Nat) (k : Nat) : (b.setDom n st).finder k = b.finder k := rfl
@[simp] theorem Bridge.setDom_merPort_ (b : Bridge) (n st : Nat) (k : Nat) : (b.setDom n st).merPort k = b.merPort k := rfl
@[simp] theorem Bridge.setDom_queue_ (b : Bridge) (n st : Nat) (k : Nat) : (b.setDom n st).queue k = b.queue k := rfl
@[simp] theorem Bridge.setDom_inst_ (b : Bridge) (n st : Nat) (k : Nat) : (b.setDom n st).inst? k = b.inst? k := rfl
@[simp] theorem Bridge.setDom_event_ (b : Bridge) (n st : Nat) (k : Blk) (m : Nat) : (b.setDom n st).event k m = b.event k m := rfl
@[simp] theorem Bridge.putLink_raw_ (b : Bridge) (l : Link) (r' : Reg) : (b.putLink l).raw r' = b.raw r' := rfl
@[simp] theorem Bridge.putLink_get_ (b : Bridge) (l : Link) (r' : Reg) (g : Fld) : (b.putLink l).get r' g = b.get r' g := rfl
@[simp] theorem Bridge.putLink_mode_ (b : Bridge) (l : Link) : (b.putLink l).mode = b.mode := rfl
@[simp] theorem Bridge.putLink_cfgGet_ (b : Bridge) (l : Link) (ap' fn' : Nat) (g : CfgField) : (b.putLink l).cfgGet ap' fn' g = b.cfgGet ap' fn' g := rfl
@[simp] theorem Bridge.putLink_domState_ (b : Bridge) (l : Link) (m : Nat) : (b.putLink l).domState m = b.domState m := rfl
@[simp] theorem Bridge.putLink_lane_ (b : Bridge) (l : Link) (k : Nat) : (b.putLink l).lane k = b.lane k := rfl
@[simp] theorem Bridge.putLink_chan_ (b : Bridge) (l : Link) (k : Nat) : (b.putLink l).chan k = b.chan k := rfl
@[simp] theorem Bridge.putLink_finder_ (b : Bridge) (l : Link) (k : Nat) : (b.putLink l).finder k = b.finder k := rfl
@[simp] theorem Bridge.putLink_merPort_ (b : Bridge) (l : Link) (k : Nat) : (b.putLink l).merPort k = b.merPort k := rfl
@[simp] theorem Bridge.putLink_queue_ (b : Bridge) (l : Link) (k : Nat) : (b.putLink l).queue k = b.queue k := rfl
@[simp] theorem Bridge.putLink_inst_ (b : Bridge) (l : Link) (k : Nat) : (b.putLink l).inst? k = b.inst? k := rfl
@[simp] theorem Bridge.putLink_event_ (b : Bridge) (l : Link) (k : Blk) (m : Nat) : (b.putLink l).event k m = b.event k m := rfl
@[simp] theorem Bridge.putLane_raw_ (b : Bridge) (l : Lane) (r' : Reg) : (b.putLane l).raw r' = b.raw r' := rfl
@[simp] theorem Bridge.putLane_get_ (b : Bridge) (l : Lane) (r' : Reg) (g : Fld) : (b.putLane l).get r' g = b.get r' g := rfl
@[simp] theorem Bridge.putLane_mode_ (b : Bridge) (l : Lane) : (b.putLane l).mode = b.mode := rfl
@[simp] theorem Bridge.putLane_cfgGet_ (b : Bridge) (l : Lane) (ap' fn' : Nat) (g : CfgField) : (b.putLane l).cfgGet ap' fn' g = b.cfgGet ap' fn' g := rfl
@[simp] theorem Bridge.putLane_domState_ (b : Bridge) (l : Lane) (m : Nat) : (b.putLane l).domState m = b.domState m := rfl
@[simp] theorem Bridge.putLane_link_ (b : Bridge) (l : Lane) (k : Nat) : (b.putLane l).link k = b.link k := rfl
@[simp] theorem Bridge.putLane_chan_ (b : Bridge) (l : Lane) (k : Nat) : (b.putLane l).chan k = b.chan k := rfl
@[simp] theorem Bridge.putLane_finder_ (b : Bridge) (l : Lane) (k : Nat) : (b.putLane l).finder k = b.finder k := rfl
@[simp] theorem Bridge.putLane_merPort_ (b : Bridge) (l : Lane) (k : Nat) : (b.putLane l).merPort k = b.merPort k := rfl
@[simp] theorem Bridge.putLane_queue_ (b : Bridge) (l : Lane) (k : Nat) : (b.putLane l).queue k = b.queue k := rfl
@[simp] theorem Bridge.putLane_inst_ (b : Bridge) (l : Lane) (k : Nat) : (b.putLane l).inst? k = b.inst? k := rfl
@[simp] theorem Bridge.putLane_event_ (b : Bridge) (l : Lane) (k : Blk) (m : Nat) : (b.putLane l).event k m = b.event k m := rfl
@[simp] theorem Bridge.putChan_raw_ (b : Bridge) (x : Chan) (r' : Reg) : (b.putChan x).raw r' = b.raw r' := rfl
@[simp] theorem Bridge.putChan_get_ (b : Bridge) (x : Chan) (r' : Reg) (g : Fld) : (b.putChan x).get r' g = b.get r' g := rfl
@[simp] theorem Bridge.putChan_mode_ (b : Bridge) (x : Chan) : (b.putChan x).mode = b.mode := rfl
@[simp] theorem Bridge.putChan_cfgGet_ (b : Bridge) (x : Chan) (ap' fn' : Nat) (g : CfgField) : (b.putChan x).cfgGet ap' fn' g = b.cfgGet ap' fn' g := rfl
@[simp] theorem Bridge.putChan_domState_ (b : Bridge) (x : Chan) (m : Nat) : (b.putChan x).domState m = b.domState m := rfl
@[simp] theorem Bridge.putChan_link_ (b : Bridge) (x : Chan) (k : Nat) : (b.putChan x).link k = b.link k := rfl
@[simp] theorem Bridge.putChan_lane_ (b : Bridge) (x : Chan) (k : Nat) : (b.putChan x).lane k = b.lane k := rfl
@[simp] theorem Bridge.putChan_finder_ (b : Bridge) (x : Chan) (k : Nat) : (b.putChan x).finder k = b.finder k := rfl
@[simp] theorem Bridge.putChan_merPort_ (b : Bridge) (x : Chan) (k : Nat) : (b.putChan x).merPort k = b.merPort k := rfl
@[simp] theorem Bridge.putChan_queue_ (b : Bridge) (x : Chan) (k : Nat) : (b.putChan x).queue k = b.queue k := rfl
@[simp] theorem Bridge.putChan_inst_ (b : Bridge) (x : Chan) (k : Nat) : (b.putChan x).inst? k = b.inst? k := rfl
@[simp] theorem Bridge.putChan_event_ (b : Bridge) (x : Chan) (k : Blk) (m : Nat) : (b.putChan x).event k m = b.event k m := rfl
@[simp] theorem Bridge.putFinder_raw_ (b : Bridge) (x : Finder) (r' : Reg) : (b.putFinder x).raw r' = b.raw r' := rfl
@[simp] theorem Bridge.putFinder_get_ (b : Bridge) (x : Finder) (r' : Reg) (g : Fld) : (b.putFinder x).get r' g = b.get r' g := rfl
@[simp] theorem Bridge.putFinder_mode_ (b : Bridge) (x : Finder) : (b.putFinder x).mode = b.mode := rfl
@[simp] theorem Bridge.putFinder_cfgGet_ (b : Bridge) (x : Finder) (ap' fn' : Nat) (g : CfgField) : (b.putFinder x).cfgGet ap' fn' g = b.cfgGet ap' fn' g := rfl
@[simp] theorem Bridge.putFinder_domState_ (b : Bridge) (x : Finder) (m : Nat) : (b.putFinder x).domState m = b.domState m := rfl
@[simp] theorem Bridge.putFinder_link_ (b : Bridge) (x : Finder) (k : Nat) : (b.putFinder x).link k = b.link k := rfl
@[simp] theorem Bridge.putFinder_lane_ (b : Bridge) (x : Finder) (k : Nat) : (b.putFinder x).lane k = b.lane k := rfl
@[simp] theorem Bridge.putFinder_chan_ (b : Bridge) (x : Finder) (k : Nat) : (b.putFinder x).chan k = b.chan k := rfl
@[simp] theorem Bridge.putFinder_merPort_ (b : Bridge) (x : Finder) (k : Nat) : (b.putFinder x).merPort k = b.merPort k := rfl
@[simp] theorem Bridge.putFinder_queue_ (b : Bridge) (x : Finder) (k : Nat) : (b.putFinder x).queue k = b.queue k := rfl
@[simp] theorem Bridge.putFinder_inst_ (b : Bridge) (x : Finder) (k : Nat) : (b.putFinder x).inst? k = b.inst? k := rfl
@[simp] theorem Bridge.putFinder_event_ (b : Bridge) (x : Finder) (k : Blk) (m : Nat) : (b.putFinder x).event k m = b.event k m := rfl
@[simp] theorem Bridge.putInst_raw_ (b : Bridge) (x : Inst) (r' : Reg) : (b.putInst x).raw r' = b.raw r' := rfl
@[simp] theorem Bridge.putInst_get_ (b : Bridge) (x : Inst) (r' : Reg) (g : Fld) : (b.putInst x).get r' g = b.get r' g := rfl
@[simp] theorem Bridge.putInst_mode_ (b : Bridge) (x : Inst) : (b.putInst x).mode = b.mode := rfl
@[simp] theorem Bridge.putInst_cfgGet_ (b : Bridge) (x : Inst) (ap' fn' : Nat) (g : CfgField) : (b.putInst x).cfgGet ap' fn' g = b.cfgGet ap' fn' g := rfl
@[simp] theorem Bridge.putInst_domState_ (b : Bridge) (x : Inst) (m : Nat) : (b.putInst x).domState m = b.domState m := rfl
@[simp] theorem Bridge.putInst_link_ (b : Bridge) (x : Inst) (k : Nat) : (b.putInst x).link k = b.link k := rfl
@[simp] theorem Bridge.putInst_lane_ (b : Bridge) (x : Inst) (k : Nat) : (b.putInst x).lane k = b.lane k := rfl
@[simp] theorem Bridge.putInst_chan_ (b : Bridge) (x : Inst) (k : Nat) : (b.putInst x).chan k = b.chan k := rfl
@[simp] theorem Bridge.putInst_finder_ (b : Bridge) (x : Inst) (k : Nat) : (b.putInst x).finder k = b.finder k := rfl
@[simp] theorem Bridge.putInst_merPort_ (b : Bridge) (x : Inst) (k : Nat) : (b.putInst x).merPort k = b.merPort k := rfl
@[simp] theorem Bridge.putInst_queue_ (b : Bridge) (x : Inst) (k : Nat) : (b.putInst x).queue k = b.queue k := rfl
@[simp] theorem Bridge.putInst_event_ (b : Bridge) (x : Inst) (k : Blk) (m : Nat) : (b.putInst x).event k m = b.event k m := rfl
@[simp] theorem Bridge.putQueue_raw_ (b : Bridge) (q : Nat) (x : Queue) (r' : Reg) : (b.putQueue q x).raw r' = b.raw r' := rfl
@[simp] theorem Bridge.putQueue_get_ (b : Bridge) (q : Nat) (x : Queue) (r' : Reg) (g : Fld) : (b.putQueue q x).get r' g = b.get r' g := rfl
@[simp] theorem Bridge.putQueue_mode_ (b : Bridge) (q : Nat) (x : Queue) : (b.putQueue q x).mode = b.mode := rfl
@[simp] theorem Bridge.putQueue_cfgGet_ (b : Bridge) (q : Nat) (x : Queue) (ap' fn' : Nat) (g : CfgField) : (b.putQueue q x).cfgGet ap' fn' g = b.cfgGet ap' fn' g := rfl
@[simp] theorem Bridge.putQueue_domState_ (b : Bridge) (q : Nat) (x : Queue) (m : Nat) : (b.putQueue q x).domState m = b.domState m := rfl
@[simp] theorem Bridge.putQueue_link_ (b : Bridge) (q : Nat) (x : Queue) (k : Nat) : (b.putQueue q x).link k = b.link k := rfl
@[simp] theorem Bridge.putQueue_lane_ (b : Bridge) (q : Nat) (x : Queue) (k : Nat) : (b.putQueue q x).lane k = b.lane k := rfl
@[simp] theorem Bridge.putQueue_chan_ (b : Bridge) (q : Nat) (x : Queue) (k : Nat) : (b.putQueue q x).chan k = b.chan k := rfl
@[simp] theorem Bridge.putQueue_finder_ (b : Bridge) (q : Nat) (x : Queue) (k : Nat) : (b.putQueue q x).finder k = b.finder k := rfl
@[simp] theorem Bridge.putQueue_merPort_ (b : Bridge) (q : Nat) (x : Queue) (k : Nat) : (b.putQueue q x).merPort k = b.merPort k := rfl
@[simp] theorem Bridge.putQueue_inst_ (b : Bridge) (q : Nat) (x : Queue) (k : Nat) : (b.putQueue q x).inst? k = b.inst? k := rfl
@[simp] theorem Bridge.putQueue_event_ (b : Bridge) (q : Nat) (x : Queue) (k : Blk) (m : Nat) : (b.putQueue q x).event k m = b.event k m := rfl
@[simp] theorem Bridge.putTrn_raw_ (b : Bridge) (t : Transit) (r' : Reg) : (b.putTrn t).raw r' = b.raw r' := rfl
@[simp] theorem Bridge.putTrn_get_ (b : Bridge) (t : Transit) (r' : Reg) (g : Fld) : (b.putTrn t).get r' g = b.get r' g := rfl
@[simp] theorem Bridge.putTrn_mode_ (b : Bridge) (t : Transit) : (b.putTrn t).mode = b.mode := rfl
@[simp] theorem Bridge.putTrn_cfgGet_ (b : Bridge) (t : Transit) (ap' fn' : Nat) (g : CfgField) : (b.putTrn t).cfgGet ap' fn' g = b.cfgGet ap' fn' g := rfl
@[simp] theorem Bridge.putTrn_domState_ (b : Bridge) (t : Transit) (m : Nat) : (b.putTrn t).domState m = b.domState m := rfl
@[simp] theorem Bridge.putTrn_link_ (b : Bridge) (t : Transit) (k : Nat) : (b.putTrn t).link k = b.link k := rfl
@[simp] theorem Bridge.putTrn_lane_ (b : Bridge) (t : Transit) (k : Nat) : (b.putTrn t).lane k = b.lane k := rfl
@[simp] theorem Bridge.putTrn_chan_ (b : Bridge) (t : Transit) (k : Nat) : (b.putTrn t).chan k = b.chan k := rfl
@[simp] theorem Bridge.putTrn_finder_ (b : Bridge) (t : Transit) (k : Nat) : (b.putTrn t).finder k = b.finder k := rfl
@[simp] theorem Bridge.putTrn_merPort_ (b : Bridge) (t : Transit) (k : Nat) : (b.putTrn t).merPort k = b.merPort k := rfl
@[simp] theorem Bridge.putTrn_queue_ (b : Bridge) (t : Transit) (k : Nat) : (b.putTrn t).queue k = b.queue k := rfl
@[simp] theorem Bridge.putTrn_inst_ (b : Bridge) (t : Transit) (k : Nat) : (b.putTrn t).inst? k = b.inst? k := rfl
@[simp] theorem Bridge.putTrn_event_ (b : Bridge) (t : Transit) (k : Blk) (m : Nat) : (b.putTrn t).event k m = b.event k m := rfl
@[simp] theorem Bridge.putMerPort_raw_ (b : Bridge) (x : MerPort) (r' : Reg) : (b.putMerPort x).raw r' = b.raw r' := rfl
@[simp] theorem Bridge.putMerPort_get_ (b : Bridge) (x : MerPort) (r' : Reg) (g : Fld) : (b.putMerPort x).get r' g = b.get r' g := rfl
@[simp] theorem Bridge.putMerPort_mode_ (b : Bridge) (x : MerPort) : (b.putMerPort x).mode = b.mode := rfl
@[simp] theorem Bridge.putMerPort_cfgGet_ (b : Bridge) (x : MerPort) (ap' fn' : Nat) (g : CfgField) : (b.putMerPort x).cfgGet ap' fn' g = b.cfgGet ap' fn' g := rfl
@[simp] theorem Bridge.putMerPort_domState_ (b : Bridge) (x : MerPort) (m : Nat) : (b.putMerPort x).domState m = b.domState m := rfl
@[simp] theorem Bridge.putMerPort_link_ (b : Bridge) (x : MerPort) (k : Nat) : (b.putMerPort x).link k = b.link k := rfl
@[simp] theorem Bridge.putMerPort_lane_ (b : Bridge) (x : MerPort) (k : Nat) : (b.putMerPort x).lane k = b.lane k := rfl
@[simp] theorem Bridge.putMerPort_chan_ (b : Bridge) (x : MerPort) (k : Nat) : (b.putMerPort x).chan k = b.chan k := rfl
@[simp] theorem Bridge.putMerPort_finder_ (b : Bridge) (x : MerPort) (k : Nat) : (b.putMerPort x).finder k = b.finder k := rfl
@[simp] theorem Bridge.putMerPort_queue_ (b : Bridge) (x : MerPort) (k : Nat) : (b.putMerPort x).queue k = b.queue k := rfl
@[simp] theorem Bridge.putMerPort_inst_ (b : Bridge) (x : MerPort) (k : Nat) : (b.putMerPort x).inst? k = b.inst? k := rfl
@[simp] theorem Bridge.putMerPort_event_ (b : Bridge) (x : MerPort) (k : Blk) (m : Nat) : (b.putMerPort x).event k m = b.event k m := rfl
@[simp] theorem Bridge.holdCmd_raw_ (b : Bridge) (i : Instr) (r' : Reg) : (b.holdCmd i).raw r' = b.raw r' := rfl
@[simp] theorem Bridge.holdCmd_get_ (b : Bridge) (i : Instr) (r' : Reg) (g : Fld) : (b.holdCmd i).get r' g = b.get r' g := rfl
@[simp] theorem Bridge.holdCmd_mode_ (b : Bridge) (i : Instr) : (b.holdCmd i).mode = b.mode := rfl
@[simp] theorem Bridge.holdCmd_cfgGet_ (b : Bridge) (i : Instr) (ap' fn' : Nat) (g : CfgField) : (b.holdCmd i).cfgGet ap' fn' g = b.cfgGet ap' fn' g := rfl
@[simp] theorem Bridge.holdCmd_domState_ (b : Bridge) (i : Instr) (m : Nat) : (b.holdCmd i).domState m = b.domState m := rfl
@[simp] theorem Bridge.holdCmd_link_ (b : Bridge) (i : Instr) (k : Nat) : (b.holdCmd i).link k = b.link k := rfl
@[simp] theorem Bridge.holdCmd_lane_ (b : Bridge) (i : Instr) (k : Nat) : (b.holdCmd i).lane k = b.lane k := rfl
@[simp] theorem Bridge.holdCmd_chan_ (b : Bridge) (i : Instr) (k : Nat) : (b.holdCmd i).chan k = b.chan k := rfl
@[simp] theorem Bridge.holdCmd_finder_ (b : Bridge) (i : Instr) (k : Nat) : (b.holdCmd i).finder k = b.finder k := rfl
@[simp] theorem Bridge.holdCmd_merPort_ (b : Bridge) (i : Instr) (k : Nat) : (b.holdCmd i).merPort k = b.merPort k := rfl
@[simp] theorem Bridge.holdCmd_queue_ (b : Bridge) (i : Instr) (k : Nat) : (b.holdCmd i).queue k = b.queue k := rfl
@[simp] theorem Bridge.holdCmd_inst_ (b : Bridge) (i : Instr) (k : Nat) : (b.holdCmd i).inst? k = b.inst? k := rfl
@[simp] theorem Bridge.holdCmd_event_ (b : Bridge) (i : Instr) (k : Blk) (m : Nat) : (b.holdCmd i).event k m = b.event k m := rfl

/-! Events. -/

@[simp] theorem Bridge.raise_event_self (b : Bridge) (k : Blk) (n : Nat) (h : n < 64) : (b.raise k n).event k n = true :=
  b.raise_event k n h

/-- An event that is set stays set when settling reports. -/
theorem Bridge.Reported.event {b t : Bridge} (h : b.Reported t) (k : Blk) (n : Nat) (hb : b.event k n = true) :
    t.event k n = true := h.events k n hb

/-- Raising an event writes no register but the reporting ones. -/
theorem Bridge.raw_raise (b : Bridge) (k : Blk) (n : Nat) (r : Reg) (h : Reg.reports r = false) : (b.raise k n).raw r = b.raw r :=
  (Bridge.Reported.raise b k n).raw r h

theorem Bridge.get_raise (b : Bridge) (k : Blk) (n : Nat) (r : Reg) (f : Fld) (h : Reg.reports r = false) :
    (b.raise k n).get r f = b.get r f := (Bridge.Reported.raise b k n).get r f h

/-- A field reads what a saturating count leaves. -/
theorem Bridge.get_bump_self (b : Bridge) (r : Reg) (f : Fld) (n : Nat) (h : f.lo + f.len ≤ 64) :
    (b.bump r f n).get r f = satAdd f.len (b.get r f) n := by
  unfold Bridge.bump
  rw [b.get_set_self r f _ h]
  apply Nat.mod_eq_of_lt
  unfold satAdd
  have := Nat.two_pow_pos f.len
  omega

theorem Bridge.get_bump_apart (b : Bridge) (r : Reg) (f g : Fld) (n : Nat) (h : f.apart g) :
    (b.bump r f n).get r g = b.get r g := b.get_set_apart r f g _ h

theorem Bridge.get_bump_ne (b : Bridge) (r r' : Reg) (f g : Fld) (n : Nat) (h : r' ≠ r) :
    (b.bump r f n).get r' g = b.get r' g := b.get_set_ne r r' f g _ h

theorem Bridge.mode_set_ne (b : Bridge) (r : Reg) (f : Fld) (v : Nat) (h : r ≠ .pwrMode) : (b.set r f v).mode = b.mode :=
  b.get_set_ne r .pwrMode f _ v (Ne.symm h)

end Sys2Proof.Machine
end

