-- ==== Sys2Proof/WellFormed.lean ====
section
/-!
DEFINITION. Which commands are well formed: every operand names something that the family can have, and every packet,
burst and flit fits the bits of its header. The step gives ill-formed commands a meaning too; no statement needs one.
-/
namespace Sys2Proof

/-! Numbers of the family's largest part (R1, R3). -/

def apOk (a : Nat) : Bool := a < 4
def fnOk (f : Nat) : Bool := f < 4096
def viOk (v : Nat) : Bool := v < 2048
def chOk (c : Nat) : Bool := c < 8192
def queueOk (q : Nat) : Bool := q < 4096
def domeOk (d : Nat) : Bool := d < 32
def finderOk (f : Nat) : Bool := f < 256
def domOk (n : Nat) : Bool := n < 96
def merPortOk (p : Nat) : Bool := p < 4
def linkOk (k : Nat) : Bool := k < 5
def laneOk (i : Nat) : Bool := i < 72
def refOk (k : Nat) : Bool := k < 9
def slotOk (s : Nat) : Bool := 1 ≤ s && s < 8
def lineOk (l : Nat) : Bool := l < 16
/-- A byte offset of control space (R4). -/
def offOk (o : Nat) : Bool := o < 2 ^ 26
/-- An address on the Transit bus (R297). -/
def trnAddrOk (a : Nat) : Bool := a < 2 ^ 40
def ledgerOk (i : Nat) : Bool := i < 16384
def merTagOk (t : Nat) : Bool := t < 4096
def seqOk (n : Nat) : Bool := n < 2 ^ 32

/-! Operands. -/

def Writer.wf : Writer → Bool
  | .svc => true
  | .dir a => apOk a

def ChanSel.wf : ChanSel → Bool
  | .slot ap vf j => apOk ap && fnOk vf && j < 128
  | .chan w c => Writer.wf w && chOk c

def BarSel.wf : BarSel → Bool
  | .vf ap fn => apOk ap && fnOk fn
  | .pf0 w ap => Writer.wf w && apOk ap

def PortSrc.wf : PortSrc → Bool
  | .vf ap fn | .hostFn ap fn => apOk ap && fnOk fn
  | .meridian p tag => merPortOk p && merTagOk tag
  | .transit slot => slot < 8
  | .finder f => finderOk f
  | .bridge => true
  | .tirq _ => false

/-- A port page is 4 KiB, of which a VF sees 512 bytes (R221, R240). -/
def PortSel.wf (p : PortSel) : Bool :=
  PortSrc.wf p.src && (match p.src with | .vf .. => p.idx < 16 && p.off < 512 | _ => queueOk p.idx && p.off < 4096)

/-- A posted write carries 1 to 512 bytes (R110). -/
def HostWrite.wf (r : HostWrite) : Bool := apOk r.ap && r.addr < 2 ^ 64 && 0 < r.data.length && r.data.length ≤ 512

/-- A read asks for 1 to 4,096 bytes. -/
def HostReadOp.wf (r : HostReadOp) : Bool := apOk r.ap && r.addr < 2 ^ 64 && 0 < r.len && r.len ≤ 4096

/-- An AtomicOp is naturally aligned, its operands as long as its size. -/
def HostAtomic.wf (r : HostAtomic) : Bool :=
  apOk r.ap && [4, 8, 16].contains r.size && r.addr % r.size = 0 && r.val.length = r.size &&
    (r.kind ≠ .cas || r.cmp.length = r.size)

def HostCpl.wf (c : HostCpl) : Bool := apOk c.ap && c.tag < 16384 && c.rid < 65536 && (c.status = .sc || c.data.isEmpty)

def CfgAccess.wf : CfgAccess → Bool
  | .read _ => true
  | .write _ v => v < 2 ^ 64

/-- 32 timing steps and 64 voltage steps (R91). -/
def MarginPoint.wf : MarginPoint → Bool
  | .left s | .right s => s ≤ 32
  | .up s | .down s => s ≤ 64

/-- The header of a Meridian packet (R268). -/
def Packet.wf (k : Packet) : Bool :=
  k.type < 16 && merTagOk k.tag && k.len < 256 && k.mark < 4 && viOk k.vi && k.resp < 8 && k.op < 32 && k.addr < 2 ^ 52 &&
    (match k.pasid with | some x => x < 2 ^ 20 | none => true)

/-- The header of a flit (R346). -/
def FlitHdr.wf (h : FlitHdr) : Bool := h.seq < 4096 && h.ack < 4096 && h.first < 32 && h.csel < 4 && h.cval < 65536

/-- A burst on the Transit bus (R297): 1, 2, 4, 8 or 16 beats, naturally aligned. -/
def TransitBurst.wf (t : TransitBurst) : Bool :=
  slotOk t.slot && trnAddrOk t.addr && [1, 2, 4, 8, 16].contains t.beats && t.addr % (8 * t.beats) = 0 &&
    t.be.length = t.beats && t.data.length ≤ 8 * t.beats && t.lines.length ≤ t.beats

/-- A burst has at most 16 beats of 8 bytes (R297). -/
def BurstEnd.wf : BurstEnd → Bool
  | .trdy d => d.length ≤ 128
  | .terr n => n < 16
  | .trty n d _ => n < 16 && (d.isEmpty || d.length = 8 * n)
  | .edges l => l.all (fun e => e.data.length ≤ 8)

def MirrorChange.wf : MirrorChange → Bool
  | .delta _ => true
  | .resetStart v t => viOk v && t < 8

def CkptChan.wf (c : CkptChan) : Bool := chOk c.channel && viOk c.vi && c.state < 4

def HostLink.wf (l : HostLink) : Bool := l.rate < 16 && l.width ≤ 16 && l.l0pWidth ≤ 16 && l.state < 10

/-- Whether a command is well formed. -/
def Instr.wf : Instr → Bool
  | .stage w | .commit w | .cancel w | .seal w | .load w | .compact w | .shelfDataRead w | .adopt w | .handback w | .dim w
  | .park w | .service w | .release w | .enter w | .eyeCaptureDone w | .eyeRecAutoIncRead w => Writer.wf w
  | .shelfDataWrite w _ | .eyeSel w _ | .hold w _ | .tintSet w _ | .tintClr w _ | .ranksWrite w _ => Writer.wf w
  | .quarantineRelease w _ _ _ => Writer.wf w
  | .registerWrite w off _ _ | .rcFieldRead w off _ _ => Writer.wf w && offOk off
  | .svcWrite64 off _ _ | .svcRead64 off => offOk off && off % 8 = 0
  | .svcWrite32 off _ _ | .svcRead32 off => offOk off && off % 4 = 0
  | .hostPostedWrite r => HostWrite.wf r
  | .hostRead r => HostReadOp.wf r
  | .hostAtomicOp r => HostAtomic.wf r
  | .hostConfigRequest ap _ fn acc => apOk ap && fnOk fn && CfgAccess.wf acc
  | .hostCompletion c => HostCpl.wf c
  | .completionTimeout i | .ledgerEntryFree i => ledgerOk i
  | .busMasterEnableClear ap fn | .busMasterEnableSet ap fn | .vfFlr ap fn | .barrierComplete ap fn | .barLimitExpire ap fn
  | .interruptMethodChange ap fn _ _ | .vectorUnmask ap fn _ | .selfResetRequest ap fn _ _ => apOk ap && fnOk fn
  | .pf0Flr ap | .apertureLinkEvent ap _ | .postedEntryIssue ap | .dispatch ap _ | .hostLinkError ap _ => apOk ap
  | .numvfsWrite ap n => apOk ap && n < 65536
  | .barResize ap _ n => apOk ap && n < 64
  | .laneMarginingCommand ap lane p _ => apOk ap && laneOk lane && MarginPoint.wf p
  | .catCommit w i => Writer.wf w && i < 65536
  | .barrierPost b scope => BarSel.wf b && scope < 4
  | .barrierRead b scope _ => BarSel.wf b && scope < 3
  | .shadowWrite c w _ => ChanSel.wf c && w < 8
  | .arm c | .disarm c | .resume c | .skip c | .abort c => ChanSel.wf c
  | .channelQuiet c | .wedgeEscalation c | .segmentWatchdogExpire c _ => chOk c
  | .runlistPlace d | .guideOpen d => domeOk d
  | .segmentTake f | .finderClockGate f => finderOk f
  | .stealProbe f d => finderOk f && domeOk d
  | .swapTo w ap | .swapFrom w ap => Writer.wf w && apOk ap
  | .shareWrite w vi _ _ => Writer.wf w && viOk vi
  | .create w ap vf => Writer.wf w && apOk ap && fnOk vf
  | .destroy w ap vi | .reset w ap vi => Writer.wf w && apOk ap && viOk vi
  | .instanceResetDrained vi | .drainDeadline vi => viOk vi
  | .append p l | .packet p l => PortSel.wf p && l.length ≤ 256
  | .logPortClose p | .dropRest p | .setMark p | .clearMark p | .rewind p | .flush p => PortSel.wf p
  | .consume p len _ => PortSel.wf p && len ≤ 4096
  | .consumeStallExpire q | .unreadTimeout q | .spillRefillDone q | .logpkt q _ => queueOk q
  | .meridianRead p k | .meridianWrite p k | .rload p k | .cstore p k | .atomic p k | .interrupt p k | .caps p k
  | .meridianBarrier p k | .meridianCpl p k | .meridianCpld p k => merPortOk p && Packet.wf k
  | .meridianTimeout p t | .meridianTagFree p t | .meridianRetryResend p t => merPortOk p && merTagOk t
  | .payload k h ws _ => linkOk k && FlitHdr.wf h && ws.length = 30
  | .idle k h _ => linkOk k && FlitHdr.wf h
  | .badFlit k | .pause k _ | .retrainReq k _ | .retrainAck k _ | .down k | .replayTimerExpire k | .downHoldExpire k
  | .trainingPhaseDone k _ | .trainingPhaseTimeout k | .retrainReqResend k | .retrainTimeout k => linkOk k
  | .creditTimeout k kind => linkOk k && kind < 4
  | .ifvRetrain w k | .ifvDown w k | .ifvUp w k => Writer.wf w && linkOk k
  | .widthCapWrite w k cap => Writer.wf w && linkOk k && cap < 32
  | .lossOfLock i _ | .lossOfSignal i | .losHeldExpire i | .microRetrainDone i | .microRetrainTimeout i | .eyeHoldExpire i
  | .lossOfSignalEnd i => laneOk i
  | .refclkWindow k _ => refOk k
  | .scanComplete i eyes _ => laneOk i && eyes.length ≤ 3
  | .transitWriteCycle t | .transitReadCycle t => TransitBurst.wf t
  | .tgtWaitExpire s | .delayedHoldExpire s => slotOk s
  | .transitUnclaimed a | .grantHoldExpire a => trnAddrOk a
  | .dataPhaseWaitExpire w => trnAddrOk w.addr
  | .transitBurstDone e => BurstEnd.wf e
  | .svcTransitRead w a _ | .svcTransitWrite w a _ => Writer.wf w && trnAddrOk a
  | .tirqAssert l | .tirqRepeat l | .tirqDeassert l => lineOk l
  | .hello h => h.homeFirst ≤ h.homeLast && viOk h.homeLast
  | .change n c => seqOk n && MirrorChange.wf c
  | .ack n code => seqOk n && code < 256
  | .ckpt n l => seqOk n && l.all CkptChan.wf
  | .logptr p => queueOk p.queue
  | .resyncEnd n | .retract n => seqOk n
  | .wake n => 1 ≤ n && n ≤ 8
  | .shutterOpenRequest n | .shutterOpened n | .shutterClose n => domOk n
  | .fatalInternalError c _ _ => 1 ≤ c && c ≤ 5
  | .hostLinkStateChange ap l => apOk ap && HostLink.wf l
  | .vauxPowerOn .. | .vauxLost | .pwrgoodRise .. | .pwrgoodFall | .perstAssert | .perstRelease .. | .almanacLoadDone
  | .applyLimitExpire | .serviceLoadWaitExpire | .chartingComplete | .bareRelink | .almCommitDone | .svcStatus
  | .archiveTimeout _ | .arbitrationDecision _ | .grantUnused | .transitRetryGapExpire
  | .mirrorAckTimeout | .checkpointSend | .heartbeatEdge | .heartbeatLost | .tclkNotSeen | .fenceExpire
  | .mirrorStrobeTimeout | .fabricClockStop | .dimIdleExpire | .wakeComplete | .siderealAlarm | .calibrationDone _
  | .calibrationPeriod | .quarantineHoldExpire .. | .thermtrip | .archiveRequestServed _ | .eccCorrected _ => true

end Sys2Proof
end

