-- ==== Sys2Proof/Tests/Slice0.lean ====
section
/-!
SUPPORT. The model's own tests: a smoke test of well-formedness, the spec's worked examples, small steps of the commands,
and for each statement of Obligations.lean states and operands that meet the hypotheses of its clauses.
-/
namespace Sys2Proof.Tests

open Sys2Proof
open Sys2Proof.Machine

/-! Helpers: small states. -/

def regsOf (l : List (Reg × Fld × Nat)) (b : Bridge) : Bridge := l.foldl (fun (b : Bridge) x => b.set x.1 x.2.1 x.2.2) b

/-- The body of an almanac section whose records have `n` bytes, or their own lengths for 0 (R30). -/
def body (n : Nat) (l : List (List Nat)) : List Byte :=
  ([n % 256, n / 256, l.length, 0, 0, 0, 0, 0] ++ l.flatten).map (BitVec.ofNat 8)

def pad (n : Nat) (l : List Nat) : List Nat := l ++ List.replicate (n - l.length) 0

/-- An almanac: lanes of AP0, of Meridian port 0 and of Ifevin, Aperture 0 enabled, one pool partition for it. -/
def img : Image :=
  { kind := 0, signed := false, sealOnApply := false, digest := 0x1234#384
    sections := [
      ⟨0x0001, 0, false, body 8 [pad 8 [0, 0, 16, 0], pad 8 [1, 0, 8, 0], pad 8 [2, 0, 4, 0]]⟩,
      ⟨0x0002, 0, false, body 0 [pad 8 [8, 0, 0, 1]]⟩,
      ⟨0x0102, 1, false, body 32 [pad 32 [0, 0, 0, 0, 8, 0, 16, 0, 64, 0, 0, 0, 16, 0, 16, 0, 16, 0, 16]]⟩] }

def raised : Pins :=
  { vaux := true, pwrgood := true, perstReleased := true, transitFloat := false, wakeN := false, thermtrip := false, hostTerm := true }

/-- A bridge in mode `m`, out of reset, its domains open, with `img` in force, VF1 of Aperture 0 bound to instance 5, and the given fields. -/
def board (m : Nat) (l : List (Reg × Fld × Nat) := []) : Bridge :=
  let b0 := { Bridge.reset with
    pins := raised, tick := 1000
    eng := { Bridge.reset.eng with doms := (List.range 96).map (fun n => ⟨n, 2, 0⟩) }
    alm := { Almanac.none_ with inForce := some img }
    kept := { Kept.fresh with active := true, source := 1, digest := img.digest } }
  let b1 := regsOf ([(.pwrMode, Fld.pwrMode_MODE, m), (.viEntry 5, Fld.viEntry_VALID, 1), (.viEntry 5, Fld.viEntry_STATE, 1),
    (.viEntry 5, Fld.viEntry_VF, 1), (.viEntry 5, Fld.viEntry_CHANNELS, 4), (.viEntry 5, Fld.viEntry_FIRST_CH, 8),
    (.viEntry 5, Fld.viEntry_GRANT_FIRST, 32), (.viRes 5, Fld.viRes_QUEUES, 2), (.viRes 5, Fld.viRes_FIRST_LQ, 16),
    (.viRes 5, Fld.viRes_VECTORS, 4), (.viRes 5, Fld.viRes_LEDGER_QUOTA, 8),
    (.aptLinkEff 0, Fld.aptLinkEff_STATE, 3)] ++ l) b0
  [(CfgField.vfEnable, 1), (.vfMse, 1), (.numVfs, 4), (.totalVfs, 4), (.busMaster, 1), (.memorySpace, 1)].foldl
    (fun (b : Bridge) p => b.cfgPut 0 0 p.1 p.2) (b1.cfgPut 0 1 .busMaster 1)

def st (b : Bridge) : State := { pending := [], mem := [], b := b }

/-- The state after a command, and after a step. -/
def after (c : Instr) (s : State) : State := match exec c s with | .next t => t | _ => s
def stepped (s : State) : State := match step s with | .next t => t | _ => s

/-- Whether a command, or a step, answers a given next state. -/
def answers (o : Host.Outcome State Fault Refusal) (t : State) : Bool := match o with | .next u => decide (u = t) | _ => false
def runs (c : Instr) (s t : State) : Bool := answers (exec c s) t

def dir0 : Writer := .dir 0
def vf1 : ChanSel := .slot 0 1 0

/-! The board used below serves, is calm, and VF1 reaches its instance. -/

theorem board_serves : (board 5).mode = 5 ∧ (board 5).calm = true ∧ (board 5).hostThere 0 = true ∧ (board 5).viOf 0 1 = some 5 ∧
    (board 5).fnAnswers 0 1 = true ∧ (board 5).fnThere 0 1 = true ∧ (board 5).apTrained 0 = true := by decide +kernel

/-! Witnesses: the block as a whole. -/

theorem wit_EmptyQueueTicks : (st (board 0)).pending = [] ∧ (board 0).mode = 0 ∧ (board 1).mode = 1 ∧
    (stepped (st (board 1))).b.tick = (board 1).tick + 1 := by decide +kernel

def job0 : Job :=
  { id := 7, origin := .hostWrite, src := .hostFn 0 1, owner := none, director := false, idx := 0, gen := 0, space := 2,
    port := 0, addr := 0x100, op := .write [some 0xAB#8, none] false, off := 0, order := 0 }

def req0 : ArchReq := { id := 3, rank := 3, t0 := 1000, job := some job0, user := 0, arg := 0 }

def serving0 : State :=
  { st { board 5 [(.arcStat, Fld.arcStat_READY, 1)] with archReqs := [req0] } with mem := [⟨0x101, 0xCD#8⟩] }

theorem wit_StepKeepsMemoryCanonical : memWf serving0.mem = true ∧ memWf (stepped serving0).mem = true ∧
    answers (step serving0) (stepped serving0) = true := by decide +kernel

theorem wit_ArchiveMemoryFrame_keeps : writesMemory .heartbeatEdge = false ∧
    runs .heartbeatEdge serving0 (after .heartbeatEdge serving0) = true ∧ (after .heartbeatEdge serving0).mem = serving0.mem := by
  decide +kernel

theorem wit_ArchiveMemoryFrame_serves : serving0.b.get .arcStat Fld.arcStat_READY = 1 ∧ serving0.b.mode ≠ 11 ∧
    serving0.b.archNext = some req0 ∧ req0.job = some job0 ∧ job0.op = .write [some 0xAB#8, none] false ∧
    (serving0.archServe .served req0).mem = [⟨0x100, 0xAB#8⟩, ⟨0x101, 0xCD#8⟩] := by decide +kernel

theorem wit_ArchiveMemoryFrame_waits : (st (board 5)).b.archNext = none ∧ (st (board 11)).b.mode = 11 ∧
    (st (board 2)).b.get .arcStat Fld.arcStat_READY = 0 ∧
    runs (.archiveRequestServed .served) (st (board 11)) (st (board 11)) = true := by decide +kernel

theorem wit_ArchiveMemoryFrame_reads :
    let r := { req0 with job := some { job0 with op := .read 8 } }
    (∀ j, r.job = some j → ∀ d k, j.op ≠ .write d k) ∧ (serving0.archServe .served r).mem = serving0.mem := by
  refine ⟨?_, by decide +kernel⟩
  intro j h d k
  cases h
  nofun

/-! Witnesses: supplies, pins and starts. -/

def strapsHost : Straps := { almSrc := 2, bootBareN := true, pairId := false }
def strapsPort : Straps := { almSrc := 3, bootBareN := true, pairId := true }

theorem wit_Supplies_rise : (st (board 0)).b.mode = 0 ∧ (true && false) = false ∧
    (after (.vauxPowerOn true false strapsHost .error .error) (st (board 0))).b.mode = 1 := by decide +kernel

theorem wit_Supplies_fall : 1 ≤ (st (board 5)).b.mode ∧ (st (board 5)).b.pins.pwrgood = true ∧ (st (board 5)).b.mode ≠ 1 ∧
    (after .pwrgoodFall (st (board 5))).b.mode = 1 ∧ (after .pwrgoodFall (st (board 1))).b.mode = 1 := by decide +kernel

theorem wit_PerstHoldsReset : 2 ≤ (st (board 2)).b.mode ∧ 2 ≤ (st (board 11)).b.mode ∧
    (after .perstAssert (st (board 11))).b.heldReset = true := by decide +kernel

theorem wit_Starts_power : strapsSteady strapsHost = true ∧ (st (board 0)).b.mode = 0 ∧
    (after (.vauxPowerOn true true strapsHost .error .error) (st (board 0))).b.mode = 3 ∧
    (after (.vauxPowerOn true true strapsPort .error .error) (st (board 0))).b.alm.waitService = true := by decide +kernel

def lowPwr : State := st { board 1 with pins := { raised with pwrgood := false } }
def lowPerst : State := st { board 2 with pins := { raised with perstReleased := false } }
def lowPerst1 : State := st { board 1 with pins := { raised with perstReleased := false } }

theorem wit_Starts_pins : lowPwr.b.mode = 1 ∧ lowPwr.b.pins.pwrgood = false ∧ lowPwr.b.pins.perstReleased = true ∧
    lowPerst.b.mode = 2 ∧ lowPerst.b.pins.perstReleased = false ∧ lowPerst1.b.mode = 1 ∧ lowPerst1.b.pins.pwrgood = true ∧
    (after (.pwrgoodRise strapsHost .error .error) lowPwr).b.mode = 3 ∧
    (after (.perstRelease strapsHost .error .error) lowPerst).b.get .idBoot Fld.idBoot_CAUSE = 2 ∧
    (after (.perstRelease strapsHost .error .error) lowPerst1).b.get .idBoot Fld.idBoot_CAUSE = 2 := by decide +kernel

def quarantined (loops : Nat) : State :=
  st { board 11 [(.fltQuarCtrl, Fld.fltQuarCtrl_RELEASE, 1)] with kept := { Kept.fresh with loops := loops } }

theorem wit_Starts_loops : (quarantined 1).b.holdOver = true ∧ (quarantined 1).b.kept.loops < 2 ∧ (quarantined 1).b.mode = 11 ∧
    (quarantined 2).b.holdOver = true ∧ 2 ≤ (quarantined 2).b.kept.loops ∧
    (after (.quarantineHoldExpire strapsHost .error .error) (quarantined 1)).b.kept.loops = 2 ∧
    (after (.quarantineRelease .svc strapsHost .error .error) (quarantined 1)).b.get .idBoot Fld.idBoot_CAUSE = 3 ∧
    (after (.quarantineHoldExpire strapsPort .error .error) (quarantined 2)).b.get .fltQuarStat Fld.fltQuarStat_BOOT_LOOP = 1 := by
  decide +kernel

/-- The hold ends at the tick of the entry plus level 14, and not sooner (R440). -/
theorem test_quarantine_hold : (board 11 [(.fltQuarTick, Fld.fltQuarTick_TICK, 0)]).holdOver = false ∧
    ({ board 11 with tick := 100000000 } : Bridge).holdOver = true ∧ ({ board 11 with tick := 99999999 } : Bridge).holdOver = false := by
  decide +kernel

/-! Witnesses: the almanac. -/

def busy0 : State := st { board 5 with alm := { (board 5).alm with committing := true } }
def sealed0 (m : Nat) : State := st (board m [(.almStatus, Fld.almStatus_SEALED, 1)])

theorem wit_AlmanacCommandsRefused : busy0.b.takes dir0 0x00100100 = true ∧ busy0.b.authorised dir0 .almCmd = true ∧
    busy0.b.calm = true ∧ busy0.b.almBusy = true ∧ (sealed0 5).b.almBusy = false ∧
    (sealed0 5).b.get .almStatus Fld.almStatus_SEALED = 1 ∧ (st (board 5)).b.almBusy = false ∧
    (st (board 5)).b.get .almStatus Fld.almStatus_SEALED ≠ 1 ∧ (st (board 5)).b.mode ≠ 2 ∧ (st (board 5)).b.alm.staged = none := by decide +kernel

/-- A patch of no sections. -/
def patch0 : Image := { kind := 1, signed := false, sealOnApply := false, digest := 0x77#384, sections := [] }
def staged0 (m : Nat) : State := st { board m with alm := { (board m).alm with staged := some patch0 } }

theorem wit_AlmanacCommandsAct : (staged0 5).b.takes dir0 0x00100100 = true ∧ (staged0 5).b.almBusy = false ∧
    (staged0 5).b.calm = true ∧ (staged0 5).b.alm.staged = some patch0 ∧ (staged0 5).b.inUse patch0 = none ∧ (staged0 5).b.mirrors = false ∧
    4 ≤ (staged0 5).b.mode ∧ (staged0 2).b.takes .svc 0x00100100 = true ∧ (staged0 2).b.mode < 4 ∧
    (after (.commit dir0) (staged0 5)).b.alm.committing = true ∧
    (after (.load .svc) (staged0 2)).b.archReqs.length = 1 := by decide +kernel

/-- STAGE of a shelf that holds nothing: BAD_MAGIC (R34). -/
theorem wit_AlmanacCommandsAct_stage :
    (match (st (board 5)).b.stageCheck (shelfImage []) with | .inl r => r.code | .inr _ => 0) = 1 := by decide +kernel

/-- A patch of one rate-limits record for instance 5, laid out by the almanac format (R28 to R30). -/
def shelfMem : List Host.Cell :=
  [⟨0, 81#8⟩, ⟨1, 65#8⟩, ⟨2, 76#8⟩, ⟨3, 77#8⟩, ⟨4, 1#8⟩, ⟨8, 50#8⟩, ⟨9, 116#8⟩, ⟨10, 1#8⟩, ⟨13, 2#8⟩, ⟨16, 1#8⟩,
   ⟨21, 1#8⟩, ⟨28, 97#8⟩, ⟨29, 163#8⟩, ⟨30, 250#8⟩, ⟨31, 223#8⟩, ⟨94, 18#8⟩, ⟨95, 52#8⟩, ⟨252, 241#8⟩, ⟨253, 199#8⟩,
   ⟨254, 168#8⟩, ⟨255, 83#8⟩, ⟨256, 4#8⟩, ⟨257, 1#8⟩, ⟨258, 1#8⟩, ⟨260, 64#8⟩, ⟨261, 1#8⟩, ⟨264, 24#8⟩, ⟨268, 12#8⟩,
   ⟨269, 166#8⟩, ⟨270, 185#8⟩, ⟨271, 15#8⟩, ⟨320, 16#8⟩, ⟨322, 1#8⟩, ⟨328, 5#8⟩, ⟨330, 3#8⟩, ⟨331, 6#8⟩, ⟨339, 1#8⟩]

theorem wit_AlmanacCommandsAct_good : memWf shelfMem = true ∧
    (((board 5).stageCheck (shelfImage shelfMem)).getRight?).map (fun p => (p.kind, p.sections.length)) = some (1, 1) := by
  decide +kernel

/-- CRC-32C of the nine digits, and SHA-384 of "abc" (their published check values). -/
theorem test_crc32c : crc32c ([0x31, 0x32, 0x33, 0x34, 0x35, 0x36, 0x37, 0x38, 0x39].map (BitVec.ofNat 8)) = 0xE3069283 := by
  decide +kernel
theorem test_sha384 : sha384 ([0x61, 0x62, 0x63].map (BitVec.ofNat 8)) =
    0xCB00753F45A35E8BB5A03D699AC65007272C32AB0EDED1631A8B605A43FF5BED8086072BA1E7CC2358BAECA134C825A7#384 := by decide +kernel

/-- A patch that changes pools, which is in use where instance 5 holds more channels than it leaves. -/
def tight : Image := { patch0 with sections := [⟨0x0102, 1, false, body 32 [pad 32 [0, 0, 0, 0, 8, 0, 2, 0, 64]]⟩] }

theorem wit_AlmanacCommandsAct_in_use : ((board 5).inUse tight).isSome = true := by decide +kernel

/-- One rate-limits record: a patch with something to mirror. -/
def shares : Image := { patch0 with sections := [⟨0x0104, 1, false, body 16 [pad 16 [5, 0, 3, 6]]⟩] }

theorem wit_CommitOfPatch_mirrors :
    let s := st { board 6 with alm := { (board 6).alm with staged := some shares } }
    s.b.takes dir0 0x00100100 = true ∧ s.b.authorised dir0 .almCmd = true ∧ s.b.almBusy = false ∧ s.b.inUse shares = none ∧
    s.b.mirrors = true ∧ shares.deltas ≠ [] ∧ (after (.commit dir0) s).b.alm.mirroring = true := by decide +kernel

def committing0 (start : Nat) : State :=
  st { board 5 with tick := 20000000, alm := { (board 5).alm with staged := some patch0, committing := true, start := start } }

theorem wit_CommitOfPatch_ends : (committing0 19999999).b.mode ≠ 11 ∧ (committing0 19999999).b.alm.mirroring = false ∧
    (committing0 19999999).b.commitLate = false ∧ (committing0 0).b.commitLate = true ∧ (committing0 0).b.alm.loading = none := by
  decide +kernel

/-- A full almanac on its way, from flash or from the service port. -/
def loading0 (m source start tick : Nat) : State :=
  st { board m with tick := tick, alm := { Almanac.none_ with start := start, loading := some (⟨source, 0, 0, none⟩, img) } }

theorem wit_LoadAttempts_in_time : (loading0 2 1 10 20).b.mode ≠ 11 ∧ (⟨1, 0, 0, none⟩ : Attempt).source < 4 ∧
    20 < 10 + (loading0 2 1 10 20).b.attemptLimit ⟨1, 0, 0, none⟩ ∧
    (loading0 2 1 10 20).b.attemptLimit ⟨1, 0, 2, none⟩ = 8 * (loading0 2 1 10 20).b.attemptLimit ⟨1, 0, 0, none⟩ := by decide +kernel

theorem wit_LoadAttempts_late :
    let n := (loading0 2 1 10 20).b.attemptLimit ⟨1, 0, 0, none⟩
    (loading0 2 1 10 (10 + n)).b.mode = 2 ∧ (loading0 2 1 10 (10 + n)).b.alm.next = [] ∧
    10 + (loading0 2 1 10 (10 + n)).b.attemptLimit ⟨1, 0, 0, none⟩ ≤ (loading0 2 1 10 (10 + n)).b.tick ∧
    (loading0 3 3 10 (10 + n)).b.mode = 3 ∧ ((loading0 2 1 10 (10 + n)).b.tick < 10 + n) = False := by decide +kernel

theorem wit_LoadAttempts_service :
    let s := st { board 2 with tick := 40000007, alm := { Almanac.none_ with waitService := true, tickS := 7 } }
    s.b.mode = 2 ∧ s.b.alm.waitService = true ∧ s.b.alm.tickS + 40000000 ≤ s.b.tick := by decide +kernel

def charting (l : List (Reg × Fld × Nat)) : State :=
  st { board 4 l with tick := 500100, alm := { (board 4).alm with calibrated := true, chartStart := 100, tickS := 90 } }

theorem wit_ChartingAndRelink : (charting []).b.charted = true ∧ (charting []).b.paired = false ∧ (charting []).b.calm = true ∧
    (charting [(.ifvPairCfg, Fld.ifvPairCfg_ENABLE, 1)]).b.charted = true ∧
    (charting [(.ifvPairCfg, Fld.ifvPairCfg_ENABLE, 1)]).b.paired = true ∧
    (after .chartingComplete (charting [])).b.get .idBoot Fld.idBoot_READY_TICKS = 500010 := by decide +kernel

def relinking (n : Nat) : State := st { board 4 with alm := { (board 4).alm with bareRelinkAt := some n } }

theorem wit_ChartingAndRelink_bare : (relinking 1000).b.alm.bareRelinkAt = some 1000 ∧ (relinking 1000).b.calm = true ∧
    1000 ≤ (relinking 1000).b.tick ∧ (relinking 1001).b.tick < 1001 ∧ runs .bareRelink (relinking 1001) (relinking 1001) = true := by
  decide +kernel

/-- The smallest full image: the seven sections that each must hold, all empty but the power policy of one record (R28 to R31). -/
def fullMem : List Host.Cell :=
  [⟨0, 81#8⟩, ⟨1, 65#8⟩, ⟨2, 76#8⟩, ⟨3, 77#8⟩, ⟨4, 1#8⟩, ⟨8, 50#8⟩, ⟨9, 116#8⟩, ⟨12, 64#8⟩, ⟨13, 3#8⟩, ⟨16, 7#8⟩, ⟨21, 1#8⟩,
   ⟨28, 152#8⟩, ⟨29, 32#8⟩, ⟨30, 146#8⟩, ⟨31, 48#8⟩, ⟨252, 4#8⟩, ⟨253, 162#8⟩, ⟨254, 123#8⟩, ⟨255, 159#8⟩, ⟨256, 1#8⟩,
   ⟨260, 128#8⟩, ⟨261, 1#8⟩, ⟨264, 8#8⟩, ⟨268, 80#8⟩, ⟨269, 182#8⟩, ⟨270, 19#8⟩, ⟨271, 206#8⟩, ⟨272, 2#8⟩, ⟨276, 192#8⟩,
   ⟨277, 1#8⟩, ⟨280, 8#8⟩, ⟨284, 138#8⟩, ⟨285, 178#8⟩, ⟨286, 40#8⟩, ⟨287, 140#8⟩, ⟨288, 3#8⟩, ⟨293, 2#8⟩, ⟨296, 8#8⟩,
   ⟨300, 138#8⟩] ++
  [⟨301, 178#8⟩, ⟨302, 40#8⟩, ⟨303, 140#8⟩, ⟨304, 4#8⟩, ⟨308, 64#8⟩, ⟨309, 2#8⟩, ⟨312, 40#8⟩, ⟨316, 22#8⟩, ⟨317, 241#8⟩,
   ⟨318, 66#8⟩, ⟨319, 221#8⟩, ⟨320, 9#8⟩, ⟨324, 128#8⟩, ⟨325, 2#8⟩, ⟨328, 8#8⟩, ⟨332, 231#8⟩, ⟨333, 48#8⟩, ⟨334, 53#8⟩,
   ⟨335, 173#8⟩, ⟨336, 10#8⟩, ⟨340, 192#8⟩, ⟨341, 2#8⟩, ⟨344, 8#8⟩, ⟨348, 80#8⟩, ⟨349, 182#8⟩, ⟨350, 19#8⟩, ⟨351, 206#8⟩,
   ⟨352, 11#8⟩, ⟨357, 3#8⟩, ⟨360, 8#8⟩, ⟨364, 80#8⟩, ⟨365, 182#8⟩, ⟨366, 19#8⟩, ⟨367, 206#8⟩, ⟨384, 8#8⟩, ⟨576, 32#8⟩,
   ⟨578, 1#8⟩, ⟨640, 4#8⟩, ⟨704, 8#8⟩, ⟨768, 8#8⟩]

def requested (user : Nat) (mem : List Host.Cell) : State :=
  { st { board 5 [(.arcStat, Fld.arcStat_READY, 1)] with archReqs := [⟨5, 3, 1000, none, user, 0⟩] } with mem := mem }

theorem wit_ShelfImageArrives (u : Nat) (h : u = 3 ∨ u = 5) :
    (requested u shelfMem).b.get .arcStat Fld.arcStat_READY = 1 ∧ (requested u shelfMem).b.mode ≠ 11 ∧
    (requested u shelfMem).b.calm = true ∧ (requested u shelfMem).b.archNext = some ⟨5, 3, 1000, none, u, 0⟩ := by
  rcases h with rfl | rfl <;> decide +kernel

theorem wit_ShelfImageArrives_patch :
    let b := ((requested 5 []).b.archTake ⟨5, 3, 1000, none, 5, 0⟩).archCount 3 512
    ((b.stageCheck (shelfImage shelfMem)).getRight?.map (·.kind)) = some 1 ∧
    ((b.stageCheck (shelfImage fullMem)).getLeft?.map (·.code)) = some 0x0E := by decide +kernel

theorem wit_ShelfImageArrives_full :
    (((requested 3 []).b.archTake ⟨5, 3, 1000, none, 3, 0⟩).loadCheck (some (shelfImage fullMem))).isRight = true := by
  decide +kernel

theorem wit_CommitEnds_open : (committing0 0).b.domsOpen [95] = true := by decide +kernel


/-! Witnesses: channels and finders. -/

/-- A good shadow for channel 8: 4 KiB from one host address to another, at the given states of channel and shadow. -/
def chan8 (state shadow : Nat) (l : List (Reg × Fld × Nat) := []) : Bridge :=
  board 5 ([(.fndShadow 8 0, Fld.fndSetSrc_HOST, 1), (.fndShadow 8 0, Fld.fndSetSrc_ADDR, 0x1000), (.fndShadow 8 1, Fld.fndSetSrc_HOST, 1),
    (.fndShadow 8 1, Fld.fndSetSrc_ADDR, 0x2000), (.fndShadow 8 2, Fld.fndSetLen_LENGTH, 4096), (.fndChCtrl 8, Fld.fndChCtrl_HOME_DOME, 2),
    (.fndChStatus 8, Fld.fndChStatus_STATE, state), (.fndChStatus 8, Fld.fndChStatus_SHADOW, shadow)] ++ l)

/-- What a VF's access to channel 8 needs, as one check. -/
def serves8 (b : Bridge) : Bool :=
  b.hostThere 0 && b.serving && b.fnAnswers 0 1 && decide (b.chanOf vf1 = some 8) && b.chanAllowed vf1 8 && b.domsOpen [chanDom 8]

theorem servesChan_of_serves8 (b : Bridge) (h : serves8 b = true) : b.servesChan vf1 8 := by
  simp only [serves8, Bool.and_eq_true, decide_eq_true_eq] at h
  exact ⟨⟨h.1.1.1.1.1, h.1.1.1.1.2, by decide, h.1.1.1.2⟩, h.1.1.2, h.1.2, h.2⟩

theorem wit_servesChan_director : (chan8 0 0).servesChan (.chan dir0 8) 8 :=
  ⟨by decide +kernel, by decide +kernel, by decide +kernel, by decide +kernel⟩

theorem wit_ShadowStates : serves8 (chan8 0 0) = true ∧ serves8 (chan8 1 2) = true ∧ serves8 (chan8 1 3) = true ∧
    (chan8 0 0).calm = true ∧ (chan8 0 0).chShadow 8 < 2 ∧ 2 ≤ (chan8 1 2).chShadow 8 ∧ (chan8 1 2).calm = true ∧
    (chan8 1 2).chShadow 8 = 2 ∧ (after (.shadowWrite vf1 7 5#64) (st (chan8 0 0))).b.chShadow 8 = 1 ∧
    (after (.shadowWrite vf1 7 5#64) (st (chan8 1 3))).b.get (.blkReject .fnd) Fld.blkReject_REASON = 10 ∧
    (after (.disarm vf1) (st (chan8 1 2))).b.chShadow 8 = 1 ∧ (after (.disarm vf1) (st (chan8 1 3))).b.chShadow 8 = 3 ∧
    (after (.arm vf1) (st (chan8 1 2))).b.get (.blkReject .fnd) Fld.blkReject_REASON = 10 := by decide +kernel

def arming (b : Bridge) : Bridge := ((b.asSeenBy vf1).set (.fndChStatus 8) Fld.fndChStatus_HOPS 0).doorbell 2
def armed (b : Bridge) : Nat := (arming b).armCheck 8 ((List.range 8).map (fun w => (arming b).raw (.fndShadow 8 w)))

theorem wit_ArmPromotes : serves8 (chan8 0 1) = true ∧ serves8 (chan8 1 1) = true ∧ (chan8 0 1).chShadow 8 ≠ 2 ∧ armed (chan8 0 1) = 0 ∧ (chan8 0 1).chShadow 8 < 2 ∧
    ((chan8 0 1).chanOwner 8).isSome = true ∧ (chan8 0 1).chState 8 = 0 ∧ (chan8 1 1).chState 8 ≠ 0 ∧ armed (chan8 1 1) = 0 ∧
    armed (chan8 0 1 [(.fndShadow 8 2, Fld.fndSetLen_LENGTH, 0)]) = 4 ∧ (after (.arm vf1) (st (chan8 1 1))).b.chShadow 8 = 2 ∧
    (after (.arm vf1) (st (chan8 0 1))).b.chState 8 = 1 := by decide +kernel

def seg8 (s : SegState) : Seg := { Seg.new 0 0 4096 0 2 false with st := s }

def chanRec (s : SegState) : Chan :=
  { c := 8, segs := [seg8 s], step := .open_, skips := 0, status := 0, noPromote := false, sums := [], barrier := none,
    barrierDone := false, haltAtEnd := none, firstFault := none, held := none, haltTick := 0, loading := false, loadGot := [], fixedFinder := none,
    loadTick := 0 }

def withChans (b : Bridge) (l : List Chan) : Bridge := { b with eng := { b.eng with chans := l } }

theorem wit_ChannelRecovery_waits : serves8 (withChans (chan8 2 0) [chanRec (.taken 17)]) = true ∧ (chan8 1 0).chState 8 ≠ 2 ∧ (withChans (chan8 2 0) [chanRec (.taken 17)]).chState 8 = 2 ∧
    (withChans (chan8 2 0) [chanRec (.taken 17)]).quiet 8 = false ∧ (chan8 1 0).calm = true ∧
    (withChans (chan8 2 0) [chanRec (.taken 17)]).wedged 8 5 = false := by decide +kernel

theorem wit_ChannelRecovery_quiet : serves8 (chan8 2 0) = true ∧ (chan8 2 0).chState 8 = 2 ∧ (chan8 2 0).quiet 8 = true ∧ (chan8 2 0).chanOwner 8 = some 5 ∧
    (let b := withChans (chan8 2 0) [{ chanRec .failed with held := some 4 }]
     (b.chan 8).held = some 4 ∧ b.chanOwner 8 = some 5 ∧ b.mode ≠ 11 ∧ b.chState 8 = 2 ∧ b.quiet 8 = true ∧
     ((after (.channelQuiet 8) (st b)).b.chan 8).held = none) ∧
    (let b := chan8 2 2 [(.fndChFaultInfo 8, Fld.fndChFaultInfo_DIRECTION, 2)]
     b.get (.fndChFaultInfo 8) Fld.fndChFaultInfo_DIRECTION = 2 ∧ b.chShadow 8 = 2) := by decide +kernel

/-! Finder 17 belongs to dome 2. -/

def dome2 (s : List SegState) (l : List (Reg × Fld × Nat) := []) : Bridge :=
  let b := chan8 1 0 ([(.dspDomeCfg 2, Fld.dspDomeCfg_DEPTH, 2), (.dspDomeCfg 2, Fld.dspDomeCfg_CH_WINDOW, 8)] ++ l)
  { withChans b [{ chanRec .unplaced with segs := s.zipIdx.map (fun p => { seg8 p.1 with idx := p.2, seqNo := p.2 }) }] with
    eng := { b.eng with
      chans := [{ chanRec .unplaced with segs := s.zipIdx.map (fun p => { seg8 p.1 with idx := p.2, seqNo := p.2 }) }]
      doms := [⟨2, 2, 0⟩, ⟨3, 2, 0⟩], finders := [⟨17, true, 0, 0, 0⟩, ⟨25, true, 900, 0, 6⟩] } }

theorem wit_Finders_place : (st (dome2 [.unplaced])).b.mode = 5 ∧ (dome2 [.unplaced]).chState 8 = 1 ∧
    ((dome2 [.unplaced]).chan 8).segs.find? (fun g => g.st = .unplaced) = some (seg8 .unplaced) ∧
    ((dome2 [.unplaced]).runList 2).length < (dome2 [.unplaced]).get (.dspDomeCfg 2) Fld.dspDomeCfg_CH_WINDOW ∧
    ((dome2 [.unplaced]).runList 2).length < 512 ∧
    (((after (.runlistPlace 2) (st (dome2 [.unplaced]))).b.seg 8 0).map (fun g => g.st)) = some .waiting := by decide +kernel

theorem wit_Finders_take : (dome2 [.waiting]).finderFree 17 = true ∧
    bestSeg true ((dome2 [.waiting]).ownWork 17) = some (8, seg8 .waiting) := by decide +kernel

/-- Finder 25 of dome 3 has nothing of its own; the seventh dome of its pass is dome 2. -/
theorem wit_Finders_steal : (dome2 [.waiting, .waiting]).finderFree 25 = true ∧ ((dome2 [.waiting, .waiting]).finder 25).clocked = true ∧
    (dome2 [.waiting, .waiting]).activeOn 25 = [] ∧ (dome2 [.waiting, .waiting]).ownWork 25 = [] ∧
    ((dome2 [.waiting, .waiting]).visits 3)[6 % 31]? = some 2 ∧ ((dome2 [.waiting, .waiting]).visits 3).length = 31 ∧
    ((bestSeg false ((dome2 [.waiting, .waiting]).runList 2)).map (fun p => p.2.idx)) = some 1 ∧
    2 ≤ ((dome2 [.waiting, .waiting]).runList 2).length ∧ ((dome2 [.waiting]).runList 2).length < 2 ∧
    ((after (.stealProbe 25 2) (st (dome2 [.waiting]))).b.finder 25).probe = 7 := by decide +kernel

theorem wit_Finders_gate :
    let b := dome2 [] [(.pwrDomeClk 3, Fld.pwrDomeClk_GATE_IDLE, 6000)]
    (b.finder 25).clocked = true ∧ b.activeOn 25 = [] ∧ b.ownWork 25 = [] ∧
    60 * (b.finder 25).idleSince + b.get (.pwrDomeClk 3) Fld.pwrDomeClk_GATE_IDLE ≤ 60 * b.tick ∧
    ¬ 60 * (b.finder 25).idleSince + b.get (.pwrDomeClk 3) Fld.pwrDomeClk_GATE_IDLE ≤ 60 * 999 ∧
    ((after (.finderClockGate 25) (st b)).b.finder 25).clocked = false ∧
    runs (.finderClockGate 25) (st { b with tick := 999 }) (st { b with tick := 999 }) = true := by decide +kernel

def watched (tick : Nat) : Bridge := { dome2 [.taken 17] with tick := tick }

theorem wit_Watchdog : (watched 1000000).mode ≠ 11 ∧ ((watched 1000000).seg 8 0).map Seg.taken = some true ∧
    0 + (watched 1000000).ladder 9 ≤ (watched 1000000).tick ∧ (watched 999999).tick < 0 + (watched 999999).ladder 9 := by decide +kernel

theorem wit_Escalation :
    let b := { chan8 2 0 [(.fndChFaultInfo 8, Fld.fndChFaultInfo_CAUSE, Cause.watchdog.code), (.viCtrl 5, Fld.viCtrl_SELF_POLICY, 2),
      (.viCtrl 5, Fld.viCtrl_WEDGE_MS, 3)] with tick := 150000 }
    b.mode ≠ 11 ∧ b.chanOwner 8 = some 5 ∧ b.chState 8 = 2 ∧ b.get (.fndChFaultInfo 8) Fld.fndChFaultInfo_CAUSE = Cause.watchdog.code ∧
    (b.chan 8).held = none ∧ b.get (.viCtrl 5) Fld.viCtrl_SELF_POLICY = 2 ∧
    (b.chan 8).haltTick + 50000 * b.get (.viCtrl 5) Fld.viCtrl_WEDGE_MS ≤ b.tick ∧
    (after (.wedgeEscalation 8) (st b)).b.viState 5 = 2 := by decide +kernel

/-! Witnesses: the catalogue and instances. -/

/-- BAR2 of PF0 of Aperture 0: eight fields of 4 KiB from entry 0; a Meridian region of one field at entry 64. -/
def region2 : List (Reg × Fld × Nat) :=
  [(.catRegion 1, regKIND, 1), (.catRegion 1, regFC, 3), (.catRegion 1, regFS, 12), (.catRegion 1, regFIRST, 0),
   (.catRegion 32, regKIND, 5), (.catRegion 32, regFC, 0), (.catRegion 32, regFS, 16), (.catRegion 32, regFIRST, 64)]

/-- What dir0 has staged: a disabled director's image. -/
def stagedDir (l : List (Reg × Fld × Nat) := []) : Bridge :=
  board 5 (region2 ++ [(.catStage 0 0, entDIRECTOR, 1), (.catEntry 7 0, entGEN, 255)] ++ l)

theorem wit_Commits : (stagedDir).takes dir0 0x300120 = true ∧ (stagedDir).almHolds = false ∧ (stagedDir).calm = true ∧ dir0.bank = 0 ∧
    (stagedDir).commitCheck dir0 7 ((stagedDir).staged 0) = 0 ∧ (stagedDir).commitHolder 7 = none ∧ (stagedDir).mirrors = false ∧
    (stagedDir).commitCheck dir0 9 ((stagedDir).staged 0) = 1 ∧ (stagedDir).commitCheck (.dir 1) 7 ((stagedDir).staged 0) = 1 ∧
    (stagedDir [(.catStage 0 0, entWIDTH, 3)]).commitCheck dir0 7 ((stagedDir [(.catStage 0 0, entWIDTH, 3)]).staged 0) = 2 ∧
    (after (.catCommit dir0 7) (st (stagedDir))).b.ent 7 entGEN = 0 ∧
    (after (.catCommit dir0 9) (st (stagedDir))).b.get (.catCommitStatus 0) Fld.catCommitStatus_CODE = 1 := by decide +kernel

theorem wit_HeldRequests :
    let b := { board 5 with alm := { (board 5).alm with committing := true } }
    b.takes dir0 0x300120 = true ∧ b.takes dir0 0xA00100 = true ∧ b.almHolds = true ∧ b.calm = true ∧
    (after (.catCommit dir0 7) (st b)).b.alm.held.length = 1 ∧ (after (.create dir0 0 2) (st b)).b.alm.held.length = 1 := by
  decide +kernel

/-- What dir0 asks of a CREATE: 4 channels, 2 queues from 40, 4 ledger entries, 2 vectors; the pools of the Aperture. -/
def creates (m : Nat) (l : List (Reg × Fld × Nat) := []) : Bridge :=
  board m ([(.viCreateA 0, Fld.viCreateA_CHANNELS, 4), (.viCreateA 0, Fld.viCreateA_QUEUES, 2), (.viCreateA 0, Fld.viCreateA_FIRST_LQ, 40),
    (.viCreateA 0, Fld.viCreateA_LEDGER_QUOTA, 4), (.viCreateB 0, Fld.viCreateB_VECTORS, 2), (.viPool 0 0, Fld.viPool_SIZE, 8),
    (.viPool 0 1, Fld.viPool_SIZE, 16), (.viPool 0 2, Fld.viPool_SIZE, 64), (.viPool 0 3, Fld.viPool_SIZE, 16),
    (.viPool 0 4, Fld.viPool_SIZE, 16), (.viPool 0 5, Fld.viPool_SIZE, 16)] ++ l)

def numbers (b : Bridge) (vf : Nat) : (Nat × Nat × Nat) ⊕ Nat :=
  b.createNumbers 0 vf (b.raw (.viCreateA 0)) (b.raw (.viCreateB 0)) none

theorem wit_InstanceLife : (creates 5).takes dir0 0xA00100 = true ∧ (creates 5).almHolds = false ∧ dir0.mayAct 0 = true ∧
    (Writer.dir 2).mayAct 0 = false ∧ numbers (creates 5) 2 = .inl (0, 0, 0) ∧ numbers (creates 5) 1 = .inr 3 ∧
    numbers (creates 5) 5 = .inr 2 ∧ numbers (creates 5 [(.viPool 0 0, Fld.viPool_SIZE, 1)]) 2 = .inr 4 ∧
    numbers (creates 5 [(.viCreateA 0, Fld.viCreateA_CHANNELS, 13)]) 2 = .inr 5 ∧
    numbers (creates 5 [(.viCreateA 0, Fld.viCreateA_FIRST_LQ, 15)]) 2 = .inr 7 ∧
    (creates 5).mirrors = false ∧ (creates 6).mirrors = true ∧ (numbers (creates 6) 2).isLeft = true ∧
    (after (.create dir0 0 2) (st (creates 5))).b.viOf 0 2 = some 0 ∧ (after (.create dir0 0 2) (st (creates 6))).b.viOf 0 2 = none := by
  decide +kernel

def inst5 (trigger : Nat) (draining : List Nat) : Inst :=
  { v := 5, trigger := trigger, start := 900, abandoned := 0, draining := draining, flrs := [], banks := [], destroyBanks := [],
    destroyHeld := false, heldCommits := [] }

def resetting (trigger : Nat) (draining : List Nat) (tick : Nat := 1000) : Bridge :=
  let b := board 5 [(.viEntry 5, Fld.viEntry_STATE, 2)]
  { b with tick := tick, pbs := [⟨0, 1, .issued, job0, 1⟩], eng := { b.eng with insts := [inst5 trigger draining] } }

theorem wit_InstanceResets_starts : (board 5).inst? 5 = none ∧ (resetting 0 []).inst? 5 = some (inst5 0 []) ∧ (inst5 0 []).trigger ≠ 5 ∧
    ((board 5).startReset 5 5 none).viState 5 = 3 ∧ ((board 5).startReset 5 4 none).viState 5 = 2 ∧
    (((resetting 0 []).startReset 5 5 (some 1)).inst? 5).map (fun x => x.destroyBanks) = some [1] ∧
    ((resetting 5 []).startReset 5 5 (some 1)).inst? 5 = some { inst5 5 [] with banks := [1] } := by decide +kernel

theorem wit_InstanceResets_drain : (resetting 0 []).mode ≠ 11 ∧ (resetting 0 []).undrained (inst5 0 []) = [] ∧
    (resetting 0 [7]).undrained (inst5 0 [7]) ≠ [] ∧ 900 + (resetting 0 [7]).ladder 11 - 5000 ≤ (resetting 0 [7] 1995900).tick ∧
    (resetting 0 [7] 1995899).tick < 900 + (resetting 0 [7]).ladder 11 - 5000 ∧
    (((after (.drainDeadline 5) (st (resetting 0 [7] 1995900))).b.inst? 5).map (fun x => x.abandoned)) = some 1 ∧
    (((after (.drainDeadline 5) (st (resetting 0 [7] 1995899))).b.inst? 5).map (fun x => x.abandoned)) = some 0 := by decide +kernel

theorem wit_InstanceResets_ends : (inst5 0 []).trigger = 0 ∧ (inst5 0 []).flrs = [] ∧ (inst5 0 []).heldCommits = [] ∧
    (inst5 0 []).destroyHeld = false ∧ (resetting 0 []).tick - (inst5 0 []).start < 2 ^ 32 ∧
    ((resetting 0 []).finishReset (inst5 0 [])).viState 5 = 1 ∧
    ((resetting 0 []).finishReset (inst5 0 [])).get .viLastReset Fld.viLastReset_VI = 5 := by decide +kernel

def selfish (policy : Nat) : Bridge := board 5 [(.viCtrl 5, Fld.viCtrl_SELF_POLICY, policy)]

theorem wit_InstanceResets_self : (selfish 0).hostThere 0 = true ∧ (selfish 0).serving = true ∧ (selfish 0).viOf 0 1 = some 5 ∧
    (selfish 0).fnAnswers 0 1 = true ∧ (selfish 0).calm = true ∧ (selfish 0).get (.viCtrl 5) Fld.viCtrl_SELF_POLICY = 0 ∧
    (selfish 1).get (.viCtrl 5) Fld.viCtrl_SELF_POLICY ≠ 0 ∧
    (after (.selfResetRequest 0 1 0x5A#8 true) (st (selfish 1))).b.get (.blkReject .vi) Fld.blkReject_REASON = 11 ∧
    (after (.selfResetRequest 0 1 0xA5#8 true) (st (selfish 0))).b.get (.blkReject .vi) Fld.blkReject_REASON = 10 ∧
    (after (.selfResetRequest 0 1 0xA5#8 true) (st (selfish 1))).b.viState 5 = 2 := by decide +kernel

/-! Witnesses: barriers. -/

theorem wit_BarriersStart : (board 5).calm = true ∧ (board 5).hostThere 0 = true ∧ (board 5).serving = true ∧ (1 : Nat) ≠ 0 ∧
    (board 5).fnAnswers 0 1 = true ∧ (board 5).takes dir0 (0x600100 + 0x40 * 0) = true ∧ (board 5).mode ≠ 3 ∧
    (board 5).authorised dir0 (.ordBarrier 0) = true ∧ 0 < (board 5).part.apertures ∧ (board 5).writerThere dir0 = true ∧
    (after (.barrierPost (.vf 0 1) 0) (st (board 5))).b.barriers.length = 1 ∧
    (after (.barrierPost (.pf0 dir0 0) 2) (st (board 5))).b.pbs.length = 1 ∧
    (after (.barrierPost (.vf 0 1) 3) (st (board 5))).b.get (.blkReject .ord) Fld.blkReject_REASON = 11 := by decide +kernel

def bar0 : Barrier :=
  { id := 1, ap := 0, fn := 1, chan := none, scope := 0, form := 1, tag := 9, seq := 1, t0 := 0, answered := false, covers := [7],
    fault := none, job := none, sender := none, reader := some 0 }

def waitingBar (pbs : List PbEntry) (limit : Nat) : Bridge :=
  { board 5 [(.ordAptCfg 0, Fld.ordAptCfg_BAR_LIMIT, limit)] with barriers := [bar0], pbs := pbs }

theorem wit_BarriersEnd : (waitingBar [] 1000).mode ≠ 11 ∧ (waitingBar [] 1000).nextBarrier 0 1 = some bar0 ∧
    (waitingBar [⟨0, 1, .issued, job0, 1⟩] 1000).nextBarrier 0 1 = none ∧ bar0.job = none ∧
    bar0.t0 + (waitingBar [] 1000).get (.ordAptCfg 0) Fld.ordAptCfg_BAR_LIMIT ≤ (waitingBar [] 1000).tick ∧
    ¬ bar0.t0 + (waitingBar [] 1001).get (.ordAptCfg 0) Fld.ordAptCfg_BAR_LIMIT ≤ (waitingBar [] 1001).tick ∧
    (after (.barLimitExpire 0 1) (st (waitingBar [] 1000))).b.event .ord 1 = true ∧
    (after (.barLimitExpire 0 1) (st (waitingBar [] 1001))).b.event .ord 1 = false ∧
    (after (.barrierComplete 0 1) (st (waitingBar [] 1000))).b.barriers = [] := by decide +kernel
/-! Witnesses: host links. BAR0 of PF0 stands at address 0, BAR2 (eight fields of 4 KiB) at 2^30. -/

def wr0 : HostWrite := { ap := 0, addr := 2 ^ 30, data := [some 1#8, some 2#8] }
def rd0 : HostReadOp := { ap := 0, tag := 3, addr := 0, len := 8 }
def at0 : HostAtomic := { ap := 0, tag := 4, addr := 2 ^ 30, kind := .fetchAdd, size := 4, cmp := [], val := [1, 0, 0, 0] }

def bars (m : Nat) (l : List (Reg × Fld × Nat) := []) : Bridge := (board m (region2 ++ l)).cfgPut 0 0 (.bar 2) (2 ^ 30)

/-- The Aperture under a PF0 function-level reset. -/
def under0 : Bridge := { bars 5 with eng := { (bars 5).eng with insts := [inst5 2 []] } }

theorem wit_HostMemory : wr0.ap = 0 ∧ rd0.ap = 0 ∧ at0.ap = 0 ∧ (bars 5).hostThere 0 = true ∧ (bars 5).serving = true ∧
    (bars 3).mode = 3 ∧ (bars 3).hostThere 0 = true ∧ (bars 5).apResetting 0 = false ∧ (bars 5).barrierOf wr0 = none ∧
    under0.serving = true ∧ under0.apResetting 0 = true ∧ under0.calm = true ∧ under0.hostThere 0 = true ∧
    (bars 10).mode = 10 ∧ (bars 10).calm = true ∧ (bars 10).hostThere 0 = true ∧ (bars 11).hostThere 0 = true ∧ (bars 11).mode = 11 ∧
    (bars 11).hostMatch 0 (2 ^ 40) = none ∧ (after (.hostPostedWrite wr0) (st under0)).b.pbs = [] ∧
    (after (.hostRead rd0) (st under0)).b.out.head? = some (.hostCpl 0 3 .ur [] false) ∧
    (after (.hostRead rd0) (st (bars 10))).b.eng.held = [.hostRead rd0] := by decide +kernel

/-- BAR2 field 0 an enabled Meridian entry of port 0, whose agent advertised `native` and reservations as given. -/
def faced (native resv : Nat) (l : List (Reg × Fld × Nat) := []) : Bridge :=
  bars 5 ([(.catEntry 0 0, entEN, 1), (.merPortStat 0, Fld.merPortStat_READY, 1), (.merPortStat 0, Fld.merPortStat_NATIVE_ATOMIC, native),
    (.merPortStat 0, Fld.merPortStat_RESERVATIONS, resv)] ++ l)

def rd2 : HostReadOp := { rd0 with addr := 2 ^ 30, len := 8 }
def at2 (off : Bool) : Bridge := faced 1 1 (if off then [(.merPortCtrl 0, Fld.merPortCtrl_ATOMIC_OFF, 1)] else [])

/-- The checks before a read or an AtomicOp on field 0 of BAR2. -/
def starts (b : Bridge) : Bool :=
  match b.hostMatch 0 (2 ^ 30), b.lookupHost 0 0 2 0 8, b.lookupHost 0 0 2 0 4 with
  | some m, some x, some y => decide (m = (0, 2, 0)) && b.fnAnswers 0 0 && decide (x.get entEN = 1) && decide (y.get entEN = 1) &&
    decide (y.get entSPACE = 0) && b.merReady (y.get entPORT) &&
    (match b.routeOf 0 x with | .inl t => b.mayIssue t && t.widthOk (b.hostLimit t.port false) t.last.off (t.last.off + 8) | .inr _ => false)
  | _, _, _ => false

theorem wit_HostReadsStart : starts (faced 1 1) = true ∧ starts (faced 0 1) = true ∧ starts (faced 0 0) = true ∧ starts (at2 true) = true ∧
    at0.poisoned = false ∧ atomicSize at0.kind at0.size = true ∧ ((faced 1 1).hostRead rd2).hostReads.length = 1 ∧
    ((faced 1 1).hostAtomic at0).get (.ordAtomicStat 0) Fld.ordAtomicStat_NATIVE = 1 ∧
    ((faced 0 1).hostAtomic at0).get (.ordAtomicStat 0) Fld.ordAtomicStat_LOOPED = 1 ∧
    ((faced 0 0).hostAtomic at0).get (.ordAtomicStat 0) Fld.ordAtomicStat_ABORTED = 1 := by decide +kernel

def answered : List Emission → List Byte
  | .hostCpl _ _ .sc d _ :: _ => d
  | _ => []

/-- In Bare the loader function's host reads control space: two reads of 4 bytes give the two halves of ID_BOOT (R424, R11). -/
theorem test_host_read_halves :
    let b := bars 3 [(.idBoot, Fld.idBoot_READY_TICKS, 0x12345678), (.idBoot, Fld.idBoot_CAUSE, 2)]
    let rd := fun (a n : Nat) => answered (after (.hostRead { rd0 with addr := a, len := n }) (st b)).b.out
    let o := Reg.offset .idBoot
    (rd o 8).length = 8 ∧ rd o 8 = rd o 4 ++ rd (o + 4) 4 ∧ rd o 8 = wbytes (b.readReg [] .idBoot) := by decide +kernel

def entry0 : PbEntry := { ap := 0, fn := 1, kind := .waiting, job := job0, width := 0 }

theorem wit_PostingBuffer : ({ bars 5 with pbs := [entry0] } : Bridge).issues = true ∧
    ({ bars 5 with pbs := [entry0] } : Bridge).nextEntry 0 = some entry0 ∧ ({ bars 5 with pbs := [entry0] } : Bridge).entryFree entry0 = true ∧
    entry0.job.op = .write [some 0xAB#8, none] false ∧ entry0.job.space < 4 ∧
    ({ bars 5 with pbs := [{ entry0 with kind := .barrier }] } : Bridge).nextEntry 0 = some { entry0 with kind := .barrier } ∧
    ({ bars 5 with pbs := [{ entry0 with kind := .barrier }] } : Bridge).entryFree { entry0 with kind := .barrier } = false ∧
    (bars 5).nextEntry 0 = none ∧
    (((after (.postedEntryIssue 0) (st { bars 5 with pbs := [entry0] })).b.pbs.map (fun e => e.kind)) = [.issued]) := by decide +kernel

theorem wit_Configuration : 0 < (bars 5).part.apertures ∧ (bars 5).calm = true ∧ (bars 2).mode = 2 ∧ (bars 4).mode = 4 ∧ (bars 4).calm = true ∧
    (bars 5).mode = 5 ∧ (bars 5).apEnabled 0 = true ∧ (bars 5).eng.insts = [] ∧ (bars 5).fnThere 0 5 = false ∧ (bars 5).fnThere 0 4 = true ∧
    (after (.hostConfigRequest 0 9 5 (.read .vendorId)) (st (bars 5))).b.out.head? = some (.hostCpl 0 9 .ur [] false) ∧
    (after (.hostConfigRequest 0 9 0 (.read .numVfs)) (st (bars 5))).b.out.head? = some (.cfg 0 9 (some 4)) ∧
    (after (.hostConfigRequest 0 9 0 (.read .numVfs)) (st (bars 4))).b.out.head? = some (.requestRetry 0 9) := by decide +kernel

/-- A read of 16 bytes to the host, issued under ledger entry 3 at tick 500. -/
def held3 (quarantined : Bool) : LedgerEntry :=
  { idx := 3, ap := 0, quarantined := quarantined, until_ := 1000, finder := none,
    job := { job0 with op := .read 16, origin := .up 1, src := .transit, fn := 1 }, issued := 500, got := [], bad := false }

def cpl3 (n : Nat) : HostCpl :=
  { ap := 0, tag := 3, rid := 1, status := .sc, poisoned := false, data := (List.range n).map (BitVec.ofNat 8) }

def ledger3 (q : Bool) (tick : Nat := 1000) : Bridge := { bars 5 with tick := tick, ledger := [held3 q] }

theorem wit_Completions : (ledger3 false).mode = 5 ∧ (held3 false).asked = 16 ∧ (held3 false).asked ≤ ((held3 false).got ++ (cpl3 16).data).length ∧
    (cpl3 16).ecrcBad = false ∧ (cpl3 16).status = .sc ∧ (cpl3 16).poisoned = false ∧ (ledger3 false).ledgerTag 0 3 = 3 ∧
    (after (.hostCompletion (cpl3 16)) (st (ledger3 false))).b.ledger = [] ∧
    (after (.hostCompletion (cpl3 16)) (st (ledger3 true 999))).b.get (.aptLateLast 0) Fld.aptLateLast_TAG = 3 ∧
    (after (.hostCompletion (cpl3 16)) (st (ledger3 true))).b.get (.aptUnexpCpl 0) Fld.aptUnexpCpl_COUNT = 1 ∧
    (after (.hostCompletion (cpl3 16)) (st (ledger3 true))).b.ledger = [] ∧
    (after (.hostCompletion (cpl3 16)) (st (bars 5))).b.get (.aptUnexpCpl 0) Fld.aptUnexpCpl_COUNT = 1 ∧
    ((after (.hostCompletion (cpl3 15)) (st (ledger3 false))).b.ledger.map (fun e => e.got.length)) = [15] := by decide +kernel

theorem wit_LedgerTimers : (ledger3 true).calm = true ∧ (held3 true).until_ ≤ (ledger3 true).tick ∧ (ledger3 true 999).tick < (held3 true).until_ ∧
    (held3 false).issued + (ledger3 false).cplTimeout 0 ≤ (ledger3 false 100000000).tick ∧
    (ledger3 false).tick < (held3 false).issued + (ledger3 false).cplTimeout 0 ∧
    ((after (.completionTimeout 3) (st (ledger3 false 100000000))).b.ledger.map (fun e => e.quarantined)) = [true] ∧
    ((after (.completionTimeout 3) (st (ledger3 false))).b.ledger.map (fun e => e.quarantined)) = [false] ∧
    (after (.ledgerEntryFree 3) (st (ledger3 true))).b.ledger = [] ∧
    (after (.ledgerEntryFree 3) (st (ledger3 true 999))).b.ledger.length = 1 := by decide +kernel

/-- A late completion while a FLIT-mode link matches by tag alone (R84). -/
theorem wit_LateHostCompletions :
    let b := { ledger3 true 999 with regs := ((bars 5).set (.aptLinkEff 0) Fld.aptLinkEff_FLIT 1).regs }
    4 ≤ b.mode ∧ b.mode ≠ 11 ∧ b.ledger.find? (fun x => x.ap = 0 && b.ledgerTag x.ap x.idx = 3 &&
      (decide (b.get (.aptLinkEff 0) Fld.aptLinkEff_FLIT = 1) || decide (x.job.fn = b.ridFn 0 77))) = some (held3 true) ∧
    (held3 true).quarantined = true ∧ b.tick < (held3 true).until_ ∧ (b.hostCompletion { cpl3 16 with rid := 77 }).event (.apt 0) 0 = true := by decide +kernel

theorem wit_HostFunctionSettings : (bars 5).hostThere 0 = true ∧ (bars 5).fnThere 0 1 = true ∧ 3 ≤ (bars 5).mode ∧
    (bars 5).cfgGet 0 1 .busMaster = 1 ∧ (bars 5).cfgGet 0 2 .busMaster = 0 ∧ (bars 5).cfgGet 0 0 .memorySpace = 1 ∧ (bars 5).calm = true ∧
    (let b := ((bars 5).cfgPut 0 0 .memorySpace 0).cfgPut 0 0 (.barSize 2) (2 ^ 15)
     b.cfgGet 0 0 .memorySpace ≠ 1 ∧ b.regionOn (slotPf 0 2) = true ∧ (b.cfgGet 0 0 (.barSize 2)).testBit 15 = true ∧
     b.region (slotPf 0 2) regFC + 12 ≤ 15 ∧ 15 ≤ b.region (slotPf 0 2) regFC + 40 ∧
     (after (.barResize 0 false 15) (st b)).b.region (slotPf 0 2) regFS = 12) ∧
    ((bars 5).cfgPut 0 0 .vfEnable 0).cfgGet 0 0 .vfEnable = 0 ∧ (bars 5).cfgGet 0 0 .vfEnable ≠ 0 ∧ 4 ≤ (bars 5).totalVfs 0 ∧
    (bars 5).totalVfs 0 < 5 ∧ runs (.numvfsWrite 0 5) (st (bars 5)) (st (bars 5)) = true ∧
    ((after (.vectorUnmask 0 1 (.entry 3)) (st (bars 5))).b.msixEntry 0 1 3).masked = false := by decide +kernel

theorem wit_FunctionResets : (bars 5).hostThere 0 = true ∧ 3 ≤ (bars 5).mode ∧ (bars 5).mode ≠ 4 ∧ (bars 5).fnThere 0 1 = true ∧
    (bars 5).eng.insts = [] ∧ (bars 5).viOf 0 1 = some 5 ∧ (bars 5).mirrors = false ∧ (bars 5).viOf 0 3 = none ∧ (bars 5).fnThere 0 3 = true ∧
    5 ∈ (bars 5).visOf 0 ∧ ((board 5 [(.viEntry 5, Fld.viEntry_VALID, 0)]).visOf 0) = [] ∧
    ((after (.vfFlr 0 1) (st (bars 5))).b.inst? 5).map (fun x => x.trigger) = some 1 ∧
    (after (.vfFlr 0 3) (st (bars 5))).b.event (.apt 0) 3 = true ∧
    ((after (.apertureLinkEvent 0 .hotReset) (st (ledger3 false))).b.ledger.map (fun e => e.quarantined)) = [true] := by decide +kernel

def mapped (age : Nat) (valid : Bool) : Bridge :=
  (bars 5 [(.aptLinkEff 0, Fld.aptLinkEff_WIDTH, 4)]).putLane { (bars 5).lane 2 with mapValid := valid, scanTick := 1000 - age, maps := [List.replicate 4096 7#8] }

def l1 : HostLink := ⟨4, 8, 0, false, false, 9, false⟩

theorem wit_HostLinkReports : (bars 5).hostThere 0 = true ∧ 2 < (bars 5).part.hostLanes ∧ (bars 5).apTrained 0 = true ∧
    (bars 5).part.seeing = true ∧ (bars 5).refMissing 0 l1 = false ∧ (mapped 900 true).apTrained 0 = true ∧ (mapped 900 true).hostThere 0 = true ∧
    [mapped 900 true, mapped 900 false].all (fun b => (b.hostLanes 0 (b.get (.aptLinkEff 0) Fld.aptLinkEff_WIDTH)).contains 2) = true ∧
    ({ bars 5 with eng := { (bars 5).eng with absentRefs := [0] } } : Bridge).refMissing 0 l1 = false ∧
    ((bars 5 [(.aptLinkEff 0, Fld.aptLinkEff_STATE, 1)]).refMissing 0 { l1 with state := 3 }) = false ∧
    (bars 5 [(.aptMarginCfg 0, Fld.aptMarginCfg_SOURCE, 1)]).get (.aptMarginCfg 0) Fld.aptMarginCfg_SOURCE = 1 ∧
    (mapped 900 true).get (.aptMarginCfg 0) Fld.aptMarginCfg_SOURCE ≠ 1 ∧ ((mapped 900 true).lane 2).mapValid = true ∧
    ((mapped 900 true).tick - ((mapped 900 true).lane 2).scanTick) % 2 ^ 31 ≤ 50000 ∧ ((mapped 900 false).lane 2).mapValid = false ∧
    (bars 5).mode ≠ 9 ∧ (bars 5).calm = true ∧
    (after (.hostLinkStateChange 0 l1) (st (bars 5))).b.event (.apt 0) 4 = true ∧
    (after (.laneMarginingCommand 0 2 (.left 1) 77) (st (mapped 900 true))).b.out = [.margin 0 2 7] := by decide +kernel

/-! Witnesses: lanes and references. LNE 32 to 39 are Meridian port 0's lanes, 64 to 67 Ifevin's. -/

def mer0 (m : Nat) (l : List (Reg × Fld × Nat) := []) : Bridge :=
  bars m ([(.merPortGeom 0, Fld.merPortGeom_ENABLE, 1), (.merPortGeom 0, Fld.merPortGeom_WIDTH, 8), (.merPortGeom 0, Fld.merPortGeom_CREDIT_SPLIT, 4),
    (.ifvLinkStat 0, Fld.ifvLinkStat_STATE, 2), (.ifvLinkStat 0, Fld.ifvLinkStat_RATE, 2), (.ifvLinkStat 0, Fld.ifvLinkStat_LANES, 0xFF),
    (.merPortStat 0, Fld.merPortStat_READY, 1)] ++ l)

theorem wit_Lanes_signal : (mer0 5).laneThere 35 = true ∧ (mer0 5).get (.lneLaneStat 35) Fld.lneLaneStat_LOS = 0 ∧
    (after (.lossOfSignal 35) (st (mer0 5))).b.get (.lneLaneStat 35) Fld.lneLaneStat_LOS_COUNT = 1 ∧
    (after (.lossOfSignal 35) (after (.lossOfSignal 35) (st (mer0 5)))).b.get (.lneLaneStat 35) Fld.lneLaneStat_LOS_COUNT = 1 := by
  decide +kernel

/-- A lane with eight micro-retrains in the last millisecond: the ninth fails it under MR_LIMIT 8. -/
def often (n : Nat) : Bridge :=
  let b := { mer0 5 [(.lneHealthCfg, Fld.lneHealthCfg_MR_LIMIT, 8)] with tick := 60000 }
  b.putLane { b.lane 35 with mrTicks := List.replicate n 10001 }

theorem wit_Lanes_retrain : (often 7).laneLink 35 = some (0, 3) ∧ (often 7).linkState 0 = 2 ∧ ((often 7).lane 35).mrStart = none ∧
    (often 7).get (.lneLaneStat 35) Fld.lneLaneStat_FAILED = 0 ∧
    (((often 7).lane 35).mrTicks.filter (fun t => (often 7).tick < t + 50000)).length + 1 ≤ (often 7).get .lneHealthCfg Fld.lneHealthCfg_MR_LIMIT ∧
    ((often 7).microRetrain 35).linkState 0 = 3 ∧
    (often 8).get .lneHealthCfg Fld.lneHealthCfg_MR_LIMIT < (((often 8).lane 35).mrTicks.filter (fun t => (often 8).tick < t + 50000)).length + 1 ∧
    ((often 8).microRetrain 35).get (.lneLaneStat 35) Fld.lneLaneStat_FAILED = 1 ∧
    (after (.lossOfLock 35 true) (st (often 0))).b.get (.lneLaneStat 35) Fld.lneLaneStat_EB_ERR = 1 ∧
    ((board 5).loseLock 3 true).eng = (board 5).eng := by decide +kernel

def losing (i t : Nat) : Bridge := (mer0 5 [(.lneHealthCfg, Fld.lneHealthCfg_LOS_TICKS, 500)]).putLane { (mer0 5).lane i with losSince := some t }
def locking (i t : Nat) : Bridge := (mer0 5).putLane { (mer0 5).lane i with mrStart := some t }

theorem wit_Lanes_timers : ((losing 35 500).lane 35).losSince = some 500 ∧
    500 + (losing 35 500).get .lneHealthCfg Fld.lneHealthCfg_LOS_TICKS ≤ (losing 35 500).tick ∧
    (losing 35 501).tick < 501 + (losing 35 501).get .lneHealthCfg Fld.lneHealthCfg_LOS_TICKS ∧ ((losing 3 500).lane 3).losSince = some 500 ∧
    ((locking 35 800).lane 35).mrStart = some 800 ∧ 800 + 200 ≤ (locking 35 800).tick ∧ (locking 35 801).tick < 801 + 200 ∧
    (locking 35 800).laneLink 35 = some (0, 3) ∧ ((locking 3 800).lane 3).mrStart = some 800 ∧ (locking 3 800).laneLink 3 = none ∧
    (after (.losHeldExpire 35) (st (losing 35 500))).b.get (.lneLaneStat 35) Fld.lneLaneStat_FAILED = 1 ∧
    (after (.losHeldExpire 35) (st (losing 35 501))).b.get (.lneLaneStat 35) Fld.lneLaneStat_FAILED = 0 ∧
    (after (.losHeldExpire 3) (st (losing 3 500))).b.get (.lneLaneStat 3) Fld.lneLaneStat_FAILED = 0 ∧
    (after (.microRetrainTimeout 35) (st (locking 35 800))).b.get (.lneLaneStat 35) Fld.lneLaneStat_FAILED = 1 ∧
    ((after (.microRetrainDone 35) (st (locking 35 801))).b.lane 35).mrStart = none := by decide +kernel

/-- HL_REFCLK at 10 % off is still present, one count further it is not (R328). -/
theorem wit_References : (∃ m, m < 8 ∧ (board 5).part.laneFused (8 * 0 + m) = false) ∧ 2 ≤ (board 5).mode ∧
    ((board 5).refWindow 0 90000).get (.lneRefStat 0) Fld.lneRefStat_PRESENT = 1 ∧
    ((board 5).refWindow 0 89999).get (.lneRefStat 0) Fld.lneRefStat_PRESENT = 0 ∧ ((board 5).refWindow 0 89999).event .lne 5 = true ∧
    ((board 5).refWindow 0 110001).get (.lneRefStat 0) Fld.lneRefStat_PRESENT = 0 := by
  refine ⟨⟨0, by decide +kernel, by decide +kernel⟩, ?_⟩
  decide +kernel

/-- An eye map whose middle cells all err is closed: under any floor. -/
def seeing (hold : Option Nat) : Bridge :=
  let b := mer0 5 [(.lneSeeCfg 35, Fld.lneSeeCfg_EN, 1), (.lneSeeCfg 35, Fld.lneSeeCfg_HEIGHT_FLOOR, 8), (.lneLaneStat 35, Fld.lneLaneStat_RATE, 1)]
  b.putLane { b.lane 35 with holdUntil := hold, heldMap := hold.map (fun _ => ([[1#8]], 2, 3)) }

theorem wit_Scans : (seeing none).laneThere 35 = true ∧ (seeing none).part.seeing = true ∧ (seeing none).get (.lneSeeCfg 35) Fld.lneSeeCfg_EN = 1 ∧
    ((seeing none).lane 35).mrStart = none ∧ ([List.replicate 4200 9#8] : List (List Byte)).length = (seeing none).laneEyes 35 ∧
    ((seeing none).lane 35).holdUntil = none ∧ ((seeing (some 900)).lane 35).holdUntil ≠ none ∧
    ([List.replicate 4200 9#8] : List (List Byte)).any (fun m => eyeHeight m 0 < 8) = true ∧
    ((seeing (some 1000)).lane 35).holdUntil = some 1000 ∧ 1000 ≤ (seeing (some 1000)).tick ∧
    ((seeing (some 1000)).lane 35).heldMap = some ([[1#8]], 2, 3) ∧
    ((after (.eyeHoldExpire 35) (st (seeing (some 1000)))).b.lane 35).maps = [[1#8]] ∧
    ((seeing none).scanDone 35 [List.replicate 4200 9#8] 6).event .lne 4 = true := by decide +kernel

/-! Witnesses: control space. -/

/-- The write is taken whole, and the record of its block then shows the offset, the reason, the writer and the half. -/
def rejects (b : Bridge) (w : Writer) (off : Nat) (be : BitVec 8) (v : Word) : Nat × Nat × Nat × Nat :=
  let k := b.rejectBlk (off / 8 * 8)
  let t := (after (.registerWrite w off be v) (st b)).b
  (t.get (.blkReject k) Fld.blkReject_OFFSET, t.get (.blkReject k) Fld.blkReject_REASON, t.get (.blkReject k) Fld.blkReject_WRITER,
    t.get (.blkReject k) Fld.blkReject_HALF)

theorem wit_Rejected : (board 5).takes dir0 0x600010 = true ∧ (board 5).calm = true ∧ (board 5).alm.held = [] ∧
    (board 5).eng.held = [] ∧ Reg.ofOffset 0 0x1FFFF8 = none ∧ rejects (board 5) dir0 0x1FFFF8 0xFF#8 0 = (0x1FFFF8, 4, 1, 0) ∧
    rejects (board 5) dir0 0x600010 0x03#8 0 = (0x600010, 3, 1, 0) ∧ rejects (board 5) dir0 0x600010 0x00#8 0 = (0x600010, 3, 1, 0) ∧
    (board 5).eng.pair.queued = [] ∧ rejects (board 5) (.dir 2) 0x600010 0xF0#8 0 = (0, 0, 0, 0) ∧
    rejects (board 5) .svc (Reg.offset .idBoot) 0xF0#8 (BitVec.allOnes 64) = (Reg.offset .idBoot, 6, 0, 1) := by decide +kernel

/-- One bridge for each reason of R456 that the order of the checks gives. -/
theorem wit_RejectOrder : (board 5).mode ≠ 3 ∧ (board 5).mode ≠ 11 ∧ (board 5).authorised (.dir 2) .trnRanks = false ∧
    (board 5).rejectReason (.dir 2) .trnRanks 0 true true = 5 ∧ (board 5).authorised dir0 .idBoot = true ∧
    (board 5).rejectReason dir0 .idBoot (BitVec.allOnes 64) true true = 6 ∧
    ({ board 5 with part := .qb7408 } : Bridge).rejectReason dir0 (.dspDomeCfg 31) 0 true true = 7 ∧
    (board 5).rejectReason dir0 .fltEcc ((board 5).readReg [] .fltEcc) true true = 0 ∧
    (board 5).rejectReason dir0 (.dspGuideCfg 2) (wmk [(Fld.dspGuideCfg_LEAD, 3)]) true true = 8 := by decide +kernel

/-! The worked example of R466's section: ORD_APT_CFG[2] by halves. -/

def apt2 (expert : Nat) : Bridge :=
  let b := board 5 [(.ordAptCfg 2, Fld.ordAptCfg_FWD_EN, 1), (.ordAptCfg 2, Fld.ordAptCfg_BAR_LIMIT, 450000),
    (.blkCtrl .ord, Fld.blkCtrl_EXPERT_EN, expert)]
  [CfgField.cplTimeout].foldl (fun (b : Bridge) f => b.cfgPut 2 0 f 0) b

theorem test_halves_value : (apt2 0).raw (.ordAptCfg 2) = 0x06DDD001#64 ∧ Reg.offset (.ordAptCfg 2) = 0x600310 := by decide +kernel
theorem test_halves_1 : rejects (apt2 0) dir0 0x600310 0x0F#8 0x0493E001#64 = (0x600310, 8, 1, 0) := by decide +kernel
theorem test_halves_2 : (after (.registerWrite dir0 0x600010 0xFF#8 1#64) (st (apt2 0))).b.get (.blkCtrl .ord) Fld.blkCtrl_EXPERT_EN = 1 ∧
    (after (.registerWrite dir0 0x600010 0xFF#8 1#64) (st (apt2 0))).b.kept.log.length = 1 := by decide +kernel
theorem test_halves_3 : rejects (apt2 1) dir0 0x600310 0xF0#8 (1#64 <<< 32) = (0x600310, 11, 1, 1) := by decide +kernel
theorem test_halves_4 :
    let t := (after (.registerWrite dir0 0x600310 0x0F#8 0x0493E001#64) (st (apt2 1))).b
    t.get (.ordAptCfg 2) Fld.ordAptCfg_BAR_LIMIT = 300000 ∧ t.readReg [] (.blkStatus .ord) = 0x101#64 := by decide +kernel

theorem wit_Accepted : (board 5).takes .svc 0xD00110 = true ∧ 0xD00110 % 8 = 0 ∧ Reg.ofOffset 4 0xD00110 = some .trnRanks ∧
    (board 5).almHolds = false ∧ ((board 5).svcMark .svc false).rejectReason .svc .trnRanks 0o7654321#64 true false = 0 ∧ (0x0F#8).toNat % 16 = 15 ∧
    (0o7654321#64).toNat < 2 ^ 32 ∧ (board 5).mirrors = false ∧
    (after (.svcWrite32 0xD00110 0o7654321#32 true) (st (board 5))).b.rank 0 = 1 ∧
    (after (.svcWrite64 0xD00110 0 false) (st (board 5))).b.eng.svcErr = true := by decide +kernel

/-- A kept field that changes adds a delta record; one that does not, none (R49). -/
theorem wit_Accepted_kept :
    (Reg.blkCtrl .ord).keptChange ((board 5).raw (.blkCtrl .ord)) ((Reg.blkCtrl .ord).stored ((board 5).raw (.blkCtrl .ord)) 1 true true) = true ∧
    (Reg.blkCtrl .ord).keptChange ((board 5).raw (.blkCtrl .ord)) ((Reg.blkCtrl .ord).stored ((board 5).raw (.blkCtrl .ord)) 0 true true) = false := by
  decide +kernel

theorem wit_Reads : 2 ≤ (board 5).mode ∧ (board 5).mode ≠ 9 ∧ (board 5).mode ≠ 10 ∧ (board 5).writerThere dir0 = true ∧
    (∀ a, a < 4 → barrierReg false a 0x600310 = none) ∧ (true = decide (0x600310 % 8 < 4)) ∧ (false = decide (4 ≤ 0x600310 % 8)) ∧
    Reg.ofOffset 0 (0x600310 / 8 * 8) = some (.ordAptCfg 2) ∧
    (after (.svcRead32 0x600310) (st (apt2 0))).b.out.head? = some (.regData 0x06DDD001#64) ∧
    (after .svcStatus (st (board 10))).b.out.head? = some (.svcData [0x00#8]) := by decide +kernel

/-- The RC fields of the half that is read are 0 afterwards, those of the other half stay (R11). -/
theorem wit_Reads_rc :
    let b := board 5 [(.dspGuideStat 0, ⟨0, 16⟩, 7), (.dspGuideStat 0, ⟨32, 16⟩, 9)]
    let t := b.readRow [] dir0 (Reg.dspGuideStat 0).offset true false
    (Reg.dspGuideStat 0).fused b.part = false ∧ b.mode ≠ 3 ∧ ⟨32, 16, .rc, false, false⟩ ∈ (Reg.dspGuideStat 0).fields ∧
    t.get (.dspGuideStat 0) ⟨0, 16⟩ = 0 ∧ t.get (.dspGuideStat 0) ⟨32, 16⟩ = 9 ∧
    t.out = [.regData 7#64] := by decide +kernel

def shelf (o : Nat) : State := { st (board 5 [(.almShelfAddr, Fld.almShelfAddr_OFFSET, o), (.arcStat, Fld.arcStat_READY, 1)]) with mem := shelfMem }

theorem wit_ShelfPort : (shelf 0).b.takes dir0 0x100168 = true ∧ (shelf 0x7FFFF8).b.takes .svc 0x100168 = true ∧
    ((shelf 0).b.svcMark dir0 false).rejectReason dir0 .almShelfData 5#64 true true = 0 ∧
    ((shelf 0).b.svcMark .svc false).rejectReason .svc .almShelfData 5#64 true true = 0 ∧
    (after (.shelfDataWrite dir0 0#64) (shelf 0x7FFFF8)).b.get .almShelfAddr Fld.almShelfAddr_OFFSET = 0 ∧
    ((after (.shelfDataRead dir0) (shelf 16)).b.archReqs.map (fun r => (r.rank, r.job.map (fun j => (j.addr, j.space))))) = [(3, some (16, 2))] := by
  decide +kernel

/-- The archive serves the accesses: byte 0 of the value goes to OFFSET, and a read answers the bytes there. -/
theorem test_shelf_served :
    memGet (after (.archiveRequestServed .served) (after (.shelfDataWrite dir0 0x1122334455667788#64) (shelf 0x7FFFF8))).mem 0x7FFFF8 = 0x88#8 ∧
    (after (.archiveRequestServed .served) (after (.shelfDataRead dir0) (shelf 0))).b.out.contains (.regData 0x000000014D4C4151#64) = true := by
  decide +kernel
/-! Witnesses: the dispatcher and the shutters. -/

/-- A finder's write and a director's read to the host of Aperture 0. -/
def jobW : Job :=
  { job0 with id := 8, origin := .up 1, src := .transit, owner := some 5, space := 4, fn := 1, idx := 32, op := .write [some 1#8] false }
def jobR : Job := { job0 with id := 9, origin := .up 2, src := .transit, director := true, space := 4, fn := 0, op := .read 16 }

/-- The slot at the pointer of the to-host schedule is `w`. -/
def slotted (w : Nat) (l : List Job) (fld : List (Reg × Fld × Nat) := []) : Bridge :=
  { bars 5 ([(.dspSchedActive 0 0, ⟨0, 16⟩, w), (.dspSchedActive 1 0, ⟨0, 16⟩, w), (.dspViShare 5, Fld.dspViShare_WEIGHT, 1),
      (.dspAptCfg 0, Fld.dspAptCfg_DIR_WEIGHT, 1), (.aptLedgerCfg 0, ⟨0, 15⟩, 64)] ++ fld) with reqs := l, nextId := 20 }

theorem wit_Dispatch : (slotted 0 []).issues = true ∧ (slotted 0 []).apTrained 0 = true ∧ (slotted 0 [jobW]).canIssue 0 1 = true ∧
    (slotted 0 []).eligibles 0 0 = [] ∧ (slotted 0x4005 [jobW]).slotWord 0 ((slotted 0x4005 [jobW]).sched 0).pointer / 2 ^ 14 = 1 ∧
    (slotted 0x4005 [jobW]).eligibles 0 0 = [jobW] ∧ jobW.cls_ = 0x4005 % 2048 + 1 ∧
    (slotted 0x8000 [jobR]).slotWord 1 ((slotted 0x8000 [jobR]).sched 1).pointer / 2 ^ 14 = 2 ∧
    (slotted 0x8000 [jobR]).eligibles 0 1 = [jobR] ∧ jobR.cls_ = 0 ∧ ((slotted 0 [jobW]).serveSlot 0 0 [jobW]).isSome = true ∧
    ((after (.dispatch 0 .fromHost) (st (slotted 0x8000 [jobR]))).b.ledger.map (fun e => e.job.id)) = [9] ∧
    ((after (.dispatch 0 .toHost) (st (slotted 0 [jobW]))).b.proving.map (fun j => j.id)) = [8] ∧
    jobW.origin.isMessage = false ∧ (Origin.message 3).isMessage = true := by decide +kernel

theorem wit_Swap : (slotted 0 []).takes dir0 (0x900400 + 8 * 0) = true ∧ (0 : Nat) < (slotted 0 []).part.apertures ∧ (slotted 0 []).calm = true ∧
    (slotted 0 []).authorised dir0 (.dspSchedCmd 0) = true ∧ (slotted 0 []).authorised (.dir 1) (.dspSchedCmd 0) = false ∧
    (after (.swapFrom dir0 0) (st (slotted 0 []))).b.get (.dspSchedCmd 0) Fld.dspSchedCmd_PEND_FROM = 1 := by decide +kernel

/-- The end of a revolution: the shadow's first word becomes active; without a swap pending nothing does. -/
theorem wit_Advance :
    let b := slotted 7 [] [(.dspSchedCmd 0, Fld.dspSchedCmd_PEND_TO, 1), (.dspSchedShadow 0 0, ⟨0, 16⟩, 0x4005)]
    b.get (.dspSchedCmd 0) Fld.dspSchedCmd_PEND_TO = 1 ∧ (slotted 7 []).get (.dspSchedCmd 0) Fld.dspSchedCmd_PEND_TO ≠ 1 ∧
    ((slotted 7 []).advance 0 { (slotted 7 []).sched 0 with pointer := 1022 }).get (.dspSchedCmd 0) Fld.dspSchedCmd_REV_TO = 0 ∧
    (((slotted 7 []).advance 0 { (slotted 7 []).sched 0 with pointer := 1022 }).sched 0).pointer = 1023 ∧
    ((slotted 7 []).advance 0 { (slotted 7 []).sched 0 with pointer := 1023 }).slotWord 0 0 = 7 := by decide +kernel

theorem wit_ShareWrites : (slotted 0 []).almHolds = false ∧ (slotted 0 []).mirrors = false ∧ (slotted 0 []).calm = true ∧
    (slotted 0 []).takes dir0 (0x90C000 + 8 * 5) = true ∧ (slotted 0 []).takes dir0 (0x910000 + 16 * 5 + 8 * dirNum .toHost) = true ∧
    ((slotted 0 []).svcMark dir0 false).rejectReason dir0 (.dspViShare 5) (wmk [(Fld.dspViShare_WEIGHT, 4), (Fld.dspViShare_PRIO_CEIL, 3)]) true true = 0 ∧
    ((slotted 0 []).svcMark dir0 false).rejectReason dir0 (.dspViBucket 5 0) (wmk [(Fld.dspViBucket_RATE, 60000), (Fld.dspViBucket_DEPTH_KIB, 64)])
      true true = 0 ∧
    (after (.shareWrite dir0 5 .share (wmk [(Fld.dspViShare_WEIGHT, 4)])) (st (slotted 0 []))).b.weight 0 0 6 = 1 := by decide +kernel

/-- Dome 3 under the guide: doorbells every 2,000 ticks, the last at tick 0 (R203). -/
def guided (tick : Nat) (state : Nat := 0) : Bridge :=
  let b := board 5 [(.pwrDomPol 3, Fld.pwrDomPol_POLICY, 1), (.dspGuideCfg 3, Fld.dspGuideCfg_WINDOW_LOG2, 2),
    (.dspGuideCfg 3, Fld.dspGuideCfg_THRESHOLD, 10), (.dspGuideCfg 3, Fld.dspGuideCfg_LEAD, 25)]
  { b with tick := tick, eng := { b.eng with guides := [(3, ⟨2000, 4, some 0, some (2000, 25), true, false⟩)], doms := [⟨3, state, 0⟩] } }

theorem wit_Guide : (guided 1900).issues = true ∧ (guided 1900).predicting 3 = true ∧ (guided 1900).domState 3 = 0 ∧ (guided 1900).guideOn 3 = true ∧
    2000 ≤ (guided 1900).tick + 75 + (guided 1900).get (.dspGuideCfg 3) Fld.dspGuideCfg_LEAD ∧
    (after (.guideOpen 3) (st (guided 1900))).b.domState 3 = 1 ∧ runs (.guideOpen 3) (st (guided 1899)) (st (guided 1899)) = true := by
  decide +kernel

def domain (n policy state tick : Nat) : Bridge :=
  let b := board 5 [(.pwrDomPol n, Fld.pwrDomPol_POLICY, policy), (.pwrDomPol n, Fld.pwrDomPol_CLOSE_DELAY, 4)]
  { b with tick := tick, eng := { b.eng with doms := [⟨n, state, 800⟩] } }

theorem wit_Shutters : (domain 95 0 0 999).domState 95 = 0 ∧ (domain 95 0 0 999).get (.pwrDomPol 95) Fld.pwrDomPol_POLICY ≠ 3 ∧
    2 ≤ (domain 95 0 2 999).domState 95 ∧ (domain 3 3 0 999).get (.pwrDomPol 3) Fld.pwrDomPol_POLICY = 3 ∧ (domain 95 0 1 999).domState 95 = 1 ∧
    (domain 95 0 2 1000).closeDue 95 = true ∧ (domain 95 0 2 999).closeDue 95 = false ∧ 95 ∉ (domain 95 0 2 1000).busyDomains ∧
    (domain 95 0 2 1000).guideHolds 95 = false ∧ (domain 95 0 2 1000).part.domFused 95 = false ∧
    (after (.shutterOpenRequest 95) (st (domain 95 0 0 999))).b.domState 95 = 1 ∧
    runs (.shutterOpenRequest 3) (st (domain 3 3 0 999)) (st (domain 3 3 0 999)) = true := by decide +kernel

theorem wit_Shutters_early : 3 < 32 ∧ (guided 1900 2).get (.pwrDomPol 3) Fld.pwrDomPol_POLICY = 1 ∧ ((guided 1900 2).guide 3).openedByGuide = true ∧
    ((guided 1900 2).guide 3).hit = false ∧ ((guided 1900 2).closeDom 3).get (.dspGuideStat 3) Fld.dspGuideStat_EARLY = 1 := by decide +kernel

/-! Witnesses: logbooks. LQ 16 and 17 are instance 5's; CAP_LOG2 8 gives 256 slots, of which 128 without spill pages. -/

def appendOf (idx off : Nat) : PortSel := ⟨.vf 0 1, idx, off⟩
def eight : List Byte := (List.range 8).map (BitVec.ofNat 8)

def logged (x : Queue) (l : List (Reg × Fld × Nat) := []) : Bridge :=
  (board 5 ([(.logQGeom 16, Fld.logQGeom_CAP_LOG2, 8)] ++ l)).putQueue 16 x

def packet60 (first read : Nat) : Pkt := ⟨(List.range 60).map (fun k => BitVec.ofNat 64 (100 * first + k)), read, false⟩

/-- A queue whose tail window is full while its spill waits for the archive. -/
def held16 : Bridge := logged { Queue.empty with packets := [packet60 1 0, packet60 2 0, packet60 3 0], writePos := 183, pages := 1, head := 64, tail := 64, busy := true, moving := 32 }

theorem wit_Ports_held : held16.portServes (appendOf 0 0) = true ∧ held16.domsOpen (queueDoms 16) = true ∧ (held16.queue 16).tailHeld = true ∧
    ((after (.append (appendOf 0 0) eight) (st held16)).b.queue 16).blocked.length = 1 ∧
    (logged Queue.empty).domsOpen (queueDoms 16) = true ∧ (logged Queue.empty).queue 16 = Queue.empty ∧
    Queue.empty.tailHeld = false ∧ Queue.empty.blocked = [] := by decide +kernel

theorem wit_Ports : (logged Queue.empty).portServes (appendOf 0 0) = true ∧ (logged Queue.empty).portQueue (appendOf 0 0) = some 16 ∧
    (logged Queue.empty).portQueue (appendOf 2 0) = none ∧ (logged Queue.empty).calm = true ∧
    (after (.append (appendOf 2 0) eight) (st (logged Queue.empty))).b.get (.blkReject .log) Fld.blkReject_REASON = 4 ∧
    ((after (.append (appendOf 0 0) eight) (st (logged Queue.empty))).b.queue 16).opn = some ⟨[0x0706050403020100#64], false, false, 0⟩ ∧
    ((after (.packet (appendOf 0 0) eight) (st (logged Queue.empty))).b.queue 16).packets = [⟨[0x0706050403020100#64], 0, false⟩] ∧
    (after (.logPortClose (appendOf 0 0)) (st (logged Queue.empty))).b.get (.logQStat 16) Fld.logQStat_REFUSED = 1 := by decide +kernel

theorem wit_Refusals : (4 % 8 ≠ 0 ∨ 8 % 8 ≠ 0) ∧
    (logged Queue.empty [(.logFaultLq 0, Fld.logFaultLq_EN, 1), (.logFaultLq 0, Fld.logFaultLq_QUEUE, 16)]).isFaultLq 16 = true ∧
    (portSelWho (appendOf 0 0)).bridge = false ∧
    ((logged { Queue.empty with opn := some ⟨[1#64], false, false, 0⟩ }).queue 16).opn.isSome = true ∧
    ((logged Queue.empty).queue 16).opn = none ∧ 0x100 < 0xF8 + 16 ∧
    ((logged Queue.empty).portWrite 16 0xF8 (List.replicate 16 none) (portSelWho (appendOf 0 0))).2 = false ∧
    ((logged Queue.empty).portWrite 16 0x190 ((List.replicate 8 none)) (portSelWho (appendOf 0 0))).2 = false := by decide +kernel

def opened (o : OpenPkt) : Bridge := logged { Queue.empty with opn := some o }

theorem wit_Framing : ((logged Queue.empty).queue 16).used + 2 ≤ (logged Queue.empty).slotLimit 16 ∧
    ((opened ⟨[], true, false, 0⟩).queue 16).opn = some ⟨[], true, false, 0⟩ ∧
    ((opened ⟨[], false, true, 3⟩).queue 16).opn = some ⟨[], false, true, 3⟩ ∧
    ((opened ⟨[1#64], false, false, 0⟩).queue 16).used + 1 ≤ (opened ⟨[1#64], false, false, 0⟩).slotLimit 16 ∧
    (List.replicate 65535 0#64).length = 65535 ∧ ((logged Queue.empty).queue 16).stalled = [] ∧
    ((opened ⟨[], false, true, 3⟩).appendWord 16 5#64 |>.queue 16).opn = some ⟨[], false, true, 4⟩ ∧
    ((opened ⟨[], true, false, 0⟩).appendWord 16 5#64).get (.logQLost 16) Fld.logQLost_WORDS = 1 ∧
    ((((opened ⟨[1#64], false, false, 0⟩).closePacket 16).map (fun t => (t.queue 16).packets)) = some [⟨[1#64], 0, false⟩]) := by
  refine ⟨by decide +kernel, by decide +kernel, by decide +kernel, by decide +kernel, List.length_replicate, ?_⟩
  decide +kernel

/-! The worked example of an overwritten mark (R248, R252): P1 read whole and 20 words of P2, the mark at P1's start. -/

def marked (loose : Bool) : Bridge :=
  logged { Queue.empty with
    packets := [packet60 1 60, packet60 2 (if loose then 0 else 20), packet60 3 0, packet60 4 0], mark := some 0 }

/-- P1 is overwritten: nothing is counted, the mark is lost; REWIND then returns MARK_LOST at P2's start. -/
theorem test_overwritten_mark :
    let t := (marked false).losePacket 16 0
    (t.queue 16).mark = none ∧ (t.queue 16).markLost = true ∧ t.get (.logQLost 16) Fld.logQLost_PACKETS = 0 ∧
    wget ((t.consumerCmd 16 4).queue 16).cmdStatus Fld.logPortCmdStatus_CODE = 3 ∧
    (((t.consumerCmd 16 4).queue 16).packets.map (fun p => p.read)) = [0, 0, 0] := by decide +kernel

/-- P2 is overwritten after the rewind: its 60 words are unread and count. -/
theorem test_overwritten_unread :
    let b := logged { Queue.empty with packets := [packet60 2 0, packet60 3 0] }
    let t := b.losePacket 16 0
    (packet60 2 0).unread ≠ 0 ∧ t.get (.logQLost 16) Fld.logQLost_PACKETS = 1 ∧ t.get (.logQLost 16) Fld.logQLost_WORDS = 60 ∧
    t.event .log 1 = true := by decide +kernel

theorem wit_ConsumerCommands : ((marked false).queue 16).front = some (1, packet60 2 20) ∧ (packet60 2 20).read ≠ 0 ∧
    ((marked true).queue 16).front = some (1, packet60 2 0) ∧ (packet60 2 0).read = 0 ∧ ((marked false).queue 16).mark = some 0 ∧
    (((marked false).losePacket 16 0).queue 16).mark = none ∧ ((logged Queue.empty).queue 16).markLost = false ∧
    wget (((logged Queue.empty).consumerCmd 16 4).queue 16).cmdStatus Fld.logPortCmdStatus_CODE = 2 ∧
    wget (((logged Queue.empty).consumerCmd 16 1).queue 16).cmdStatus Fld.logPortCmdStatus_CODE = 1 ∧
    (((after (.dropRest (appendOf 0 0)) (st (marked false))).b.queue 16).unreadWords) = 120 := by decide +kernel

def waiter : Stalled := { src := .vf 0 1, tag := 6, job := none, pairs := 1, t0 := 900 }

def consuming (x : Queue) (stall unread : Nat) : Bridge :=
  logged x [(.logQGeom 16, Fld.logQGeom_STALL, stall), (.logQGeom 16, Fld.logQGeom_UNREAD, unread)]

theorem wit_Consume : ((marked true).queue 16).ready = true ∧ ((marked true).queue 16).stalled = [] ∧
    (consuming Queue.empty 0 0).get (.logQGeom 16) Fld.logQGeom_STALL = 0 ∧ ((consuming Queue.empty 100 0).queue 16).ready = false ∧
    (consuming Queue.empty 100 0).get (.logQGeom 16) Fld.logQGeom_STALL ≠ 0 ∧
    (0 % 8 = 0 ∧ 16 % 16 = 0 ∧ 0 < 16 ∧ 0 + 16 ≤ 0x100) ∧ ¬ (0 % 8 = 0 ∧ 8 % 16 = 0) ∧
    (match (after (.consume (appendOf 0 0) 16 9) (st (marked true))).b.out.head? with
     | some (.hostCpl 0 9 .sc d _) => decide (d.length = 16 ∧ d.take 1 = [200#8]) | _ => false) = true ∧
    (((after (.consume (appendOf 0 0) 16 9) (st (consuming Queue.empty 100 0))).b.queue 16).stalled.length) = 1 ∧
    (after (.consume (appendOf 0 0) 8 9) (st (marked true))).b.get (.logQStat 16) Fld.logQStat_REFUSED = 1 := by decide +kernel

theorem wit_Timers : (board 5).mode ≠ 9 ∧
    (let b := consuming { Queue.empty with stalled := [waiter] } 100 0
     (b.queue 16).stalled = [waiter] ∧ waiter.t0 + b.get (.logQGeom 16) Fld.logQGeom_STALL ≤ b.tick ∧
     ((after (.consumeStallExpire 16) (st b)).b.queue 16).stalled = []) ∧
    (let b := consuming { Queue.empty with stalled := [waiter] } 101 0
     b.tick < waiter.t0 + b.get (.logQGeom 16) Fld.logQGeom_STALL) ∧
    (let b := consuming { Queue.empty with packets := [packet60 1 0], windowOpen := true, windowStart := 700 } 0 300
     b.get (.logQGeom 16) Fld.logQGeom_UNREAD ≠ 0 ∧ (b.queue 16).windowOpen = true ∧ (b.queue 16).fired = false ∧
     (b.queue 16).windowStart + b.get (.logQGeom 16) Fld.logQGeom_UNREAD ≤ b.tick ∧ (after (.unreadTimeout 16) (st b)).b.event .log 0 = true) ∧
    (consuming Queue.empty 0 0).get (.logQGeom 16) Fld.logQGeom_UNREAD = 0 := by decide +kernel

/-- A queue of 200 unread slots on two pages, with a spill of 32 tail slots, or a refill, under way. -/
def moving (n : Nat) : State :=
  st { logged { Queue.empty with packets := [⟨(List.range 199).map (BitVec.ofNat 64), 0, false⟩], writePos := 200, pages := 1, head := 0,
                                 tail := 100, busy := true, moving := n } [(.arcStat, Fld.arcStat_READY, 1)] with
       archReqs := [⟨3, 3, 1000, none, 1, 16⟩] }

theorem wit_Spill : [moving 32, moving 0].all (fun s => decide (s.b.get .arcStat Fld.arcStat_READY = 1) && decide (s.b.mode ≠ 11) &&
      decide (s.b.archNext = some ⟨3, 3, 1000, none, 1, 16⟩) && (s.b.queue 16).busy && decide ((s.b.queue 16).stalled = [])) = true ∧
    ((after (.spillRefillDone 16) (moving 32)).b.queue 16).tail = 68 ∧
    ((after (.spillRefillDone 16) (moving 0)).b.queue 16).head = 64 ∧
    runs (.spillRefillDone 17) (moving 32) (moving 32) = true := by decide +kernel

theorem wit_ArchiveTimeout :
    let b := { board 5 with archReqs := [{ req0 with t0 := 500 }] }
    b.archReqs.find? (fun r => r.id = 3) = some { req0 with t0 := 500 } ∧ 500 + b.ladder 3 ≤ b.tick ∧ req0.user = 0 ∧
    ¬ 501 + b.ladder 3 ≤ b.tick ∧ (after (.archiveTimeout 3) (st b)).b.get .arcStat Fld.arcStat_TIMEOUTS = 1 := by decide +kernel

/-! Witnesses: Meridian. Port 0's region 0 is entry 64, a field of 64 KiB that leads to the archive. -/

def agent (l : List (Reg × Fld × Nat) := []) : Bridge :=
  mer0 5 ([(.catEntry 64 0, entEN, 1), (.catEntry 64 0, entSPACE, 2), (.catEntry 64 0, entDIRECTOR, 1), (.catEntry 64 0, entORDER, 0),
    (.catEntry 64 1, ⟨12, 52⟩, 0x800)] ++ l)

def rd8 : Packet := { type := 0, tag := 5, len := 7, dir := true }
def wr8 : Packet := { rd8 with type := 1, data := eight }

/-- The worked example of a release-write: words 0 and 1 of the packet, and word 0 of its CPL (R268). -/
theorem test_release_write :
    (pktWords { type := 1, tag := 0x2A5, len := 63, mark := 2, vi := 88, addr := 0x480000040, data := [] }) =
      [0x0000000B043F2A51#64, 0x0000000480000040#64] ∧
    (pktWords { type := 8, tag := 0x2A5, vi := 88 }).head? = some 0x0000000B00002A58#64 ∧
    (pktWords { type := 8, tag := 0x2A5, vi := 88, resp := 4 }).head? = some 0x0000040B00002A58#64 := by decide +kernel

/-- Eight bytes to a Transit field, in the three byte orders (R109, R310). -/
theorem test_transit_orders :
    let d : List (Option Byte) := [1, 2, 3, 4, 5, 6, 7, 8].map (fun (n : Nat) => some (BitVec.ofNat 8 n))
    (pieceData 0 0x100 d 0x100 8).map (fun x => (x.map BitVec.toNat).getD 0) = [1, 2, 3, 4, 5, 6, 7, 8] ∧
    (pieceData 1 0x100 d 0x100 8).map (fun x => (x.map BitVec.toNat).getD 0) = [4, 3, 2, 1, 8, 7, 6, 5] ∧
    (pieceData 2 0x100 d 0x100 8).map (fun x => (x.map BitVec.toNat).getD 0) = [8, 7, 6, 5, 4, 3, 2, 1] ∧
    Machine.runs 1 0x104 0x108 = [(0x104, 4)] := by decide +kernel

theorem wit_Agent_path : (agent).serving = true ∧ (agent).linkUp 0 = true ∧ pktOk rd8 0 = true ∧ pktOk wr8 1 = true ∧ wr8.poison = false ∧
    pktOk { rd8 with type := 2 } 2 = true ∧ pktOk { wr8 with type := 3 } 3 = true ∧ pktOk { rd8 with op := 1 } 0 = false ∧
    4096 < 4090 % 4096 + (7 + 1) ∧ 4088 % 4096 + (7 + 1) ≤ 4096 ∧ (agent).lookup (slotMer 0 1) 0 8 = none ∧
    ((agent).lookup (slotMer 0 0) 0 8).map (fun x => x.idx) = some 64 ∧ (agent).entOpen 64 = true ∧
    (mer0 5).entOpen 64 = false ∧ ((mer0 5).lookup (slotMer 0 0) 0 8).map (fun x => x.idx) = some 64 ∧
    ((agent).lookup (slotMer 0 0) 0 8).map (fun x => x.get entSPACE) = some 2 := by decide +kernel

theorem test_agent_read : (after (.meridianRead 0 rd8) (st (agent))).b.archReqs.length = 1 ∧
    (after (.meridianRead 0 { rd8 with op := 1 }) (st (agent))).b.get (.merErrCnt 0) Fld.merErrCnt_PROTO = 1 ∧
    (after (.meridianRead 0 { rd8 with addr := 2 ^ 48 }) (st (agent))).b.get .catMiss Fld.catMiss_MISSES = 1 ∧
    (after (.meridianRead 0 rd8) (st (mer0 5))).b.get .catMiss Fld.catMiss_DISABLED_HITS = 1 := by decide +kernel

/-- Entry 64 as a host entry of VF1, for INTERRUPT events. -/
def eventing : Bridge := agent [(.catEntry 64 0, entSPACE, 4), (.catEntry 64 0, entRIDFN, 1)]
def intr (v : Nat) : Packet := { type := 5, tag := 0, len := 7, dir := true, data := bytesOfNat 8 v }
def caps0 (w : Nat) : Packet := { type := 5, tag := 0, len := 7, op := 1, data := bytesOfNat 8 w }

theorem wit_Agent_events : pktOk (intr 3) 5 = true ∧ ((eventing).lookup (slotMer 0 0) 0 1).map (fun x => x.get entSPACE) = some 4 ∧
    (eventing).entOpen 64 = true ∧ 3 < (eventing).vectors 0 1 ∧ (eventing).vectors 0 1 ≤ 4 ∧
    ((agent).lookup (slotMer 0 0) 0 1).map (fun x => x.get entSPACE) = some 2 ∧ (agent).lookup (slotMer 0 1) 0 1 = none ∧
    (after (.interrupt 0 (intr 4)) (st (eventing))).b.get (.merEventDrop 0) Fld.merEventDrop_EVENT_DROP = 1 ∧
    pktOk (caps0 0x3) 5 = true ∧
    (0x3#64 >>> 2).toNat % 8 + 7 = (agent [(.merPortGeom 0, Fld.merPortGeom_GRANULE_LOG2, 7)]).get (.merPortGeom 0) Fld.merPortGeom_GRANULE_LOG2 ∧
    (0x3#64 >>> 2).toNat % 8 + 7 ≠ (agent [(.merPortGeom 0, Fld.merPortGeom_GRANULE_LOG2, 8)]).get (.merPortGeom 0) Fld.merPortGeom_GRANULE_LOG2 ∧
    (after (.caps 0 (caps0 0x3)) (st (agent [(.merPortGeom 0, Fld.merPortGeom_GRANULE_LOG2, 8)]))).b.get (.merPortStat 0) Fld.merPortStat_RESERVATIONS = 0 ∧
    pktOk { rd8 with type := 6, len := 0 } 6 = true ∧
    (after (.meridianBarrier 0 { rd8 with type := 6, len := 0 }) (st (agent))).b.barriers = [] := by decide +kernel

def tag9 (op : JobOp) (quarantined : Bool) : MerTag :=
  { port := 0, tag := 9, quarantined := quarantined, until_ := 1000, issued := 500, retries := 8, resendAt := some 1000,
    job := { job0 with id := 11, origin := .up 4, src := .transit, space := 0, op := op } }

def tagged (e : MerTag) (tick : Nat := 1000) : Bridge :=
  let b := agent [(.merPortCtrl 0, Fld.merPortCtrl_RETRY_LIMIT, 8), (.merPortCtrl 0, Fld.merPortCtrl_RETRY_GAP, 25)]
  { b with tick := tick, eng := { b.eng with merTags := [e] } }

def cplD : Packet := { type := 9, tag := 9, len := 7, data := eight }

theorem wit_MeridianCompletions : (tagged (tag9 (.read 8) false)).linkUp 0 = true ∧
    complete (tag9 (.read 8) false).job cplD = some (.ok eight false) ∧ complete (tag9 (.read 4) false).job cplD = none ∧
    complete (tag9 (.write [some 1#8] false) false).job { type := 8, tag := 9 } = some (.ok [] false) ∧
    complete (tag9 (.read 8) false).job { type := 8, tag := 9, resp := 3 } = some (.err .unmapped) ∧
    mayRetry (tag9 (.read 8) false).job = true ∧ passedOn (tag9 (.read 8) false).job = false ∧
    (tag9 (.read 8) false).retries < 9 ∧ (tagged (tag9 (.read 8) false)).get (.merPortCtrl 0) Fld.merPortCtrl_RETRY_LIMIT ≤ (tag9 (.read 8) false).retries ∧
    ((tagged { tag9 (.read 8) false with retries := 7 }).get (.merPortCtrl 0) Fld.merPortCtrl_RETRY_LIMIT = 8) ∧
    ((tagged (tag9 (.read 8) false)).completion 0 cplD).eng.merTags = [] ∧
    ((tagged (tag9 (.read 8) true) 999).completion 0 cplD).get (.merErrLast 0) Fld.merErrLast_KIND = 1 ∧
    ((tagged (tag9 (.read 8) true)).completion 0 cplD).get (.merErrLast 0) Fld.merErrLast_KIND = 3 ∧
    ((tagged (tag9 (.read 8) true)).completion 0 cplD).eng.merTags = [] ∧
    ((agent).completion 0 cplD).get (.merErrLast 0) Fld.merErrLast_KIND = 3 ∧
    (cplD.rsvd = false ∧ cplD.dir = false ∧ pktOk { rd8 with rsvd := true } 0 = false ∧
      (packetOf [0x0002_0000_0000_0000#64, 0]).rsvd = true ∧ (packetOf [0x0001_0000_0000_0000#64, 0]).rsvd = false) ∧
    ((tagged (tag9 (.read 8) false)).completion 0 { cplD with rsvd := true }).eng.merTags = [] ∧
    ((tagged (tag9 (.read 4) false)).completion 0 cplD).get (.merErrLast 0) Fld.merErrLast_KIND = 4 ∧
    ((tagged (tag9 (.read 8) false)).completion 0 { type := 8, tag := 9, resp := 5 }).eng.merTags = [] ∧
    ((tagged { tag9 (.read 8) false with retries := 7 }).completion 0 { type := 8, tag := 9, resp := 5 }).eng.merTags =
      [{ tag9 (.read 8) false with retries := 7, resendAt := some 1025 }] ∧
    ((tagged (tag9 (.write [some 1#8] false) false)).completion 0 { type := 8, tag := 9, resp := 5 }).get (.merErrLast 0) Fld.merErrLast_KIND = 4 := by
  decide +kernel

theorem wit_MeridianTimers : (tag9 (.read 8) false).issued + (tagged (tag9 (.read 8) false)).ladder 4 ≤ 5500 ∧
    (tagged (tag9 (.read 8) false) 5499).tick < (tag9 (.read 8) false).issued + (tagged (tag9 (.read 8) false) 5499).ladder 4 ∧
    (tag9 (.read 8) true).until_ ≤ (tagged (tag9 (.read 8) true)).tick ∧ (tag9 (.read 8) false).resendAt = some 1000 ∧
    ((tagged (tag9 (.read 8) false) 5500).merTimeout 0 9).event .mer 3 = true ∧
    (tagged (tag9 (.read 8) false) 5499).merTimeout 0 9 = tagged (tag9 (.read 8) false) 5499 ∧
    (after (.meridianTagFree 0 9) (st (tagged (tag9 (.read 8) true)))).b.eng.merTags = [] := by decide +kernel

theorem wit_MeridianResend :
    let b := (tagged (tag9 (.read 8) false)).putLink { (tagged (tag9 (.read 8) false)).link 0 with farGranted := [9, 99, 9, 99] }
    b.linkTakes 0 ((tag9 (.read 8) false).job.packet 9) = true ∧ b.eng.merTags.find? (fun e => e.port = 0 && e.tag = 9) = some (tag9 (.read 8) false) ∧
    ((after (.meridianRetryResend 0 9) (st b)).b.eng.merTags.map (fun e => e.retries)) = [9] := by decide +kernel

/-! Witnesses: the reliable links. -/

def hdr (seq : Nat) : FlitHdr := { seq := seq, ack := 4095, nak := false, first := 31, csel := 0, cval := 0 }
def padding : List Word := List.replicate 30 (BitVec.allOnes 64)

/-- Port 0's link, which expects number 4095, holds flits 7 and 8 since tick 500. -/
def linked (l : List (Reg × Fld × Nat) := []) (f : Link → Link := id) : Bridge :=
  let b := mer0 5 ([(.ifvLinkTmo 0, Fld.ifvLinkTmo_REPLAY_TICKS, 500), (.ifvLinkTmo 0, Fld.ifvLinkTmo_CREDIT_TICKS, 500)] ++ l)
  b.putLink (f { b.link 0 with expected := 4095, buf := [⟨7, 31, padding⟩, ⟨8, 31, padding⟩], replayFrom := 500, usable := 0xFF, txNext := 9 })

theorem wit_Links_payload : (linked).linkState 0 = 2 ∧ (hdr 4095).first ≠ 30 ∧ (hdr 4095).nak = false ∧ ((linked).link 0).expected < 4096 ∧
    (4095 + 4096 - 4095) % 4096 = 0 ∧ (0 + 4096 - 4095) % 4096 = 1 ∧ (2046 + 4096 - 4095) % 4096 = 2047 ∧ 2047 < (2047 + 4096 - 4095) % 4096 ∧
    (((linked).payload 0 (hdr 4095) padding false).link 0).expected = 0 ∧
    (((linked).payload 0 (hdr 2046) padding false).link 0).nak = true ∧ (((linked).payload 0 (hdr 2047) padding false).link 0).nak = false ∧
    ((linked).payload 0 (hdr 2047) padding false).get (.ifvLinkCnt 0) Fld.ifvLinkCnt_BAD_FLITS = 1 := by decide +kernel

theorem wit_Links_ack : ((linked).link 0).buf.any (fun f => f.seq = 7) = true ∧ ((linked).link 0).buf.any (fun f => f.seq = 9) = false ∧
    (((linked).takeAck 0 7).link 0).buf.map (fun f => f.seq) = [8] ∧ ((linked).badFlit 0).get (.ifvLinkCnt 0) Fld.ifvLinkCnt_BAD_FLITS = 1 := by
  decide +kernel

def ctl (width ident : Nat) : CtlWord := { ident := ident, width := width, lanes := 0xFF }
def paused : Bridge := linked [(.ifvLinkStat 0, Fld.ifvLinkStat_STATE, 3)] (fun l => { l with pauseLanes := 1 })
def asked (l : List (Reg × Fld × Nat) := []) : Bridge := linked l (fun x => { x with reqSent := some 950 })

theorem wit_Links_control : (paused).linkState 0 = 3 ∧ (linked [(.ifvLinkStat 0, Fld.ifvLinkStat_STATE, 0)]).linkState 0 = 0 ∧
    (((paused).startPause 0 6).link 0).pauseLanes = 7 ∧ ((asked).link 0).reqSent.isSome = true ∧ (asked).identLocal 0 = 0 ∧
    (ctl 3 0).width ∉ [1, 2, 4, 8, 16] ∧ (ctl 8 0).width ∈ [1, 2, 4, 8, 16] ∧
    ((asked).retrainReq 0 (ctl 8 0)).linkState 0 = 2 ∧ ((linked).retrainReq 0 (ctl 8 0)).linkState 0 = 4 ∧
    ((asked [(.merPortGeom 0, Fld.merPortGeom_RANK, 2)]).retrainReq 0 (ctl 8 1)).linkState 0 = 4 ∧
    ((linked).retrainReq 0 (ctl 3 0)).get (.ifvLinkStat 0) Fld.ifvLinkStat_DOWN_CAUSE = 5 ∧
    (after (.retrainAck 0 (ctl 8 0)) (st (asked))).b.linkState 0 = 4 ∧ (after (.down 0) (st (linked))).b.linkState 0 = 0 := by decide +kernel

def timed (tick : Nat) (l : List (Reg × Fld × Nat) := []) (f : Link → Link := id) : Bridge := { linked l f with tick := tick }

theorem wit_LinkTimers : ((timed 1000).link 0).buf.head?.map (fun f => f.seq) = some 7 ∧ ((timed 1000).link 0).replayFrom + (timed 1000).replayTicks 0 ≤ 1000 ∧
    999 < ((timed 999).link 0).replayFrom + (timed 999).replayTicks 0 ∧
    (after (.replayTimerExpire 0) (st (timed 1000))).b.get (.ifvLinkCnt 0) Fld.ifvLinkCnt_REPLAYS = 1 ∧
    (after (.replayTimerExpire 0) (st (timed 999))).b.get (.ifvLinkCnt 0) Fld.ifvLinkCnt_REPLAYS = 0 ∧
    (let b := timed 1000 [] (fun l => { l with creditWait := [(2, 500)] })
     (b.link 0).creditWait.find? (fun (p : Nat × Nat) => p.1 = 2) = some (2, 500) ∧ 500 + b.creditTicks 0 ≤ b.tick ∧ ¬ 500 + b.creditTicks 0 ≤ 999 ∧
     (after (.creditTimeout 0 2) (st b)).b.get (.ifvLinkStat 0) Fld.ifvLinkStat_DOWN_CAUSE = 2) ∧
    (let b := timed 1000 [(.ifvLinkStat 0, Fld.ifvLinkStat_STATE, 0), (.ifvLinkCtrl 0, Fld.ifvLinkCtrl_AUTO_UP, 1), (.ifvLinkCtrl 0, Fld.ifvLinkCtrl_DOWN_HOLD, 100)]
       (fun l => { l with downAt := 900 })
     b.linkState 0 = 0 ∧ b.get (.ifvLinkCtrl 0) Fld.ifvLinkCtrl_AUTO_UP = 1 ∧ (b.link 0).downAt + b.get (.ifvLinkCtrl 0) Fld.ifvLinkCtrl_DOWN_HOLD ≤ b.tick ∧
     (after (.downHoldExpire 0) (st b)).b.linkState 0 = 1) ∧
    (let b := timed 3000 [(.ifvLinkStat 0, Fld.ifvLinkStat_STATE, 4)] (fun l => { l with ackAt := some 999, reqSent := some 2950 })
     (b.link 0).ackAt = some 999 ∧ b.linkState 0 = 4 ∧ 999 + 2000 < b.tick ∧ ¬ 999 + 2000 < 2999 ∧ (b.link 0).reqSent = some 2950 ∧ 2950 + 50 ≤ b.tick ∧
     (after (.retrainTimeout 0) (st b)).b.get (.ifvLinkStat 0) Fld.ifvLinkStat_DOWN_CAUSE = 3) := by decide +kernel

/-- The worked example of a replay on the boundary: the 31 of a window, and the next of the next one; at 3,249,999 it is the 32nd (R364, R365). -/
theorem test_replay_window :
    let b := fun t => timed t [(.ifvLinkStat 0, Fld.ifvLinkStat_WINDOW_REPLAYS, 31)] (fun l => { l with windowStart := 3200000 })
    ((b 3250000).replay 0 7 true).get (.ifvLinkStat 0) Fld.ifvLinkStat_WINDOW_REPLAYS = 1 ∧ ((b 3250000).replay 0 7 true).linkState 0 = 2 ∧
    ((b 3249999).replay 0 7 true).linkState 0 = 0 ∧ ((b 3249999).replay 0 7 true).get (.ifvLinkStat 0) Fld.ifvLinkStat_DOWN_CAUSE = 1 := by decide +kernel

def training (phase tick : Nat) (rate : Nat := 2) : Bridge :=
  timed tick [(.ifvLinkStat 0, Fld.ifvLinkStat_STATE, 1), (.ifvLinkStat 0, Fld.ifvLinkStat_RATE, rate)] (fun l => { l with phase := phase, phaseStart := 600 })

theorem wit_Training : (linked [(.ifvLinkStat 0, Fld.ifvLinkStat_STATE, 0)]).linkState 0 = 0 ∧
    (linked [(.ifvLinkStat 0, Fld.ifvLinkStat_STATE, 0)]).linkExists 0 = true ∧ (training 0 1000).linkState 0 = 1 ∧
    ((training 0 1000).link 0).phase = 0 ∧ ((training 1 1000).link 0).phase = 1 ∧ ((training 3 1000).link 0).phase = 3 ∧
    600 + phaseBound 0 ≤ (training 0 1000).tick ∧ 1 < (training 0 1000).get (.ifvLinkStat 0) Fld.ifvLinkStat_RATE ∧
    (training 0 1000 1).get (.ifvLinkStat 0) Fld.ifvLinkStat_RATE ≤ 1 ∧
    ((training 3 1000).phaseDone 0 { identFar := 1, rateFar := 2, usable := 0xFF }).linkState 0 = 2 ∧
    ((training 0 1000).phaseTimeout 0).get (.ifvLinkStat 0) Fld.ifvLinkStat_RATE = 1 ∧ ((training 0 1000 1).phaseTimeout 0).linkState 0 = 0 := by decide +kernel

theorem wit_LinkCommands : (linked).takes dir0 (0xF00108 + 0x40 * 0) = true ∧ (linked).takes .svc (0xF00108 + 0x40 * 4) = true ∧
    Reg.fused (linked).part (.ifvLinkCtrl 0) = false ∧ dir0.chief = true ∧ Writer.svc.chief = true ∧ (Writer.dir 1).chief = false ∧ (linked).calm = true ∧
    (linked).linkState 0 ≠ 0 ∧ (linked).takes dir0 (0xF00100 + 0x40 * 0) = true ∧ (linked).mirrors = false ∧
    (let v := wput ((linked).readReg [] (.ifvLinkCtrl 0)) Fld.ifvLinkCtrl_WIDTH_CAP 4
     ((linked).svcMark dir0 false).rejectReason dir0 (.ifvLinkCtrl 0) v true true = 0) ∧
    4 % 32 ≠ (linked).get (.ifvLinkCtrl 0) Fld.ifvLinkCtrl_WIDTH_CAP ∧
    ((after (.widthCapWrite dir0 0 4) (st (linked))).b.link 0).reqSent = some 1000 ∧
    ((after (.ifvRetrain dir0 0) (st (linked))).b.link 0).reqSent = some 1000 ∧ (after (.ifvDown dir0 0) (st (linked))).b.linkState 0 = 0 := by decide +kernel

/-! Witnesses: the Transit bus. Region 0 is 64 KiB from 0x10000, one field, entry 96. -/

def transit (l : List (Reg × Fld × Nat) := []) (f : Transit → Transit := id) : Bridge :=
  let b := bars 5 ([(.trnBusCfg, Fld.trnBusCfg_ENABLE, 1), (.trnBusCfg, Fld.trnBusCfg_ARBITER, 1), (.trnBusCfg, Fld.trnBusCfg_CLK_MHZ, 100),
    (.catRegion 96, regKIND, 6), (.catRegion 96, regFC, 0), (.catRegion 96, regFS, 16), (.catRegion 96, regFIRST, 96), (.catRegion 96, regBASE, 16),
    (.catEntry 96 0, entEN, 1), (.catEntry 96 0, entSPACE, 2), (.catEntry 96 0, entDIRECTOR, 1), (.catEntry 96 0, entORDER, 1),
    (.catEntry 96 1, ⟨12, 52⟩, 0x800), (.trnTgtCfg, Fld.trnTgtCfg_TGT_WAIT, 25), (.trnTgtCfg, Fld.trnTgtCfg_DELAYED_HOLD, 100)] ++ l)
  b.putTrn (f b.eng.trn)

def burst2 : TransitBurst := { slot := 2, addr := 0x10000, beats := 1, be := [0xFF#8], data := eight }
/-- The burst with its translation, which is that of entry 96. -/
def claim2 : Claimed := ⟨burst2, ((transit).trnLookup burst2).getD ⟨0, [], 0⟩⟩
def full64 : Bridge := transit [] (fun t => { t with wq := List.replicate 64 (1, claim2) })

def delayed2 (result : Option (Option (List Byte))) (onBus : Option Nat) : Delayed :=
  { slot := 2, claim := claim2, up := 5, result := result, arrived := 900, onBus := onBus }

theorem wit_TransitTarget : (transit).trnOn = true ∧ (transit).mode ≠ 9 ∧ burstLegal burst2 = true ∧ ((transit).transitRegion 0x10000).isSome = true ∧
    ¬ (((transit).transitRegion 0x20000).isSome = true) ∧ burst2.locked = false ∧ burst2.poisoned = false ∧
    ((transit).trnLookup burst2).map (fun x => (x.idx, x.get entWIDTH)) = some (96, 0) ∧ (transit).entOpen 96 = true ∧
    (full64).eng.trn.wq.length = 64 ∧ (transit).eng.trn.pendingWait = [] ∧ 0 < transferred burst2 ∧
    (transit).eng.trn.delayed.find? (fun d => d.slot = 2) = none ∧
    ((transit).trnWrite burst2).out = [.trnRdy 2] ∧ ((transit).trnWrite { burst2 with locked := true }).get .trnErrLast Fld.trnErrLast_KIND = 6 ∧
    ((full64).trnWrite burst2).eng.trn.pendingWait.length = 1 ∧
    ((transit).trnRead burst2).eng.trn.delayed.map (fun d => d.onBus) = [some 1000] := by decide +kernel

/-- The region of 64 KiB holds two fields where FC is 1; a region one field short of the burst misses in the catalogue. -/
theorem wit_TransitTarget_miss :
    let b := transit [(.catRegion 96, regFS, 2)]
    burstLegal { burst2 with addr := 0x10000 } = true ∧ (b.transitRegion 0x10000).isSome = true ∧ b.trnLookup burst2 = none ∧
    (b.trnWrite burst2).get .catMissLast Fld.catMissLast_SOURCE = 2 := by decide +kernel

/-- An EXACT entry refuses a write that it would cut; of two beats, the second with TERR_N low, one is transferred. -/
theorem wit_TransitTarget_exact :
    let b := transit [(.catEntry 96 0, entWIDTH, 2), (.catEntry 96 0, entSPACE, 0)]
    let t := { burst2 with beats := 2, be := [0xFF#8, 0x0F#8], data := eight ++ eight, addr := 0x10000 }
    let cut := { burst2 with be := [0x41#8] }
    burstLegal cut = true ∧ (b.trnLookup cut).any (fun x => decide (x.get entWIDTH = 2) && decide (1 < (b.trnSpans x cut true).length)) = true ∧
    burstLegal t = true ∧ transferred { t with lines := [(false, false), (true, false)] } = 1 ∧
    (b.trnWrite cut).out = [.trnErr 2] := by decide +kernel

def holding (d : Delayed) (tick : Nat := 1000) : Bridge := { transit [] (fun t => { t with delayed := [d] }) with tick := tick }

theorem wit_TransitTarget_waits : (holding (delayed2 none (some 975))).eng.trn.delayed.find? (fun d => d.slot = 2) = some (delayed2 none (some 975)) ∧
    sameRead burst2 burst2 = true ∧ sameRead burst2 { burst2 with be := [0x0F#8] } = false ∧
    975 + (holding (delayed2 none (some 975))).get .trnTgtCfg Fld.trnTgtCfg_TGT_WAIT ≤ 1000 ∧ (holding (delayed2 none (some 975))).eng.trn.pendingWait = [] ∧
    ((holding (delayed2 none (some 975))).tgtWait 2).out = [.trnRetry 2] ∧ ((holding (delayed2 none (some 976))).tgtWait 2).out = [] ∧
    (delayed2 (some none) none).arrived + (holding (delayed2 (some none) none)).get .trnTgtCfg Fld.trnTgtCfg_DELAYED_HOLD ≤ 1000 ∧
    ((holding (delayed2 (some none) none)).delayedHold 2).event .trn 5 = true ∧
    (holding (delayed2 (some none) none) 999).delayedHold 2 = holding (delayed2 (some none) none) 999 := by decide +kernel

def granted (l : List (Reg × Fld × Nat)) (f : Transit → Transit) : Bridge :=
  transit ([(.trnArbStat, Fld.trnArbStat_HELD, 1), (.trnArbStat, Fld.trnArbStat_HOLDER, 3)] ++ l) f

theorem wit_Arbiter_holds : (granted [] id).held_ = true ∧ (granted [] id).eng.trn.addressed = false ∧ (granted [] id).slot1 = false ∧
    (granted [] (fun t => { t with beatTick := 950, grantTick := 800 })).eng.trn.beatTick + (granted [] id).ladder 1 ≤ 1000 ∧
    ¬ 951 + (granted [] id).ladder 1 ≤ 1000 ∧ 800 + (granted [] id).ladder 2 ≤ 1000 ∧ ¬ 801 + (granted [] id).ladder 2 ≤ 1000 ∧
    (granted [] id).trnOnBus = none ∧ (granted [] id).domsOpen [83, 84] = true ∧ (granted [] (fun t => { t with next := some 2 })).eng.trn.next = some 2 ∧
    ((granted [] (fun t => { t with next := some 2 })).arbitrate ⟨0, false, false, true⟩).holder = 2 ∧
    ((granted [] id).arbitrate ⟨0, false, false, true⟩).held_ = false ∧ ((granted [(.trnRanks, ⟨6, 3⟩, 4)] id).arbitrate ⟨4, false, false, false⟩).eng.trn.next = some 2 ∧
    (after .grantUnused (st (granted [] id))).b.held_ = false ∧
    (after (.transitUnclaimed 0x55) (st (granted [] id))).b.get .trnErrLast Fld.trnErrLast_KIND = 1 ∧
    (after (.dataPhaseWaitExpire ⟨0x55, 950⟩) (st (granted [] (fun t => { t with beatTick := 900 })))).b.event .trn 2 = true ∧
    (after (.dataPhaseWaitExpire ⟨0x55, 951⟩) (st (granted [] (fun t => { t with beatTick := 900 })))).b.event .trn 2 = false ∧
    (after (.grantHoldExpire 0x55) (st (granted [] (fun t => { t with grantTick := 800 })))).b.get .trnCutoff Fld.trnCutoff_LAST = 3 := by decide +kernel

/-- Slots 2 and 5 at rank 4, slot 3 at rank 6: 3 wins; of 2 and 5 the one after the last winner (R300). -/
def ranked (f : Transit → Transit := id) : Bridge := transit [(.trnRanks, ⟨6, 3⟩, 4), (.trnRanks, ⟨15, 3⟩, 4), (.trnRanks, ⟨9, 3⟩, 6)] f

theorem wit_Arbiter_picks : (ranked).trnPick 0x2C = some 3 ∧ (ranked).trnPick 0x24 = some 2 ∧
    (ranked (fun t => { t with lastAt := [(4, 2)] })).trnPick 0x24 = some 5 ∧ (ranked (fun t => { t with lastAt := [(4, 5)] })).trnPick 0x24 = some 2 ∧
    (ranked).trnPick 0 = none ∧ (ranked).slot1 = false ∧ (ranked).get .trnBusCfg Fld.trnBusCfg_ARBITER = 1 ∧ (ranked).eng.trn.queue = [] ∧
    (ranked).eng.trn.next = none ∧ (ranked).eng.trn.bursting = none ∧ (ranked).eng.trn.svcPending = false ∧
    (ranked).trnPick ((ranked).trnRequests 0x24#8) = some 2 ∧ (after (.arbitrationDecision ⟨0x2C#8, false, false, false⟩) (st (ranked))).b.holder = 3 := by decide +kernel

def mastered (retries : Nat) : TrnJob :=
  { job := { jobR with id := 12, space := 1, addr := 0x8000, op := .read 8 }, done := 0, data := [], retries := retries, retryAt := none, locked := false, old := none }

def mastering (retries : Nat) : Bridge :=
  granted [(.trnMasterCfg, Fld.trnMasterCfg_RETRY_LIMIT, 8)] (fun t => { t with queue := [mastered retries], bursting := some 12 })

theorem wit_Arbiter_bursts : (mastering 8).trnOnBus = some (mastered 8) ∧ (mastering 8).eng.trn.next = none ∧ (mastered 8).locked = false ∧
    (mastered 8).beats ≤ (mastered 8).done + (mastered 8).nextBeats ∧
    (mastering 8).get .trnMasterCfg Fld.trnMasterCfg_RETRY_LIMIT ≤ (mastered 8).retries ∧
    ((mastering 0).burstEnd (.trdy eight)).held_ = false ∧ burstOutcome 1 [⟨false, false, true, false, []⟩, ⟨true, true, false, true, []⟩] 0 [] = some (.terr 0) ∧
    burstOutcome 1 [⟨false, false, true, false, []⟩] 0 [] = none ∧ ((mastering 0).burstEnd (.terr 0)).get .trnErrLast Fld.trnErrLast_KIND = 2 ∧
    ((mastering 8).burstEnd (.trty 0 [] false)).get .trnErrLast Fld.trnErrLast_KIND = 3 ∧
    ((mastering 7).burstEnd (.trty 0 [] false)).eng.trn.queue.map (fun t => t.retries) = [8] := by decide +kernel

/-- 16 cycles of a 100 MHz bus are 8 ticks (R306). -/
theorem wit_Arbiter_gap :
    let b := fun n => transit [(.trnMasterCfg, Fld.trnMasterCfg_RETRY_GAP, 16)] (fun t => { t with queue := [{ mastered 1 with retryAt := some n }] })
    50 * (b 992).get .trnMasterCfg Fld.trnMasterCfg_RETRY_GAP ≤ (1000 - 992) * (b 992).get .trnBusCfg Fld.trnBusCfg_CLK_MHZ ∧
    ((after .transitRetryGapExpire (st (b 992))).b.eng.trn.queue.map (fun t => t.retryAt)) = [none] ∧
    ((after .transitRetryGapExpire (st (b 993))).b.eng.trn.queue.map (fun t => t.retryAt)) = [some 993] := by decide +kernel

theorem wit_TransitService : (transit).takes .svc 0xD00140 = true ∧
    ((transit).svcMark .svc false).rejectReason .svc .trnSvcCmd ((st (transit)).svcCmdFull 1 0x8000 0xFF) true true = 0 ∧
    ((transit).svcMark .svc false).rejectReason .svc .trnSvcCmd ((st (transit)).svcCmdFull 2 0x8000 0xFF) true true = 0 ∧
    wget ((st (transit)).svcCmdFull 1 0x8000 0xFF) Fld.trnSvcCmd_OP = 1 ∧ (transit).takes dir0 0xD00110 = true ∧ (transit).mirrors = false ∧
    ((transit).svcMark dir0 false).rejectReason dir0 .trnRanks 0o7654321#64 true true = 0 ∧
    (after (.svcTransitRead .svc 0x8000 0xFF) (st (transit))).b.get .trnSvcCmd Fld.trnSvcCmd_BUSY = 1 ∧
    ((after (.ranksWrite dir0 0o7654321#64) (st (transit))).b.rank 6) = 7 := by decide +kernel

def routed (dest director vector : Nat) (irq : List (Nat × Nat) := []) : Bridge :=
  transit [(.trnIrqRoute 15, Fld.trnIrqRoute_DEST, dest), (.trnIrqRoute 15, Fld.trnIrqRoute_DIRECTOR, director),
    (.trnIrqRoute 15, Fld.trnIrqRoute_VECTOR, vector), (.trnIrqRoute 15, Fld.trnIrqRoute_VI, 5)] (fun t => { t with irq := irq })

theorem wit_TransitLines : (routed 1 0 3).trnOn = true ∧ (routed 1 0 3 [(15, 7)]).eng.trn.irq.any (fun p => p.1 = 15) = true ∧
    (routed 0 0 3).get (.trnIrqRoute 15) Fld.trnIrqRoute_DEST = 0 ∧ (routed 1 1 3).get (.trnIrqRoute 15) Fld.trnIrqRoute_DIRECTOR = 1 ∧
    (routed 1 0 3).viLive 5 = true ∧ 3 < (routed 1 0 3).viVectors 5 ∧ (routed 1 0 4).viVectors 5 ≤ 4 ∧
    ((routed 1 0 3).irqAssert 15).event .trn 3 = false ∧ ((routed 0 0 3).irqAssert 15).eng.trn.irq = [(15, 1000)] := by decide +kernel

/-- A line routed to the director with a vector the director has, and with one past its table. -/
theorem wit_TransitLines_director :
    7 < ((routed 1 1 7).cfgPut 0 0 .msixTableSize 8).vectors 0 0 ∧ ((routed 1 1 8).cfgPut 0 0 .msixTableSize 8).vectors 0 0 ≤ 8 ∧
    (((routed 1 1 7).cfgPut 0 0 .msixTableSize 8).irqAssert 15).event .trn 3 = false := by decide +kernel

/-- The worked example of R477: TICK_OUT on TIRQ_N[12], ball index 0x0780; and TINT_N[0], signal 116, parked. -/
def balled : Bridge :=
  let g : Image := { img with sections := ⟨0x0009, 0, false, body 4 [[0x80, 7, 2, 0], [0xB4, 7, 1, 0]]⟩ :: img.sections }
  { transit [] (fun t => { t with tint := [0, 1] }) with alm := { Almanac.none_ with inForce := some g } }

theorem test_balls : ballSignal 1920 = some 112 ∧ (balled).ballFn 112 = 2 ∧ (balled).ballOut 112 = some (decide (1000 / 25 % 2 = 1)) ∧
    (balled).irqAssert 12 = balled ∧ ballSignal 0x7B4 = some 116 ∧ (balled).tintLines = 2 ∧ (balled).ballFn 89 = 0 := by decide +kernel

theorem wit_Tint : (transit).calm = true ∧ (transit).authorised (.dir 2) .trnTintSet = true ∧ (transit).takes dir0 0xD00320 = true ∧
    (transit).takes dir0 0xD00328 = true ∧ (after (.tintSet dir0 0x9#4) (st (transit))).b.tintLines = 9 ∧
    (after (.tintClr dir0 0x8#4) (st (transit [] (fun t => { t with tint := [0, 3] })))).b.tintLines = 1 := by decide +kernel

/-! Witnesses: the pair. PAIR_ID 1 with instances 0 to 31 at home and the mirror link Up. -/

def mirror (m : Nat) (l : List (Reg × Fld × Nat) := []) (f : Pair → Pair := id) : Bridge :=
  let b := bars m ([(.ifvPairCfg, Fld.ifvPairCfg_ENABLE, 1), (.ifvPairCfg, Fld.ifvPairCfg_PAIR_ID, 1), (.ifvPairCfg, Fld.ifvPairCfg_HOME_FIRST, 0),
    (.ifvPairCfg, Fld.ifvPairCfg_HOME_LAST, 31), (.ifvLinkStat 4, Fld.ifvLinkStat_STATE, 2), (.ifvPairCtrl, Fld.ifvPairCtrl_HB_LOSS, 500),
    (.ifvPairCtrl, Fld.ifvPairCtrl_FENCE, 200), (.ifvPairStat, Fld.ifvPairStat_FORMED, 1)] ++ l)
  b.putPair (f b.eng.pair)

def greet : Hello := { part := 0x7432, pairId := false, homeFirst := 32, homeLast := 63, holdsPartner := true }
def aDestroy : MirrorChange := .delta (.destroy 40 0)

theorem wit_Mirror_hello : (mirror 6).hearsPartner = true ∧ (mirror 6).paired = true ∧ (mirror 6).part.code = 0x7432 ∧ (mirror 6).homeRange = (0, 31) ∧
    ((mirror 6).hello { greet with homeFirst := 31 }).pst Fld.ifvPairStat_FORMED = 0 ∧
    ((mirror 6).hello { greet with pairId := true }).pst Fld.ifvPairStat_FORMED = 0 ∧
    ((mirror 6).hello greet).pst Fld.ifvPairStat_RESYNCING = 1 := by decide +kernel

theorem wit_Mirror_change : (mirror 6).pst Fld.ifvPairStat_RESYNCING = 0 ∧
    ((mirror 6).change 9 aDestroy).eng.pair.journal.map (·.2) = [.change 9 aDestroy] ∧ ((mirror 6).change 9 aDestroy).out = [] ∧
    (mirror 6 [] (fun p => { p with journal := [(77, .change 9 aDestroy)] })).eng.pair.journal.find? (fun x => x.1 = 77) =
      some (77, .change 9 aDestroy) ∧
    ((mirror 6 [] (fun p => { p with pendingIn := [(8, aDestroy), (9, aDestroy)] })).retract 9).eng.pair.pendingIn = [(8, aDestroy)] ∧
    ((mirror 6 [] (fun p => { p with pendingIn := [(8, aDestroy), (9, aDestroy)] })).ckptRx 8 []).eng.pair.pendingIn = [(9, aDestroy)] := by
  decide +kernel

/-- A CREATE of instance 40 for a VF that an instance here holds is answered VF_BUSY; for another it is journalled. -/
def createCmd (vf : Nat) : Word := wmk [(Fld.viCmd_APERTURE, 0), (Fld.viCmd_VF, vf)]
def created : Word := wmk [(⟨0, 11⟩, 40), (⟨16, 16⟩, 64)]
def createOf (vf : Nat) : DeltaRec := .create (createCmd vf) 0 0 created

theorem wit_Mirror_create : (mirror 6).eng.reserve = [] ∧
    (mirror 6).reserveCheck (createCmd 1) 0 0 created = 3 ∧
    wget created ⟨0, 11⟩ = 40 ∧
    ((mirror 6).change 9 (.delta (createOf 1))).eng.pair.journal = [] ∧ ((mirror 6).change 9 (.delta (createOf 1))).out.length = 1 := by
  decide +kernel

/-- Instance 10, at home here, held in reserve after its partner adopted it: its CREATE is a handback. -/
def lent : Bridge :=
  let y : Reserve := { v := 10, entry := 0, res := 0, ctrl := 0, share := 0, buckets := [], images := [], ckpts := [], logs := [], packets := [] }
  { mirror 8 [(.ifvPairStat, Fld.ifvPairStat_YIELDED, 1)] with eng := { (mirror 8).eng with reserve := [y] } }

theorem wit_Mirror_handback : lent.paired = true ∧ lent.pst Fld.ifvPairStat_RESYNCING = 0 ∧ lent.homeRange = (0, 31) ∧
    (lent.eng.reserve.find? (fun y => y.v = wget (wmk [(⟨0, 11⟩, 10)]) ⟨0, 11⟩)).isSome = true ∧
    (lent.change 9 (.delta (.create (createCmd 2) 0 0 (wmk [(⟨0, 11⟩, 10)])))).eng.reserve = [] := by decide +kernel

def outgoing (n t : Nat) : OutChange := { seq := n, sent := t, change := aDestroy, action := none }
def waitingAck (tick : Nat) : Bridge :=
  { mirror 6 [(.fltLadder 7, ⟨0, 32⟩, 500)] (fun p => { p with outgoing := [outgoing 5 500, outgoing 6 600] }) with tick := tick }

theorem wit_Mirror_acks : (waitingAck 1000).ladder 7 = 500 ∧ (waitingAck 1000).ackLate = some (outgoing 5 500) ∧ (waitingAck 999).ackLate = none ∧
    (waitingAck 1000).eng.pair.queued = [] ∧ (waitingAck 1000).mode = 6 ∧
    (waitingAck 1000).eng.pair.outgoing.find? (fun x => x.seq = 6) = some (outgoing 6 600) ∧
    (waitingAck 1000).eng.pair.outgoing.find? (fun x => x.seq = 7) = none ∧
    ((waitingAck 1000).ackRx [] 6 0).eng.pair.outgoing = [outgoing 5 500] ∧
    ((waitingAck 1000).retractFrom 5 true).get .ifvMirrorStat Fld.ifvMirrorStat_TIMEOUTS = 2 := by decide +kernel

/-- A CREATE and a COMMIT of bank 0 that wait for their ACK. -/
theorem wit_Mirror_checkpoint : (mirror 6).mirrors = true ∧ (mirror 6).eng.pair.confirmSent = (mirror 6).eng.pair.lastApplied ∧
    (mirror 6 [(.viEntry 5, Fld.viEntry_VALID, 0), (.viEntry 5, Fld.viEntry_STATE, 0)]).liveVis = [] ∧
    (mirror 6 [] (fun p => { p with lastApplied := 4 })).eng.pair.confirmSent ≠ 4 ∧
    ((mirror 6 [] (fun p => { p with lastApplied := 4 })).sendCheckpoint).eng.pair.confirmSent = 4 := by decide +kernel

theorem wit_Mirror_refusals :
    let b := fun (i : Instr) => mirror 6 [] (fun p => { p with outgoing := [{ outgoing 5 500 with action := some i }] })
    ((b (.create dir0 0 2)).ackRx [] 5 3).get (.viCmdStatus 0) Fld.viCmdStatus_CODE = 3 ∧
    ((b (.catCommit dir0 7)).ackRx [] 5 3).get (.catCommitStatus 0) Fld.catCommitStatus_CODE = 8 := by decide +kernel

def beating (l : List (Reg × Fld × Nat)) (edge : Nat) : Bridge :=
  mirror 6 ([(.ifvPairStat, Fld.ifvPairStat_HB_ALIVE, 1)] ++ l) (fun p => { p with hbEdge := edge })

/-- PAIR_ID 0 in its slot-1 role, its partner's TCLK last seen at tick 900 (log entry 123). -/
def slotted1 : Bridge :=
  mirror 6 [(.ifvPairCfg, Fld.ifvPairCfg_PAIR_ID, 0), (.ifvPairStat, Fld.ifvPairStat_TCLK_SEEN, 1), (.trnBusCfg, Fld.trnBusCfg_SLOT1, 1)]
    (fun p => { p with tclkEdge := 900 })

theorem wit_Heartbeat_slot : slotted1.paired = true ∧ slotted1.pairId = 0 ∧ slotted1.pst Fld.ifvPairStat_TCLK_SEEN = 1 ∧
    slotted1.get .trnBusCfg Fld.trnBusCfg_SLOT1 = 1 ∧ slotted1.eng.pair.tclkEdge + 100 ≤ slotted1.tick ∧
    (after .tclkNotSeen (st slotted1)).b.get .trnBusCfg Fld.trnBusCfg_ARBITER = 1 := by decide +kernel

theorem wit_Heartbeat : (beating [] 500).hbDue = true ∧ (beating [] 501).hbDue = false ∧ (beating [] 501).pst Fld.ifvPairStat_HB_ALIVE = 1 ∧
    ({ beating [(.pwrMode, Fld.pwrMode_MODE, 9)] 500 with tick := 1000 } : Bridge).hbDue = true ∧
    (beating [(.pwrMode, Fld.pwrMode_MODE, 9)] 500).mode = 9 ∧ (mirror 1).mode < 2 ∧ (mirror 6).mode ≠ 9 ∧
    (mirror 6 [(.ifvPairStat, Fld.ifvPairStat_TCLK_SEEN, 1)] (fun p => { p with tclkEdge := 900 })).eng.pair.tclkEdge + 100 ≤ 1000 ∧
    ¬ (mirror 6 [(.ifvPairStat, Fld.ifvPairStat_TCLK_SEEN, 1)] (fun p => { p with tclkEdge := 901 })).eng.pair.tclkEdge + 100 ≤ 1000 ∧
    (mirror 6 [] (fun p => { p with fenceStart := some 800 })).eng.pair.fenceStart = some 800 ∧
    800 + (mirror 6).get .ifvPairCtrl Fld.ifvPairCtrl_FENCE ≤ 1000 ∧ ¬ 801 + (mirror 6).get .ifvPairCtrl Fld.ifvPairCtrl_FENCE ≤ 1000 := by
  decide +kernel

def lone (alive tclk : Nat) : Bridge :=
  mirror 6 [(.ifvLinkStat 4, Fld.ifvLinkStat_STATE, 0), (.ifvPairStat, Fld.ifvPairStat_HB_ALIVE, alive), (.ifvPairStat, Fld.ifvPairStat_TCLK_SEEN, tclk)]

theorem wit_Decisions : (mirror 6 [(.ifvPairStat, Fld.ifvPairStat_HB_ALIVE, 1)]).bothLost = false ∧ (mirror 6).ifvDown = false ∧
    (lone 1 0).bothLost = false ∧ (lone 1 0).ifvDown = true ∧ (lone 0 1).bothLost = true ∧ (lone 0 1).pairId = 1 ∧
    (lone 0 1).pst Fld.ifvPairStat_YIELDED = 0 ∧ (lone 0 0).wouldAdopt = true ∧ (lone 0 1).wouldAdopt = false ∧
    (lone 0 1).pairDecide.pst Fld.ifvPairStat_YIELDED = 1 ∧ (lone 1 0).pairDecide.mode = 8 := by decide +kernel

/-- Aperture 1 enabled too. -/
def mirror2 : Bridge :=
  let g : Image := { img with sections := ⟨0x0002, 0, false, body 0 [pad 8 [8, 0, 0, 1], pad 8 [8, 0, 1, 1]]⟩ :: img.sections }
  { lone 0 0 with alm := { (lone 0 0).alm with inForce := some g } }

theorem wit_Adopt : (lone 0 0).takes dir0 0xF00310 = true ∧ (lone 0 0).authorised dir0 .ifvPairCmd = true ∧
    ((lone 0 0).svcMark dir0 false).wouldAdopt = true ∧ ((lone 1 0).svcMark dir0 false).wouldAdopt = false ∧ (lone 1 0).calm = true ∧
    (mirror2).takes (.dir 1) 0xF00310 = true ∧ (mirror2).authorised (.dir 1) .ifvPairCmd = false ∧ (mirror2).calm = true ∧
    (lone 0 0).mode ≠ 7 ∧ (lone 0 0).adopt.mode = 8 ∧ (lone 0 0).adopt.get .trnBusCfg Fld.trnBusCfg_ARBITER = 1 := by decide +kernel

theorem wit_Handback :
    let b := mirror 6 [] (fun p => { p with adopted := [5] })
    b.inst? 5 = none ∧ b.viLive 5 = true ∧ (∀ c ∈ b.viChanList 5, b.chState c = 0) ∧
    ((b.handback.inst? 5).map (fun x => x.trigger)) = some 6 := by decide +kernel

/-! Witnesses: modes, Dimmed and calibration. -/

def idle (m : Nat) (l : List (Reg × Fld × Nat) := []) : Bridge := bars m ([(.aptLinkEff 0, Fld.aptLinkEff_STATE, 7)] ++ l)

theorem wit_PowerModes : (idle 5).takes dir0 0x01000108 = true ∧ (idle 5).authorised dir0 .pwrModeCmd = true ∧ (idle 5).takes .svc 0x01000108 = true ∧
    (idle 9).mode = 9 ∧ (idle 5).dimBlock = 0 ∧ (idle 6).dimBlock = 1 ∧ (idle 9).dimBlock = 1 ∧ (board 5 [(.aptLinkEff 0, Fld.aptLinkEff_STATE, 3)]).dimBlock = 64 ∧
    (idle 5).get .pwrMode Fld.pwrMode_PARKED = 0 ∧ (idle 9 [(.pwrMode, Fld.pwrMode_PARKED, 1)]).get .pwrMode Fld.pwrMode_PARKED = 1 ∧
    (idle 10 [(.pwrMode, Fld.pwrMode_RETURN, 5)]).mode = 10 ∧ (idle 10).paired = false ∧
    ((idle 10 [(.pwrMode, Fld.pwrMode_RETURN, 5)]).releaseCmd .svc).mode = 5 ∧ ((idle 6).serviceCmd .svc).mode = 10 ∧
    ((idle 5).dimCmd .svc).mode = 9 ∧ ((idle 8).dimCmd .svc).get .pwrMode Fld.pwrMode_RETURN = 8 ∧
    ((board 5 [(.aptLinkEff 0, Fld.aptLinkEff_STATE, 3)]).dimCmd .svc).mode = 5 := by decide +kernel

def dimSoon (t : Nat) : Bridge :=
  let b := idle 5 [(.pwrDimCfg, Fld.pwrDimCfg_AUTO, 1), (.pwrDimCfg, Fld.pwrDimCfg_DIM_IDLE, 400)]
  { b with eng := { b.eng with dimSince := some t } }

def waking (t : Option Nat) (l : List (Reg × Fld × Nat) := []) (tick : Nat := 6000) : Bridge :=
  let b := idle 9 ([(.pwrMode, Fld.pwrMode_RETURN, 5)] ++ l)
  { b with eng := { b.eng with wakeStart := t }, tick := tick }

theorem wit_Dimmed : (dimSoon 600).get .pwrDimCfg Fld.pwrDimCfg_AUTO = 1 ∧ (dimSoon 600).dimBlock = 0 ∧ (dimSoon 600).eng.dimSince = some 600 ∧
    600 + (dimSoon 600).get .pwrDimCfg Fld.pwrDimCfg_DIM_IDLE ≤ 1000 ∧ ¬ 601 + (dimSoon 601).get .pwrDimCfg Fld.pwrDimCfg_DIM_IDLE ≤ 1000 ∧
    (waking none).mode = 9 ∧ (waking none).get .pwrMode Fld.pwrMode_PARKED = 0 ∧ (waking none [(.pwrMode, Fld.pwrMode_PARKED, 1)]).mode = 9 ∧
    (waking none).wakeDone = false ∧ (waking (some 1000)).wakeDone = true ∧ (waking (some 1000)).paired = false ∧
    (waking (some 1000)).get .pwrMode Fld.pwrMode_RETURN = 5 ∧ (waking (some 1000)).finishWake.mode = 5 ∧
    (after (.wake 8) (st (waking none))).b.get .pwrMode Fld.pwrMode_WAKE_SRC = 8 ∧
    (after (.wake 1) (st (waking none))).b.get .pwrMode Fld.pwrMode_WAKE_SRC = 1 := by decide +kernel

theorem wit_Alarm :
    let b := fun (n : Nat) => { idle 1 [(.pwrSidWake, Fld.pwrSidWake_EN, 1), (.pwrSidWake, Fld.pwrSidWake_ALARM, n)] with tick := 1000 }
    (b 1000).mode = 1 ∧ (b 1000).get .pwrSidWake Fld.pwrSidWake_ALARM = (b 1000).tick ∧ (after .siderealAlarm (st (b 1000))).b.pins.wakeN = true ∧
    (after .siderealAlarm (st (b 1001))).b.pins.wakeN = false := by decide +kernel

def calibrating (present tick : Nat) : Bridge :=
  let b := idle 5 [(.lneRefStat 2, Fld.lneRefStat_PRESENT, present), (.pwrSidCal, Fld.pwrSidCal_AUTO, 1), (.pwrSidCal, Fld.pwrSidCal_REF, 3),
    (.pwrSidCal, Fld.pwrSidCal_PERIOD_MS, 1), (.pwrSidCal, Fld.pwrSidCal_TRIM, 63)]
  { b with eng := { b.eng with calStart := some 1000 }, tick := tick }

theorem wit_Calibration : (calibrating 1 501000).calibrates = true ∧ (calibrating 1 501000).eng.calStart = some 1000 ∧ 1000 + 500000 ≤ 501000 ∧
    (calibrating 1 501000).calRef = some 2 ∧ (calibrating 0 501000).calRef = none ∧ refNominal 2 = 100000 ∧
    (idle 5 [(.pwrSidCal, Fld.pwrSidCal_AUTO, 1)]).eng.calStart = none ∧ (idle 5).calibrates = true ∧
    (let due := (idle 5).eng.calPeriod + 50000 * (idle 5).get .pwrSidCal Fld.pwrSidCal_PERIOD_MS
     due ≤ 50000000 ∧ ¬ due ≤ 49999999) ∧
    (after (.calibrationDone (some 1000000)) (st (calibrating 1 500999))).b.eng.calStart = some 1000 := by decide +kernel

/-- A million edges are 50 MHz exactly: TRIM stays. 0.5 % fewer edges say that the clock runs 0.5 % fast: two steps down. -/
theorem test_trim : trimOf 1000000 1000000 (-1) = (-1, 0) ∧ (trimOf 1000000 995000 0).1 = -2 ∧ (trimOf 1000000 1005000 0).1 = 2 ∧
    (trimOf 1000000 1200000 0).1 = 25 ∧ (trimOf 1000000 800000 0).1 = -25 := by decide +kernel

/-! Witnesses: faults, Quarantine and the eyepiece. -/

theorem wit_Fatal : (bars 5).heldReset = false ∧ 2 ≤ (bars 2).mode ∧ (bars 11).mode = 11 ∧ (bars 11).writerThere dir0 = true ∧
    (bars 11).writerThere .svc = true ∧ (bars 5).takes dir0 0x01100200 = true ∧ (bars 5).takes .svc 0x01100200 = true ∧
    ((bars 5).fatal 1 3 77).mode = 11 ∧ ((bars 5).fatal 1 3 77).get .fltQuarStat Fld.fltQuarStat_INDEX = 77 ∧
    ((bars 11).fatal 1 3 77).get .fltQuarStat Fld.fltQuarStat_LATER = 1 ∧
    (after .thermtrip (st (bars 1))).b.pins.thermtrip = true := by decide +kernel

def eyed (l : List (Reg × Fld × Nat) := []) (busy : Bool := true) : Bridge :=
  let b := bars 5 l
  { b with eng := { b.eng with eyes := [⟨0, busy, 900⟩] } }

theorem wit_Eyepiece : (bars 5).takes dir0 (Reg.eyeSel 0).offset = true ∧ (bars 5).calm = true ∧
    ((bars 5).svcMark dir0 false).rejectReason dir0 (.eyeSel 0) (wmk [(Fld.eyeSel_STRUCT, 1), (Fld.eyeSel_INDEX, 5)]) true true = 0 ∧
    (eyed).eyeBusy 0 = true ∧ (eyed [] false).eyeBusy 0 = false ∧ (eyed).archReqs.any (fun r => r.user = 4 && r.arg = 0) = false ∧
    ((eyed).eyeDone 0).get (.eyeStatus 0) Fld.eyeStatus_DONE = 1 ∧ (bars 4).heldReset = false ∧ (bars 4).mode = 4 ∧ (bars 8).writerThere dir0 = true ∧
    (eyed [(.eyeSel 0, Fld.eyeSel_AUTO_INC, 1), (.eyeSel 0, Fld.eyeSel_STRUCT, 1)]).get (.eyeSel 0) Fld.eyeSel_INDEX + 1 <
      eyeCount (eyed).part 1 ∧
    (after (.eyeRecAutoIncRead dir0) (st (eyed [(.eyeSel 0, Fld.eyeSel_AUTO_INC, 1), (.eyeSel 0, Fld.eyeSel_STRUCT, 1)]))).b.get (.eyeSel 0)
      Fld.eyeSel_INDEX = 1 ∧
    (after (.eyeRecAutoIncRead dir0) (st (eyed [(.eyeSel 0, Fld.eyeSel_AUTO_INC, 0), (.eyeSel 0, Fld.eyeSel_STRUCT, 1)]))).b.get (.eyeSel 0)
      Fld.eyeSel_INDEX = 0 ∧
    (after (.eccCorrected 255) (st (bars 2))).b.get .fltEcc Fld.fltEcc_LAST_STRUCT = 255 := by decide +kernel

/-- The worked example of R432: level 4 at 400,000 and level 9 at 500,000 or 600,000. -/
def ladderImg (n : Nat) : Image :=
  { img with sections := [⟨0x000A, 0, false, body 8 [[4, 0, 0, 0, 0x80, 0x1A, 6, 0], [9, 0, 0, 0, n % 256, n / 256 % 256, n / 65536, 0]]⟩] }

theorem test_ladder_nesting : (ladderImg 500000).nestCheck.map (fun r => (r.code, r.sect, r.rec_)) = some (0x0D, 0x000A, 1) ∧
    (ladderImg 600000).nestCheck = none := by decide +kernel

/-! Well-formedness: for each check one command that it refuses, and next to it one that it passes. -/

def cpl0 : HostCpl := { ap := 0, tag := 16383, rid := 0, status := .sc, poisoned := false, data := [1] }
def hlink : HostLink := { rate := 6, width := 16, l0pWidth := 0, flit := true, sris := false, state := 9 }

theorem wf_writers : Instr.wf (.stage (.dir 4)) = false ∧ Instr.wf (.stage (.dir 3)) = true ∧ Instr.wf (.registerWrite dir0 (2 ^ 26) 0xFF 0) = false ∧
    Instr.wf (.registerWrite dir0 (2 ^ 26 - 1) 0xFF 0) = true ∧ Instr.wf (.svcWrite64 12 0 true) = false ∧ Instr.wf (.svcWrite32 12 0 true) = true ∧
    Instr.wf (.svcRead32 14) = false ∧ Instr.wf (.catCommit dir0 65536) = false ∧ Instr.wf (.quarantineRelease (.dir 9) strapsHost (.data []) (.data [])) = false := by
  decide +kernel

theorem wf_hosts : Instr.wf (.hostPostedWrite wr0) = true ∧ Instr.wf (.hostPostedWrite { wr0 with data := [] }) = false ∧
    Instr.wf (.hostPostedWrite { wr0 with data := List.replicate 513 none }) = false ∧ Instr.wf (.hostRead rd0) = true ∧
    Instr.wf (.hostRead { rd0 with len := 4097 }) = false ∧ Instr.wf (.hostRead { rd0 with ap := 4 }) = false ∧ Instr.wf (.hostAtomicOp at0) = true ∧
    Instr.wf (.hostAtomicOp { at0 with addr := at0.addr + 2 }) = false ∧ Instr.wf (.hostAtomicOp { at0 with size := 12 }) = false ∧
    Instr.wf (.hostAtomicOp { at0 with kind := .cas }) = false ∧ Instr.wf (.hostConfigRequest 0 0 4096 (.read .busMaster)) = false ∧
    Instr.wf (.hostConfigRequest 0 0 1 (.write .busMaster (2 ^ 64))) = false ∧ Instr.wf (.hostCompletion cpl0) = true ∧
    Instr.wf (.hostCompletion { cpl0 with tag := 16384 }) = false ∧ Instr.wf (.hostCompletion { cpl0 with status := .ur }) = false ∧
    Instr.wf (.ledgerEntryFree 16384) = false ∧ Instr.wf (.vfFlr 0 4096) = false ∧ Instr.wf (.pf0Flr 4) = false ∧ Instr.wf (.numvfsWrite 0 65536) = false ∧
    Instr.wf (.barResize 0 true 64) = false ∧ Instr.wf (.laneMarginingCommand 0 0 (.left 33) 0) = false ∧
    Instr.wf (.laneMarginingCommand 0 72 (.up 64) 0) = false ∧ Instr.wf (.laneMarginingCommand 0 0 (.up 64) 0) = true ∧
    Instr.wf (.hostLinkStateChange 0 hlink) = true ∧ Instr.wf (.hostLinkStateChange 0 { hlink with state := 10 }) = false := by decide +kernel

theorem wf_engines : Instr.wf (.barrierPost (.vf 0 0) 4) = false ∧ Instr.wf (.barrierPost (.pf0 (.dir 4) 0) 3) = false ∧ Instr.wf (.barrierRead (.vf 0 0) 3 0) = false ∧
    Instr.wf (.shadowWrite vf1 8 0) = false ∧ Instr.wf (.arm (.slot 0 1 128)) = false ∧ Instr.wf (.arm (.chan dir0 8192)) = false ∧
    Instr.wf (.arm (.chan dir0 8191)) = true ∧ Instr.wf (.runlistPlace 32) = false ∧ Instr.wf (.segmentTake 256) = false ∧
    Instr.wf (.swapTo dir0 4) = false ∧ Instr.wf (.create dir0 0 4096) = false ∧ Instr.wf (.destroy dir0 0 2048) = false ∧
    Instr.wf (.drainDeadline 2048) = false ∧ Instr.wf (.append ⟨.vf 0 1, 16, 0⟩ []) = false ∧ Instr.wf (.append ⟨.vf 0 1, 15, 511⟩ []) = true ∧
    Instr.wf (.flush ⟨.bridge, 4096, 0⟩) = false ∧ Instr.wf (.rewind ⟨.meridian 4 0, 0, 0⟩) = false ∧ Instr.wf (.setMark ⟨.finder 256, 0, 0⟩) = false ∧
    Instr.wf (.packet ⟨.bridge, 4095, 4095⟩ (List.replicate 257 0)) = false ∧ Instr.wf (.consume ⟨.bridge, 0, 0⟩ 4097 0) = false ∧
    Instr.wf (.consumeStallExpire 4096) = false := by decide +kernel

theorem wf_links : Instr.wf (.meridianRead 4 rd8) = false ∧ Instr.wf (.meridianRead 3 rd8) = true ∧ Instr.wf (.meridianRead 0 { rd8 with len := 256 }) = false ∧
    Instr.wf (.caps 0 { rd8 with pasid := some (2 ^ 20) }) = false ∧ Instr.wf (.meridianTagFree 0 4096) = false ∧
    Instr.wf (.payload 5 (hdr 0) padding false) = false ∧ Instr.wf (.payload 4 (hdr 4096) padding false) = false ∧
    Instr.wf (.payload 4 (hdr 4095) [] false) = false ∧ Instr.wf (.payload 4 (hdr 4095) padding false) = true ∧ Instr.wf (.creditTimeout 0 4) = false ∧
    Instr.wf (.widthCapWrite dir0 0 32) = false ∧ Instr.wf (.lossOfSignal 72) = false ∧ Instr.wf (.refclkWindow 9 0) = false ∧
    Instr.wf (.scanComplete 0 [[], [], [], []] 0) = false := by decide +kernel

theorem wf_rest : Instr.wf (.transitReadCycle burst2) = true ∧ Instr.wf (.transitReadCycle { burst2 with slot := 0 }) = false ∧
    Instr.wf (.transitReadCycle { burst2 with beats := 3 }) = false ∧ Instr.wf (.transitWriteCycle { burst2 with addr := 0x10004 }) = false ∧
    Instr.wf (.transitWriteCycle { burst2 with be := [] }) = false ∧ Instr.wf (.transitUnclaimed (2 ^ 40)) = false ∧ Instr.wf (.tgtWaitExpire 8) = false ∧
    Instr.wf (.tirqAssert 16) = false ∧ Instr.wf (.hello greet) = true ∧ Instr.wf (.hello { greet with homeLast := 31 }) = false ∧
    Instr.wf (.change (2 ^ 32) aDestroy) = false ∧ Instr.wf (.change 0 (.resetStart 5 8)) = false ∧ Instr.wf (.ack 0 256) = false ∧
    Instr.wf (.ckpt 0 [⟨0, 0, 4, 0, 0⟩]) = false ∧ Instr.wf (.ckpt 0 [⟨0, 0, 3, 0, 0⟩]) = true ∧ Instr.wf (.logptr ⟨4096, 0, 0, 0⟩) = false ∧
    Instr.wf (.wake 0) = false ∧ Instr.wf (.wake 9) = false ∧ Instr.wf (.wake 8) = true ∧ Instr.wf (.shutterOpened 96) = false ∧
    Instr.wf (.fatalInternalError 0 0 0) = false ∧ Instr.wf (.fatalInternalError 7 0 0) = false := by decide +kernel

/-- The table gives its rows no bits, so no word spells a command. -/
theorem test_no_words : decodeTableWord 16 0x1234 = none ∧ decodeTableWord 0 0 = none := by decide +kernel

end Sys2Proof.Tests
end

section
/-!
PROOF of LateHostCompletions (R84). A fault record goes to logbook queues (R258), and a full or stalled queue may then overwrite,
spill, answer and mirror. What all of that leaves alone is one relation, `Logbooked`, closed under composition; each operation on
a queue has one lemma that says it stays within it.
-/
namespace Sys2Proof.Machine

open Sys2Proof

/-! What logbook queues leave alone. -/

/-- The registers that work on logbook queues may write: the queues' own counts, and those that report. -/
def Reg.queueCounts (r : Reg) : Bool :=
  r.reports || match r with
    | .logQLost _ | .logQStat _ => true
    | _ => false

/-- `t` is what work on logbook queues makes of `b`: the ledger, the kept page and every register but the queues' counts and
the reporting ones stay, no event is lost and no AER error is raised. -/
structure Bridge.Logbooked (b t : Bridge) : Prop where
  ledger : t.ledger = b.ledger
  kept : t.kept = b.kept
  raw : ∀ r, Reg.queueCounts r = false → t.raw r = b.raw r
  events : ∀ k n, b.event k n = true → t.event k n = true
  aer : ∀ ap fn n sev, Emission.aer ap fn n sev ∈ t.out → Emission.aer ap fn n sev ∈ b.out

theorem Reg.reports_of_queueCounts {r : Reg} (h : Reg.queueCounts r = false) : Reg.reports r = false :=
  (Bool.or_eq_false_iff.mp h).1

namespace Bridge.Logbooked

theorem refl (b : Bridge) : b.Logbooked b :=
  ⟨rfl, rfl, fun _ _ => rfl, fun _ _ h => h, fun _ _ _ _ h => h⟩

theorem trans {a b c : Bridge} (h : a.Logbooked b) (g : b.Logbooked c) : a.Logbooked c where
  ledger := g.ledger.trans h.ledger
  kept := g.kept.trans h.kept
  raw := fun r hr => (g.raw r hr).trans (h.raw r hr)
  events := fun k n hk => g.events k n (h.events k n hk)
  aer := fun ap fn n sev he => h.aer ap fn n sev (g.aer ap fn n sev he)

theorem fold {α : Type} (f : Bridge → α → Bridge) (hf : ∀ (b : Bridge) (x : α), b.Logbooked (f b x)) (l : List α)
    (b : Bridge) : b.Logbooked (l.foldl f b) := by
  induction l generalizing b with
  | nil => exact refl b
  | cons x l ih => exact (hf b x).trans (ih (f b x))

/-- A change outside the part, the ledger, the kept page, the register file and what has been sent. -/
theorem ofFrame {b t : Bridge} (hp : t.part = b.part) (hl : t.ledger = b.ledger) (hk : t.kept = b.kept)
    (hr : t.regs = b.regs) (ho : t.out = b.out) : b.Logbooked t :=
  have hraw : ∀ r, t.raw r = b.raw r := fun r => Bridge.raw_congr t b r hp hr
  ⟨hl, hk, fun r _ => hraw r, fun k n h => by unfold Bridge.event; rw [hraw]; exact h, fun _ _ _ _ h => ho ▸ h⟩

/-- Each branch of a choice stays within it. -/
theorem ite {c : Prop} [Decidable c] {b t u : Bridge} (ht : b.Logbooked t) (hu : b.Logbooked u) :
    b.Logbooked (if c then t else u) := by
  split
  · exact ht
  · exact hu

theorem ofReported {b t : Bridge} (h : b.Reported t) (ho : t.out = b.out) : b.Logbooked t :=
  ⟨h.ledger, h.kept, fun r hr => h.raw r (Reg.reports_of_queueCounts hr), h.events, fun _ _ _ _ he => ho ▸ he⟩

theorem put (b : Bridge) (r : Reg) (w : Word) (hr : Reg.queueCounts r = true) (he : ∀ k, Reg.blkEvent k ≠ r) :
    b.Logbooked (b.put r w) where
  ledger := rfl
  kept := rfl
  raw := fun r' h => b.raw_put_ne r r' w (by rintro rfl; simp [hr] at h)
  events := fun k n h => by unfold Bridge.event; rw [b.raw_put_ne r _ w (he k)]; exact h
  aer := fun _ _ _ _ h => h

theorem emit (b : Bridge) (e : Emission) (he : ∀ ap fn n sev, Emission.aer ap fn n sev ≠ e) : b.Logbooked (b.emit e) where
  ledger := rfl
  kept := rfl
  raw := fun _ _ => rfl
  events := fun _ _ h => h
  aer := fun ap fn n sev h => by simpa [Bridge.emit, he ap fn n sev] using h

theorem putQueue (b : Bridge) (q : Nat) (x : Queue) : b.Logbooked (b.putQueue q x) :=
  ofFrame rfl rfl rfl rfl rfl

theorem finish (b : Bridge) (j : Job) (r : Res) : b.Logbooked (b.finish j r) :=
  ofFrame rfl rfl rfl rfl rfl

end Bridge.Logbooked

/-! Vectors, events and domains. -/

@[simp] theorem Bridge.raiseVector_out (b : Bridge) (ap fn v : Nat) : (b.raiseVector ap fn v).out = b.out := by
  unfold Bridge.raiseVector Bridge.sendMessage
  simp only
  split
  · rfl
  · split
    · split <;> rfl
    · split <;> rfl

@[simp] theorem Bridge.raise_out (b : Bridge) (k : Blk) (n : Nat) : (b.raise k n).out = b.out := by
  have routes : ∀ (rose : Nat → Bool) (l : List Nat) (c : Bridge),
      (l.foldl (fun b a => if rose a then b.raiseVector a 0 (b.get (.idEventRoute a) Fld.idEventRoute_VECTOR) else b) c).out
        = c.out := by
    intro rose l
    induction l with
    | nil => intro c; rfl
    | cons a l ih => intro c; rw [List.foldl_cons, ih]; split <;> simp
  exact routes _ _ _

namespace Bridge.Logbooked

theorem raiseVector (b : Bridge) (ap fn v : Nat) : b.Logbooked (b.raiseVector ap fn v) :=
  ofReported (.raiseVector b ap fn v) (b.raiseVector_out ap fn v)

theorem raise (b : Bridge) (k : Blk) (n : Nat) : b.Logbooked (b.raise k n) :=
  ofReported (.raise b k n) (b.raise_out k n)

theorem openDom (b : Bridge) (n : Nat) : b.Logbooked (b.openDom n) :=
  ofReported (.openDom b n) (by unfold Bridge.openDom; split <;> rfl)

theorem needDom (b : Bridge) (n : Nat) : b.Logbooked (b.needDom n) := by
  unfold Bridge.needDom
  exact .ite ((openDom b n).trans (put _ (.pwrDomStat n) _ rfl (by simp))) (refl b)

theorem needDoms (b : Bridge) (ns : List Nat) : b.Logbooked (b.needDoms ns) :=
  fold _ needDom ns b

theorem askArchive (b : Bridge) (rank user arg : Nat) : b.Logbooked (b.askArchive rank user arg).2 := by
  have hfresh : b.Logbooked b.fresh.2 := ofFrame rfl rfl rfl rfl rfl
  unfold Bridge.askArchive
  exact (hfresh.trans (needDoms _ [81, 82])).trans (ofFrame rfl rfl rfl rfl rfl)

/-! Queues: windows, losses, room. -/

theorem moveQueue (b : Bridge) (q : Nat) : b.Logbooked (b.moveQueue q) := by
  unfold Bridge.moveQueue
  exact .ite (refl b) ((askArchive b 3 1 q).trans (putQueue _ q _))

theorem grown (b : Bridge) (q n : Nat) : b.Logbooked (b.grown q n) :=
  (putQueue b q _).trans (moveQueue _ q)

theorem queueVector (b : Bridge) (q : Nat) : b.Logbooked (b.queueVector q) := by
  unfold Bridge.queueVector
  simp only
  split
  · exact raiseVector b _ _ _
  · exact raiseVector b _ _ _

/-- A queue's vector that only some settings raise. -/
theorem queueVectorIf (c : Prop) [Decidable c] (b : Bridge) (q : Nat) : b.Logbooked (if c then b.queueVector q else b) :=
  .ite (queueVector b q) (refl b)

theorem countLost (b : Bridge) (q pkts words : Nat) : b.Logbooked (b.countLost q pkts words) := by
  have hcount : b.Logbooked ((b.inc (.logQLost q) Fld.logQLost_PACKETS pkts).inc (.logQLost q) Fld.logQLost_WORDS words) :=
    (put b (.logQLost q) _ rfl (by simp)).trans (put _ (.logQLost q) _ rfl (by simp))
  unfold Bridge.countLost
  exact .ite hcount ((hcount.trans (raise _ .log 1)).trans (queueVectorIf _ _ q))

theorem losePacket (b : Bridge) (q i : Nat) : b.Logbooked (b.losePacket q i) := by
  unfold Bridge.losePacket
  simp only
  split
  · exact refl b
  · exact .ite ((putQueue b q _).trans (countLost _ q _ _)) (putQueue b q _)

theorem makeRoom (b : Bridge) (q n fuel : Nat) : b.Logbooked (b.makeRoom q n fuel).1 := by
  induction fuel generalizing b with
  | zero => exact refl b
  | succ fuel ih =>
    have hquota : b.Logbooked (if b.slotLimit q < b.capacity q then b.raise .log 3 else b) :=
      .ite (raise b .log 3) (refl b)
    unfold Bridge.makeRoom
    split
    · exact refl b
    · simp only
      split
      · exact hquota
      · exact (hquota.trans (losePacket _ q 0)).trans (ih _)

/-! Queues: reads. -/

theorem unreadFire (b : Bridge) (q : Nat) : b.Logbooked (b.unreadFire q) := by
  unfold Bridge.unreadFire
  exact .ite (refl b) (((putQueue b q _).trans (raise _ .log 0)).trans (queueVectorIf _ _ q))

theorem sendMirror (b : Bridge) (ws : List Word) : b.Logbooked (b.sendMirror ws) :=
  (emit b (.mirror ws) (fun _ _ _ _ => nofun)).trans (ofFrame rfl rfl rfl rfl rfl)

theorem mirrorPtr (b : Bridge) (q : Nat) : b.Logbooked (b.mirrorPtr q) := by
  unfold Bridge.mirrorPtr
  exact .ite (sendMirror b _) (refl b)

theorem takePairs (b : Bridge) (q n : Nat) : b.Logbooked (b.takePairs q n).1 := by
  induction n generalizing b with
  | zero => exact refl b
  | succ n ih =>
    unfold Bridge.takePairs
    simp only
    split
    · exact refl b
    · split
      · exact refl b
      · exact (putQueue b q _).trans (ih _)

theorem afterRead (b : Bridge) (q : Nat) : b.Logbooked (b.afterRead q) :=
  (putQueue b q _).trans (moveQueue _ q)

theorem answerPort (b : Bridge) (x : Stalled) (ws : List Word) : b.Logbooked (b.answerPort x ws) := by
  unfold Bridge.answerPort
  split
  · exact finish b _ _
  · split <;> exact emit b _ (fun _ _ _ _ => nofun)

theorem serveConsume (b : Bridge) (q : Nat) (x : Stalled) : b.Logbooked (b.serveConsume q x) :=
  ((((unreadFire b q).trans (takePairs _ q x.pairs)).trans (afterRead _ q)).trans (mirrorPtr _ q)).trans (answerPort _ x _)

theorem serveStalled (b : Bridge) (q fuel : Nat) : b.Logbooked (b.serveStalled q fuel) := by
  induction fuel generalizing b with
  | zero => exact refl b
  | succ fuel ih =>
    unfold Bridge.serveStalled
    split
    · exact refl b
    · exact .ite (refl b) (((putQueue b q _).trans (serveConsume _ q _)).trans (ih _))

/-! Queues: packets. -/

theorem pushPacket (b : Bridge) (q : Nat) (p : Pkt) (n : Nat) : b.Logbooked (b.pushPacket q p n) := by
  have hmirror : ∀ c : Bridge, c.Logbooked (if c.mirrors && c.get (.logQGeom q) Fld.logQGeom_MIRROR = 2 then
      (c.sendMirror (mirrorPacket 5 0 (BitVec.ofNat 64 q :: p.words))).mirrorPtr q else c) := fun c =>
    .ite ((sendMirror c _).trans (mirrorPtr _ q)) (refl c)
  unfold Bridge.pushPacket
  exact (((putQueue b q _).trans (grown _ q n)).trans (hmirror _)).trans ((queueVectorIf _ _ q).trans (serveStalled _ q _))

theorem packetWrite {b t : Bridge} {q : Nat} {ws : List Word} (h : b.packetWrite q ws = some t) : b.Logbooked t := by
  have hroom := makeRoom b q (ws.length + 1) ((b.queue q).packets.length + 1)
  unfold Bridge.packetWrite at h
  split at h
  · cases h
  · simp only [Option.some.injEq] at h
    subst h
    exact .ite (hroom.trans (pushPacket _ q _ _)) (hroom.trans (countLost _ q _ _))

theorem portRefused (b : Bridge) (q : Nat) : b.Logbooked (b.portRefused q) :=
  (put b (.logQStat q) _ rfl (by simp)).trans (raise _ .log 5)

/-- A packet of the bridge's own, whose refusal is only counted. -/
theorem bridgePacket (b : Bridge) (q : Nat) (ws : List Word) (src : PortSrc) : b.Logbooked (b.bridgePacket q ws src) := by
  unfold Bridge.bridgePacket
  split
  · cases h : b.packetWrite q ws with
    | none => exact portRefused b q
    | some t => exact packetWrite h
  · exact (needDoms b _).trans (putQueue _ q _)

end Bridge.Logbooked

/-! Words made of fields. -/

theorem wget_wputs_apart (w : Word) (l : List (Fld × Nat)) (g : Fld) (h : ∀ p ∈ l, p.1.apart g) :
    wget (l.foldl (fun w p => wput w p.1 p.2) w) g = wget w g := by
  induction l generalizing w with
  | nil => rfl
  | cons p l ih =>
    rw [List.foldl_cons, ih _ (fun q hq => h q (List.mem_cons_of_mem _ hq)), wget_wput_apart _ _ _ _ (h p List.mem_cons_self)]

/-- The first field of a word reads as given when the other fields are apart from it. -/
theorem wget_wmk_head (f : Fld) (v : Nat) (l : List (Fld × Nat)) (hf : f.lo + f.len ≤ 64) (h : ∀ p ∈ l, p.1.apart f) :
    wget (wmk ((f, v) :: l)) f = v % 2 ^ f.len :=
  (wget_wputs_apart _ l f h).trans (wget_wput_self _ f v hf)

/-! Registers written one after another. -/

section
variable (r : Nat → Reg) (w : Nat → Word) (l : List Nat) (b : Bridge)

theorem Bridge.foldl_put_shape : l.foldl (fun (b : Bridge) i => b.put (r i) (w i)) b =
    { b with regs := (l.foldl (fun (b : Bridge) i => b.put (r i) (w i)) b).regs } := by
  induction l generalizing b with
  | nil => rfl
  | cons i l ih => exact ih (b.put (r i) (w i))

theorem Bridge.foldl_put_raw_ne (x : Reg) (hx : ∀ i, x ≠ r i) :
    (l.foldl (fun (b : Bridge) i => b.put (r i) (w i)) b).raw x = b.raw x := by
  induction l generalizing b with
  | nil => rfl
  | cons i l ih => rw [List.foldl_cons, ih, b.raw_put_ne _ _ _ (hx i)]

end

/-! Fault records (R436 to R439). -/

/-- The kept ring takes the words of a fault record, and the record is counted. -/
def Bridge.ringRecord (b : Bridge) (ws : List Word) : Bridge :=
  ({ b with kept := { b.kept with
      ring := alPut b.kept.nextSlot ws b.kept.ring
      nextSlot := if b.kept.nextSlot = 2047 then 1 else b.kept.nextSlot + 1
      nextRec := (b.kept.nextRec + 1) % 2 ^ 32 } } : Bridge).life 6

/-- A fault record is in the kept ring and FLT_LAST shows it; no logbook has it yet. -/
def Bridge.keepRecord (b : Bridge) (ws : List Word) : Bridge :=
  (List.range 4).foldl (fun (b : Bridge) w => b.put (.fltLast w) (ws.getD w 0)) (b.ringRecord ws)

section
variable (b : Bridge) (ws : List Word)

theorem Bridge.keepRecord_shape : b.keepRecord ws = { b.ringRecord ws with regs := (b.keepRecord ws).regs } :=
  Bridge.foldl_put_shape Reg.fltLast (fun w => ws.getD w 0) _ _

theorem Bridge.keepRecord_ledger : (b.keepRecord ws).ledger = b.ledger := by rw [b.keepRecord_shape]; rfl
theorem Bridge.keepRecord_out : (b.keepRecord ws).out = b.out := by rw [b.keepRecord_shape]; rfl
theorem Bridge.keepRecord_kept : (b.keepRecord ws).kept = (b.ringRecord ws).kept := by rw [b.keepRecord_shape]

theorem Bridge.keepRecord_raw (r : Reg) (hr : ∀ w, r ≠ .fltLast w) : (b.keepRecord ws).raw r = b.raw r :=
  Bridge.foldl_put_raw_ne Reg.fltLast (fun w => ws.getD w 0) _ (b.ringRecord ws) r hr

end

/-- A fault record is kept and event 0 of FLT raised; what is left is work on logbook queues. -/
theorem Bridge.record_logbooked (b : Bridge) (code : Nat) (k : Blk) (vi ap : Option Nat) (a d : Word) :
    ((b.keepRecord (b.faultWords code k vi ap a d)).raise .flt 0).Logbooked (b.record code k vi ap a d) := by
  unfold Bridge.record
  exact .ite (.refl _) (.fold _ (fun b q => .bridgePacket b q _ _) _ _)

section
variable (b : Bridge) (code : Nat) (k : Blk) (vi ap : Option Nat) (a d : Word)

theorem Bridge.record_ledger : (b.record code k vi ap a d).ledger = b.ledger := by
  rw [(b.record_logbooked code k vi ap a d).ledger, (Bridge.Reported.raise _ _ _).ledger, b.keepRecord_ledger]

theorem Bridge.record_kept :
    (b.record code k vi ap a d).kept = (b.ringRecord (b.faultWords code k vi ap a d)).kept := by
  rw [(b.record_logbooked code k vi ap a d).kept, (Bridge.Reported.raise _ _ _).kept, b.keepRecord_kept]

/-- The kept ring holds the record's words in the slot that was next. -/
theorem Bridge.record_ring :
    alGet [] b.kept.nextSlot (b.record code k vi ap a d).kept.ring = b.faultWords code k vi ap a d := by
  rw [b.record_kept]; exact alGet_alPut_self _ _ _ _

theorem Bridge.record_nextRec : (b.record code k vi ap a d).kept.nextRec = (b.kept.nextRec + 1) % 2 ^ 32 := by
  rw [b.record_kept]; rfl

theorem Bridge.record_raw (r : Reg) (hc : Reg.queueCounts r = false) (hl : ∀ w, r ≠ .fltLast w) :
    (b.record code k vi ap a d).raw r = b.raw r := by
  rw [(b.record_logbooked code k vi ap a d).raw r hc, Bridge.raw_raise _ _ _ r (Reg.reports_of_queueCounts hc),
    b.keepRecord_raw _ r hl]

theorem Bridge.record_get (r : Reg) (f : Fld) (hc : Reg.queueCounts r = false) (hl : ∀ w, r ≠ .fltLast w) :
    (b.record code k vi ap a d).get r f = b.get r f :=
  congrArg (wget · f) (b.record_raw code k vi ap a d r hc hl)

theorem Bridge.record_events (k' : Blk) (n : Nat) (h : b.event k' n = true) : (b.record code k vi ap a d).event k' n = true := by
  apply (b.record_logbooked code k vi ap a d).events
  apply (Bridge.Reported.raise _ _ _).event
  unfold Bridge.event
  rw [b.keepRecord_raw _ _ (by simp)]
  exact h

theorem Bridge.record_flt : (b.record code k vi ap a d).event .flt 0 = true :=
  (b.record_logbooked code k vi ap a d).events _ _ (Bridge.raise_event_self _ _ _ (by decide))

theorem Bridge.record_aer (ap' fn n sev : Nat) (h : Emission.aer ap' fn n sev ∈ (b.record code k vi ap a d).out) :
    Emission.aer ap' fn n sev ∈ b.out := by
  rw [← b.keepRecord_out (b.faultWords code k vi ap a d), ← Bridge.raise_out _ .flt 0]
  exact (b.record_logbooked code k vi ap a d).aer _ _ _ _ h

/-- The first byte of a fault record is its code (R436). -/
theorem Bridge.faultWords_code : wget ((b.faultWords code k vi ap a d).getD 0 0) ⟨0, 8⟩ = code % 2 ^ 8 :=
  wget_wmk_head ⟨0, 8⟩ code _ (by decide) (by simp [Fld.apart])

end

/-! Late completions (R84). -/

/-- What APT_LATE_LAST shows of a completion. -/
def Bridge.lateWord (b : Bridge) (c : HostCpl) : Word :=
  wmk [(Fld.aptLateLast_TAG, c.tag), (Fld.aptLateLast_RID, c.rid), (Fld.aptLateLast_TICK, b.tick), (Fld.aptLateLast_VALID, 1)]

theorem Bridge.lateWord_tag (b : Bridge) (c : HostCpl) : wget (b.lateWord c) Fld.aptLateLast_TAG = c.tag % 2 ^ 14 :=
  wget_wmk_head _ _ _ (by decide) (by
    simp [Fld.apart, Fld.aptLateLast_TAG, Fld.aptLateLast_RID, Fld.aptLateLast_TICK, Fld.aptLateLast_VALID])

theorem Bridge.lateWord_valid (b : Bridge) (c : HostCpl) : wget (b.lateWord c) Fld.aptLateLast_VALID = 1 :=
  wget_wput_self _ _ _ (by decide)

/-- A late completion is counted and shown, and LATE_CPL raised. -/
def Bridge.lateCounted (b : Bridge) (c : HostCpl) : Bridge :=
  (((b.bump (.aptLateCpl c.ap) Fld.aptLateCpl_COUNT).put (.aptLateLast c.ap) (b.lateWord c)).life (8 + c.ap)).raise (.apt c.ap) 0

section
variable (b : Bridge) (c : HostCpl)

@[simp] theorem Bridge.lateCounted_ledger : (b.lateCounted c).ledger = b.ledger := by
  unfold Bridge.lateCounted; rw [(Bridge.Reported.raise _ _ _).ledger]; rfl

@[simp] theorem Bridge.lateCounted_out : (b.lateCounted c).out = b.out := by
  unfold Bridge.lateCounted; rw [Bridge.raise_out]; rfl

@[simp] theorem Bridge.lateCounted_nextSlot : (b.lateCounted c).kept.nextSlot = b.kept.nextSlot := by
  unfold Bridge.lateCounted; rw [(Bridge.Reported.raise _ _ _).kept]; rfl

@[simp] theorem Bridge.lateCounted_nextRec : (b.lateCounted c).kept.nextRec = b.kept.nextRec := by
  unfold Bridge.lateCounted; rw [(Bridge.Reported.raise _ _ _).kept]; rfl

theorem Bridge.lateCounted_count : (b.lateCounted c).get (.aptLateCpl c.ap) Fld.aptLateCpl_COUNT =
    satAdd Fld.aptLateCpl_COUNT.len (b.get (.aptLateCpl c.ap) Fld.aptLateCpl_COUNT) 1 := by
  unfold Bridge.lateCounted
  rw [Bridge.get_raise _ _ _ _ _ rfl, Bridge.life_get_, Bridge.get_put_ne _ _ _ _ _ (by simp), Bridge.get_bump_self _ _ _ _ (by decide)]

theorem Bridge.lateCounted_last : (b.lateCounted c).raw (.aptLateLast c.ap) = b.lateWord c := by
  unfold Bridge.lateCounted; rw [Bridge.raw_raise _ _ _ _ rfl, Bridge.life_raw_, Bridge.raw_put_self]

theorem Bridge.lateCounted_event : (b.lateCounted c).event (.apt c.ap) 0 = true := Bridge.raise_event_self _ _ _ (by decide)

end

/-- A completion for a quarantined entry within its window is counted and recorded, and nothing else is done with it. -/
theorem Bridge.hostCompletion_late (b : Bridge) (c : HostCpl) (e : LedgerEntry)
    (hfind : b.ledger.find? (fun x => x.ap = c.ap && b.ledgerTag x.ap x.idx = c.tag &&
      (decide (b.get (.aptLinkEff c.ap) Fld.aptLinkEff_FLIT = 1) || decide (x.job.fn = b.ridFn c.ap c.rid))) = some e)
    (hq : e.quarantined = true) (hw : b.tick < e.until_) :
    b.hostCompletion c = (b.lateCounted c).record 0x03 (.apt c.ap) e.job.owner (some c.ap) (b.lateWord c) 0 := by
  unfold Bridge.hostCompletion
  simp only [hfind, hq, Nat.not_le.mpr hw]
  rfl

/-- Settles O33: the completion is `lateCounted`, then recorded; neither step looks at the data, and the record's way into the
logbooks leaves the ledger, the kept page and the late registers alone and raises no AER error. -/
theorem lateHostCompletions : Obligations.LateHostCompletions := by
  intro s c e hmode hquar hfind hq hw
  have late := s.b.hostCompletion_late c e hfind hq hw
  have last : (s.b.hostCompletion c).raw (.aptLateLast c.ap) = s.b.lateWord c := by
    rw [late, Bridge.record_raw _ _ _ _ _ _ _ _ rfl (by simp), s.b.lateCounted_last]
  have ring : alGet [] s.b.kept.nextSlot (s.b.hostCompletion c).kept.ring =
      (s.b.lateCounted c).faultWords 0x03 (.apt c.ap) e.job.owner (some c.ap) (s.b.lateWord c) 0 := by
    rw [late, ← s.b.lateCounted_nextSlot c, Bridge.record_ring]
  refine ⟨?served, ?ledgerStays, fun d => ?dataIgnored, ?counted, ?tagShown, ?validShown, ?lateRaised, ?faultRaised,
    ?recordCounted, ?recordCode, ?recordDetail, ?noAer⟩
  case served =>
    have hm : ¬ (s.b.mode < 4) := Nat.not_lt.mpr hmode
    simp [exec, execHostCompletion, hm, hquar]
  case ledgerStays => rw [late, Bridge.record_ledger, s.b.lateCounted_ledger]
  case dataIgnored => exact (s.b.hostCompletion_late { c with data := d } e hfind hq hw).trans late.symm
  case counted => rw [late, Bridge.record_get _ _ _ _ _ _ _ _ _ rfl (by simp), s.b.lateCounted_count]
  case tagShown => exact (congrArg (wget · _) last).trans (s.b.lateWord_tag c)
  case validShown => exact (congrArg (wget · _) last).trans (s.b.lateWord_valid c)
  case lateRaised => rw [late]; exact Bridge.record_events _ _ _ _ _ _ _ _ _ (s.b.lateCounted_event c)
  case faultRaised => rw [late]; exact Bridge.record_flt _ _ _ _ _ _ _
  case recordCounted => rw [late, Bridge.record_nextRec, s.b.lateCounted_nextRec]
  case recordCode => rw [ring]; exact Bridge.faultWords_code _ 0x03 _ _ _ _ _
  case recordDetail => rw [ring, last]; rfl
  case noAer =>
    intro ap fn n sev h
    rw [late] at h
    simpa using Bridge.record_aer _ _ _ _ _ _ _ _ _ _ _ h

end Sys2Proof.Machine
end

section
/-!
PROOF of ShadowStates (R153, R155, R159). A served access to a channel reaches it as one operation on the bridge, `asSeenBy` the
writer. What such an operation leaves alone is one relation, `KeepsTransfers`, closed under composition and under settling; each
statement then follows from the few registers that its operation writes.
-/
namespace Sys2Proof.Machine

/-! A channel access that is served. -/

section
variable (b : Bridge) (w : Writer) (e : Bool) (x : ChanSel)

@[simp] theorem Bridge.svcMark_raw (r : Reg) : (b.svcMark w e).raw r = b.raw r := by cases w <;> rfl
@[simp] theorem Bridge.svcMark_mode : (b.svcMark w e).mode = b.mode := by cases w <;> rfl
@[simp] theorem Bridge.svcMark_chan (d : Nat) : (b.svcMark w e).chan d = b.chan d := by cases w <;> rfl
@[simp] theorem Bridge.svcMark_calm : (b.svcMark w e).calm = b.calm := by cases w <;> rfl

@[simp] theorem Bridge.asSeenBy_chanOf : (b.asSeenBy x).chanOf x = b.chanOf x := by
  cases x with
  | slot => rfl
  | chan w n => cases w <;> rfl

@[simp] theorem Bridge.asSeenBy_chanAllowed (c : Nat) : (b.asSeenBy x).chanAllowed x c = b.chanAllowed x c := by
  cases x with
  | slot => rfl
  | chan w n => cases w <;> rfl

@[simp] theorem Bridge.asSeenBy_domsOpen (l : List Nat) : (b.asSeenBy x).domsOpen l = b.domsOpen l := by
  cases x with
  | slot => rfl
  | chan w n => cases w <;> rfl

@[simp] theorem Bridge.asSeenBy_raw (r : Reg) : (b.asSeenBy x).raw r = b.raw r := by
  cases x with
  | slot => rfl
  | chan w n => exact b.svcMark_raw w false r

@[simp] theorem Bridge.asSeenBy_chShadow (c : Nat) : (b.asSeenBy x).chShadow c = b.chShadow c :=
  congrArg (wget · _) (b.asSeenBy_raw x _)

end

/-- A control-space write that its block takes is served on the bridge as its writer finds it. -/
theorem Bridge.ctlGate_takes (b : Bridge) (i : Instr) (w : Writer) (off : Nat) (serve : Bridge → Bridge)
    (h : b.takes w off = true) : b.ctlGate i w off serve = serve (b.svcMark w false) := by
  simp only [Bridge.takes, Bool.and_eq_true, Bool.or_eq_true, decide_eq_true_eq, Bool.not_eq_true'] at h
  obtain ⟨⟨⟨⟨⟨⟨hmode, hreset⟩, hthere⟩, h9⟩, h11⟩, h10⟩, h3⟩ := h
  have hlow : ¬ (b.mode < 2) := Nat.not_lt.mpr hmode
  have hservice : ¬ (b.mode = 10 ∧ w ≠ .svc) := fun hw => h10.elim (· hw.1) hw.2
  have hbare : ¬ (b.mode = 3 ∧ (Blk.ofOffset off).inBare = false) := fun hm => h3.elim (· hm.1) (by simp [hm.2])
  simp [Bridge.ctlGate, hlow, hreset, hthere, h9, h11, hservice, hbare]

/-- A memory request of the host in a mode that serves traffic is served. -/
theorem Bridge.hostGate_serving (b : Bridge) (i : Instr) (ap : Nat) (serve : Bridge → Bridge) (hthere : b.hostThere ap = true)
    (hs : b.serving = true) : b.hostGate i ap serve = serve b := by
  have hmode : 4 ≤ b.mode ∧ b.mode ≤ 8 := by simpa [Bridge.serving] using hs
  have h3 : b.mode ≠ 3 := by omega
  have h9 : b.mode ≠ 9 := by omega
  have h10 : b.mode ≠ 10 := by omega
  simp [Bridge.hostGate, Bridge.gate, hthere, h3, h9, h10, hmode]

section
variable {b : Bridge} {x : ChanSel} {c : Nat} (h : b.servesChan x c)
include h

theorem Bridge.servesChan.chanOf : b.chanOf x = some c := h.2.1

/-- A channel that control space names is one of the 8,192 (R154). -/
theorem Bridge.servesChan.lt_of_chan (w : Writer) (n : Nat) (hx : x = .chan w n) : c < 8192 := by
  have hc := h.chanOf
  subst hx
  simp only [Bridge.chanOf, Option.ite_none_right_eq_some, Option.some.injEq] at hc
  exact hc.2 ▸ hc.1

theorem Bridge.servesChan.allowed : b.chanAllowed x c = true := h.2.2.1

theorem Bridge.servesChan.chanGate (i : Instr) (serve : Bridge → Bridge) : b.chanGate i x serve = serve (b.asSeenBy x) := by
  obtain ⟨hgate, -⟩ := h
  cases x with
  | slot ap vf j =>
    obtain ⟨hthere, hserving, hvf, hanswers⟩ := hgate
    simp [Bridge.chanGate, Bridge.hostGate_serving _ _ _ _ hthere hserving, hvf, hanswers, Bridge.asSeenBy]
  | chan w n => exact b.ctlGate_takes i w _ serve hgate

theorem Bridge.servesChan.chanOpen (i : Instr) (serve : Bridge → Bridge) :
    (b.asSeenBy x).chanOpen i x serve = serve (b.asSeenBy x) := by
  unfold Bridge.chanOpen
  rw [b.asSeenBy_chanOf, h.chanOf]
  exact Bridge.whenOpen_open _ _ i serve [] (by simpa using h.2.2.2)

/-- A command that is served acts on its channel. -/
theorem Bridge.servesChan.chanCmd (i : Instr) (cmd : Nat) : b.chanCmd i x cmd = (b.asSeenBy x).chanAct x c cmd := by
  unfold Bridge.chanCmd
  rw [h.chanGate, h.chanOpen]
  simp [h.chanOf, h.allowed]

end

section
variable {s : State} {x : ChanSel} {c : Nat} (h : s.b.servesChan x c)
include h

theorem exec_shadowWrite_served (k : Nat) (v : Word) (hk : k < 8) :
    exec (.shadowWrite x k v) s = .next { s with b := ((s.b.asSeenBy x).shadowWrite x k v).settled s.mem } := by
  simp only [exec, execShadowWrite, h.chanGate, h.chanOpen, hk, if_true]

theorem exec_arm_served : exec (.arm x) s = .next { s with b := ((s.b.asSeenBy x).chanAct x c 1).settled s.mem } := by
  simp only [exec, execArm, h.chanCmd]

theorem exec_disarm_served : exec (.disarm x) s = .next { s with b := ((s.b.asSeenBy x).chanAct x c 2).settled s.mem } := by
  simp only [exec, execDisarm, h.chanCmd]

end

/-! What an access to a channel leaves alone. -/

/-- From `b` to `t` no channel's state and nothing of a transfer changes, no register but those of `rs` and the reporting
ones, and nothing begins or ceases to wait. -/
structure Bridge.KeepsTransfers (rs : List Reg) (b t : Bridge) : Prop where
  chan : ∀ d, t.chan d = b.chan d
  chState : ∀ d, t.chState d = b.chState d
  raw : ∀ r, r ∉ rs → Reg.reports r = false → t.raw r = b.raw r
  calm : t.calm = b.calm

/-- Calm looks at the channels' status for their states alone. -/
theorem Bridge.put_calm_of_chState (b : Bridge) (r : Reg) (w : Word) (h : ∀ d, (b.put r w).chState d = b.chState d) :
    (b.put r w).calm = b.calm := by
  unfold Bridge.calm
  simp only [h]
  rfl

namespace Bridge.KeepsTransfers

variable {rs : List Reg} {a b t : Bridge}

theorem trans (h : a.KeepsTransfers rs b) (g : b.KeepsTransfers rs t) : a.KeepsTransfers rs t where
  chan := fun d => (g.chan d).trans (h.chan d)
  chState := fun d => (g.chState d).trans (h.chState d)
  raw := fun r hr hrep => (g.raw r hr hrep).trans (h.raw r hr hrep)
  calm := g.calm.trans h.calm

theorem mono {rs' : List Reg} (h : b.KeepsTransfers rs t) (hs : rs ⊆ rs') : b.KeepsTransfers rs' t :=
  { h with raw := fun r hr => h.raw r (fun hm => hr (hs hm)) }

theorem chShadow (h : b.KeepsTransfers rs t) {c : Nat} (hc : Reg.fndChStatus c ∉ rs) : t.chShadow c = b.chShadow c :=
  congrArg (wget · _) (h.raw _ hc rfl)

/-- A choice of which each branch keeps transfers. -/
theorem ite {c : Prop} [Decidable c] (ht : b.KeepsTransfers rs a) (hu : b.KeepsTransfers rs t) :
    b.KeepsTransfers rs (if c then a else t) := by
  split
  · exact ht
  · exact hu

theorem refl (rs : List Reg) (b : Bridge) : b.KeepsTransfers rs b :=
  ⟨fun _ => rfl, fun _ => rfl, fun _ _ _ => rfl, rfl⟩

theorem ofReported (rs : List Reg) (h : b.Reported t) : b.KeepsTransfers rs t where
  chan := fun d => by unfold Bridge.chan; rw [h.eng]
  chState := fun d => h.get _ _ rfl
  raw := fun r _ hr => h.raw r hr
  calm := h.calm

theorem settled (h : b.KeepsTransfers rs t) (hc : b.calm = true) (m : List Host.Cell) : b.KeepsTransfers rs (t.settled m) :=
  h.trans (ofReported rs (.settled t m (h.calm.trans hc)))

/-- A write that leaves each channel's state. -/
theorem putKeepingState (b : Bridge) (r : Reg) (w : Word) (hs : ∀ d, (b.put r w).chState d = b.chState d) :
    b.KeepsTransfers [r] (b.put r w) where
  chan := fun _ => rfl
  chState := hs
  raw := fun r' hr _ => b.raw_put_ne r r' w (by simpa using hr)
  calm := b.put_calm_of_chState r w hs

theorem put (b : Bridge) (r : Reg) (w : Word) (hr : r.isChStatus = false) : b.KeepsTransfers [r] (b.put r w) :=
  putKeepingState b r w (fun d => b.get_put_ne r _ w _ (by rintro rfl; cases hr))

/-- A write of a field of a channel's status other than its state. -/
theorem setStatus (b : Bridge) (c : Nat) (f : Fld) (n : Nat) (hf : f.apart Fld.fndChStatus_STATE) :
    b.KeepsTransfers [.fndChStatus c] (b.set (.fndChStatus c) f n) :=
  putKeepingState b _ _ (fun d => by
    by_cases hd : d = c
    · subst hd; exact b.get_set_apart _ f _ n hf
    · exact b.get_set_ne _ _ f _ n (by simpa using hd))

theorem setShadow (b : Bridge) (c n : Nat) : b.KeepsTransfers [.fndChStatus c] (b.setShadow c n) :=
  setStatus b c _ n (.inr (by decide))

theorem asSeenBy (b : Bridge) (x : ChanSel) : b.KeepsTransfers [] (b.asSeenBy x) := by
  cases x with
  | slot => exact refl [] b
  | chan w n => exact ⟨b.svcMark_chan w false, fun d => congrArg (wget · _) (b.svcMark_raw w false _),
      fun r _ _ => b.svcMark_raw w false r, b.svcMark_calm w false⟩

theorem reject (b : Bridge) (k : Blk) (off : Nat) (half : Bool) (reason writer vf : Nat) :
    b.KeepsTransfers [.blkReject k] (b.reject k off half reason writer vf) :=
  (put b _ _ rfl).trans (ofReported _ (.raise _ k 31))

/-- The guide writes only its own status, whatever it makes of a doorbell (R203). -/
theorem doorbell (b : Bridge) (d : Nat) : b.KeepsTransfers [.dspGuideStat d] (b.doorbell d) := by
  have late : b.KeepsTransfers [.dspGuideStat d] ((b.bump (.dspGuideStat d) Fld.dspGuideStat_LATE).raise .dsp 2) :=
    (put b _ _ rfl).trans (ofReported _ (.raise _ .dsp 2))
  have hit : b.KeepsTransfers [.dspGuideStat d] (b.bump (.dspGuideStat d) Fld.dspGuideStat_HITS) := put b _ _ rfl
  have ring : ∀ (u : Bridge) (g : List (Nat × Guide)),
      u.KeepsTransfers [.dspGuideStat d] (({ u with eng := { u.eng with guides := g } } : Bridge).openDom d) := fun u g =>
    (⟨fun _ => rfl, fun _ => rfl, fun _ _ _ => rfl, rfl⟩ :
      u.KeepsTransfers _ { u with eng := { u.eng with guides := g } }).trans (ofReported _ (.openDom _ d))
  unfold Bridge.doorbell
  exact ite (refl _ b) ((ite late (ite hit (refl _ b))).trans (ring _ _))

end Bridge.KeepsTransfers

/-! Rejections that name a channel (R455). -/

/-- A field of a word reads as given when the fields written after it are apart from it. -/
theorem wget_wmk_mid (before : List (Fld × Nat)) (f : Fld) (v : Nat) (after : List (Fld × Nat)) (hf : f.lo + f.len ≤ 64)
    (h : ∀ p ∈ after, p.1.apart f) : wget (wmk (before ++ (f, v) :: after)) f = v % 2 ^ f.len := by
  unfold wmk
  rw [List.foldl_append]
  exact (wget_wputs_apart _ after f h).trans (wget_wput_self _ f v hf)

theorem Bridge.reject_raw (b : Bridge) (k : Blk) (off : Nat) (half : Bool) (reason writer vf : Nat) :
    (b.reject k off half reason writer vf).raw (.blkReject k) = wmk [(Fld.blkReject_OFFSET, off), (Fld.blkReject_HALF, bit half),
      (Fld.blkReject_REASON, reason), (Fld.blkReject_WRITER, writer), (Fld.blkReject_VF, vf),
      (Fld.blkReject_COUNT, if b.get (.blkReject k) Fld.blkReject_VALID = 1
        then satAdd 8 (b.get (.blkReject k) Fld.blkReject_COUNT) 1 else 1), (Fld.blkReject_VALID, 1)] := by
  unfold Bridge.reject
  rw [Bridge.raw_raise _ _ _ _ rfl, Bridge.raw_put_self]

theorem Bridge.reject_reason (b : Bridge) (k : Blk) (off : Nat) (half : Bool) (reason writer vf : Nat) :
    (b.reject k off half reason writer vf).get (.blkReject k) Fld.blkReject_REASON = reason % 2 ^ 8 := by
  unfold Bridge.get
  rw [b.reject_raw]
  exact wget_wmk_mid [_, _] _ reason [_, _, _, _] (by decide) (by
    simp [Fld.apart, Fld.blkReject_REASON, Fld.blkReject_WRITER, Fld.blkReject_VF, Fld.blkReject_COUNT, Fld.blkReject_VALID])

theorem Bridge.reject_valid (b : Bridge) (k : Blk) (off : Nat) (half : Bool) (reason writer vf : Nat) :
    (b.reject k off half reason writer vf).get (.blkReject k) Fld.blkReject_VALID = 1 := by
  unfold Bridge.get
  rw [b.reject_raw]
  exact wget_wput_self _ _ _ (by decide)

/-- From `b` to `t` an access is recorded in FND's BLK_REJECT as one that the channel's state forbids, and
nothing else is done. -/
structure Bridge.StateRejected (b t : Bridge) : Prop where
  keeps : b.KeepsTransfers [.blkReject .fnd] t
  reason : t.get (.blkReject .fnd) Fld.blkReject_REASON = 10
  valid : t.get (.blkReject .fnd) Fld.blkReject_VALID = 1

theorem Bridge.StateRejected.after {a b t : Bridge} {rs : List Reg} (hb : a.KeepsTransfers rs b) (h : b.StateRejected t) :
    a.KeepsTransfers (.blkReject .fnd :: rs) t :=
  (hb.mono (by simp)).trans (h.keeps.mono (by simp))

/-- Settling leaves what BLK_REJECT shows. -/
theorem Bridge.StateRejected.settled {b t : Bridge} (h : b.StateRejected t) (hc : b.calm = true) (m : List Host.Cell) :
    b.StateRejected (t.settled m) :=
  have reported := Bridge.Reported.settled t m (h.keeps.calm.trans hc)
  ⟨h.keeps.settled hc m, (reported.get _ _ rfl).trans h.reason, (reported.get _ _ rfl).trans h.valid⟩

/-- An access rejected with reason 10 at an offset of a finder block is recorded as one that the channel's state forbids. -/
theorem Bridge.rejectChan_stateRejected (b : Bridge) (x : ChanSel) (slotOff ctlOff : Nat)
    (hoff : ∀ w n, x = .chan w n → Blk.ofOffset ctlOff = .fnd) : b.StateRejected (b.rejectChan x slotOff ctlOff 10) := by
  cases x with
  | slot ap vf j => exact ⟨.reject b .fnd _ false 10 5 vf, b.reject_reason .fnd .., b.reject_valid .fnd ..⟩
  | chan w n =>
    have hblk : b.rejectBlk ctlOff = .fnd := by unfold Bridge.rejectBlk; rw [hoff w n rfl]
    have seen : b.KeepsTransfers [.blkReject .fnd] (b.svcMark w true) :=
      ⟨b.svcMark_chan w true, fun d => congrArg (wget · _) (b.svcMark_raw w true _), fun r _ _ => b.svcMark_raw w true r,
        b.svcMark_calm w true⟩
    unfold Bridge.rejectChan Bridge.rejectBy
    rw [hblk]
    exact ⟨seen.trans (.reject _ .fnd _ false 10 w.code 0), Bridge.reject_reason _ .fnd .., Bridge.reject_valid _ .fnd ..⟩

/-- The channels' register sets lie in a finder block (R451). -/
theorem Blk.ofOffset_shadow (c k : Nat) (hc : c < 8192) (hk : k < 8) : Blk.ofOffset (0x800000 + 0x80 * c + 8 * k) = .fnd := by
  have hspan : (0x800000 + 0x80 * c + 8 * k) / 0x100000 = 8 := by omega
  simp [Blk.ofOffset, hspan]

/-- The channels' command registers lie in a finder block (R451). -/
theorem Blk.ofOffset_chCmd (c : Nat) (hc : c < 8192) : Blk.ofOffset (0x720000 + 8 * c) = .fnd := by
  have hspan : (0x720000 + 8 * c) / 0x100000 = 7 := by omega
  simp [Blk.ofOffset, hspan]

theorem Bridge.chanState_stateRejected (b : Bridge) (x : ChanSel) (c : Nat) (hc : ∀ w n, x = .chan w n → c < 8192) :
    b.StateRejected (b.chanState x c) :=
  b.rejectChan_stateRejected x _ _ (fun w n hx => Blk.ofOffset_chCmd c (hc w n hx))

/-! The shadow's state. -/

section
variable (b : Bridge) (c n : Nat)

@[simp] theorem Bridge.setShadow_chShadow : (b.setShadow c n).chShadow c = n % 4 := b.get_set_self _ _ n (by decide)

@[simp] theorem Bridge.setShadow_hops :
    (b.setShadow c n).get (.fndChStatus c) Fld.fndChStatus_HOPS = b.get (.fndChStatus c) Fld.fndChStatus_HOPS :=
  b.get_set_apart _ _ _ n (.inl (by decide))

/-- HOPS restarts (R162). -/
def Bridge.restartHops : Bridge := b.set (.fndChStatus c) Fld.fndChStatus_HOPS 0

@[simp] theorem Bridge.restartHops_hops : (b.restartHops c).get (.fndChStatus c) Fld.fndChStatus_HOPS = 0 :=
  b.get_set_self _ _ 0 (by decide)

@[simp] theorem Bridge.restartHops_chShadow : (b.restartHops c).chShadow c = b.chShadow c :=
  b.get_set_apart _ _ _ 0 (.inr (by decide))

theorem Bridge.restartHops_keeps : b.KeepsTransfers [.fndChStatus c] (b.restartHops c) :=
  .setStatus b c _ 0 (.inr (by decide))

end

/-! A write to a shadow word (R153, R155). -/

/-- Word `k` of the shadow is written and HOPS restarts. -/
def Bridge.shadowStored (b : Bridge) (c k : Nat) (v : Word) : Bridge :=
  (b.put (.fndShadow c k) ((Reg.fndShadow c k).stored (b.raw (.fndShadow c k)) v true true)).restartHops c

/-- What a write that the shadow takes leaves: the word is stored, and EMPTY has become LOADED. -/
def Bridge.shadowLoaded (b : Bridge) (c k : Nat) (v : Word) : Bridge :=
  if (b.shadowStored c k v).chShadow c = 0 then (b.shadowStored c k v).setShadow c 1 else b.shadowStored c k v

section
variable (b : Bridge) (x : ChanSel) (c k : Nat) (v : Word)

theorem Bridge.shadowWrite_taken (hc : b.chanOf x = some c) (ha : b.chanAllowed x c = true) (hs : b.chShadow c < 2) :
    b.shadowWrite x k v = b.shadowLoaded c k v := by
  simp only [Bridge.shadowWrite, hc, ha, Nat.not_le.mpr hs, Bool.not_true, Bool.false_eq_true, if_false]
  rfl

theorem Bridge.shadowWrite_refused (hc : b.chanOf x = some c) (ha : b.chanAllowed x c = true) (hs : 2 ≤ b.chShadow c) :
    b.shadowWrite x k v = b.rejectChan x (8 * k) (0x800000 + 0x80 * c + 8 * k) 10 := by
  simp only [Bridge.shadowWrite, hc, ha, hs, Bool.not_true, Bool.false_eq_true, if_false, if_true]

theorem Bridge.shadowLoaded_keeps : b.KeepsTransfers [.fndShadow c k, .fndChStatus c] (b.shadowLoaded c k v) := by
  have stored : b.KeepsTransfers [.fndShadow c k, .fndChStatus c] (b.shadowStored c k v) :=
    ((Bridge.KeepsTransfers.put b (.fndShadow c k) _ rfl).mono (by simp)).trans ((Bridge.restartHops_keeps _ c).mono (by simp))
  unfold Bridge.shadowLoaded
  exact .ite (stored.trans ((Bridge.KeepsTransfers.setShadow _ c 1).mono (by simp))) stored

theorem Bridge.shadowLoaded_word :
    (b.shadowLoaded c k v).raw (.fndShadow c k) = (Reg.fndShadow c k).stored (b.raw (.fndShadow c k)) v true true := by
  have stored : (b.shadowStored c k v).raw (.fndShadow c k) =
      (Reg.fndShadow c k).stored (b.raw (.fndShadow c k)) v true true := by
    unfold Bridge.shadowStored
    rw [(Bridge.restartHops_keeps _ c).raw _ (by simp) rfl, Bridge.raw_put_self]
  unfold Bridge.shadowLoaded
  split
  · rw [(Bridge.KeepsTransfers.setShadow _ c 1).raw _ (by simp) rfl, stored]
  · exact stored

theorem Bridge.shadowLoaded_chShadow (hs : b.chShadow c < 2) : (b.shadowLoaded c k v).chShadow c = 1 := by
  have stored : (b.shadowStored c k v).chShadow c = b.chShadow c := by
    unfold Bridge.shadowStored
    rw [Bridge.restartHops_chShadow, (Bridge.KeepsTransfers.put b (.fndShadow c k) _ rfl).chShadow (by simp)]
  unfold Bridge.shadowLoaded
  split
  · exact Bridge.setShadow_chShadow _ c 1
  · omega

theorem Bridge.shadowLoaded_hops : (b.shadowLoaded c k v).get (.fndChStatus c) Fld.fndChStatus_HOPS = 0 := by
  unfold Bridge.shadowLoaded Bridge.shadowStored
  split <;> simp

end

/-! Commands on the shadow (R159, R160). -/

section
variable (b : Bridge) (x : ChanSel) (c : Nat)

theorem Bridge.disarm_armed (hs : b.chShadow c = 2) : b.chanAct x c 2 = (b.restartHops c).setShadow c 1 :=
  if_pos ((b.restartHops_chShadow c).trans hs)

theorem Bridge.disarm_unarmed (hs : b.chShadow c ≠ 2) : b.chanAct x c 2 = (b.restartHops c).chanState x c :=
  if_neg (fun h => hs ((b.restartHops_chShadow c).symm.trans h))

/-- ARM on an ARMED shadow is rejected, whether or not the guide sees the doorbell. -/
theorem Bridge.arm_armed (hs : b.chShadow c = 2) :
    ∃ u d, (b.restartHops c).KeepsTransfers [.dspGuideStat d] u ∧ b.chanAct x c 1 = u.chanState x c := by
  have armed : (b.restartHops c).chShadow c = 2 := (b.restartHops_chShadow c).trans hs
  change ∃ u d, _ ∧ (b.restartHops c).armCmd x c = _
  unfold Bridge.armCmd
  by_cases hr : (b.restartHops c).chanResets c = true
  · exact ⟨_, 0, .refl _ _, if_pos hr⟩
  · have rung := Bridge.KeepsTransfers.doorbell (b.restartHops c) ((b.restartHops c).get (.fndChCtrl c) Fld.fndChCtrl_HOME_DOME)
    exact ⟨_, _, rung, (if_neg hr).trans (if_pos ((rung.chShadow (by simp)).trans armed))⟩

end

/-! The commands on a channel that serves them. -/

section
variable {s : State} {x : ChanSel} {c : Nat} (h : s.b.servesChan x c)
include h

theorem exec_shadowWrite_taken (k : Nat) (v : Word) (hk : k < 8) (hs : s.b.chShadow c < 2) :
    exec (.shadowWrite x k v) s = .next { s with b := ((s.b.asSeenBy x).shadowLoaded c k v).settled s.mem } := by
  rw [exec_shadowWrite_served h k v hk,
    Bridge.shadowWrite_taken _ x c k v (by simpa using h.chanOf) (by simpa using h.allowed) (by simpa using hs)]

theorem exec_shadowWrite_refused (k : Nat) (v : Word) (hk : k < 8) (hs : 2 ≤ s.b.chShadow c) :
    exec (.shadowWrite x k v) s = .next { s with
      b := ((s.b.asSeenBy x).rejectChan x (8 * k) (0x800000 + 0x80 * c + 8 * k) 10).settled s.mem } := by
  rw [exec_shadowWrite_served h k v hk,
    Bridge.shadowWrite_refused _ x c k v (by simpa using h.chanOf) (by simpa using h.allowed) (by simpa using hs)]

theorem exec_disarm_armed (hs : s.b.chShadow c = 2) :
    exec (.disarm x) s = .next { s with b := (((s.b.asSeenBy x).restartHops c).setShadow c 1).settled s.mem } := by
  rw [exec_disarm_served h, Bridge.disarm_armed _ x c (by simpa using hs)]

theorem exec_disarm_unarmed (hs : s.b.chShadow c ≠ 2) :
    exec (.disarm x) s = .next { s with b := (((s.b.asSeenBy x).restartHops c).chanState x c).settled s.mem } := by
  rw [exec_disarm_served h, Bridge.disarm_unarmed _ x c (by simpa using hs)]

theorem exec_arm_armed (hs : s.b.chShadow c = 2) :
    ∃ u d, ((s.b.asSeenBy x).restartHops c).KeepsTransfers [.dspGuideStat d] u ∧
      exec (.arm x) s = .next { s with b := (u.chanState x c).settled s.mem } := by
  obtain ⟨u, d, rung, act⟩ := Bridge.arm_armed (s.b.asSeenBy x) x c (by simpa using hs)
  exact ⟨u, d, rung, by rw [exec_arm_served h, act]⟩

end

/-- What a served access finds, with HOPS restarted. -/
theorem Bridge.asSeenBy_restartHops_keeps (b : Bridge) (x : ChanSel) (c : Nat) :
    b.KeepsTransfers [.fndChStatus c] ((b.asSeenBy x).restartHops c) :=
  ((Bridge.KeepsTransfers.asSeenBy b x).mono (List.nil_subset _)).trans (Bridge.restartHops_keeps _ c)

/-! The statement. -/

/-- Settles O16: a served access acts on the bridge as its writer finds it, writing the shadow's word and the channel's status, or
BLK_REJECT; settling a calm bridge then only reports. -/
theorem shadowStates : Obligations.ShadowStates := by
  refine ⟨fun s x c k v h hk calm => ⟨fun hs => ?taken, fun hs => ?refused⟩, fun s x c h calm => ?disarm,
    fun s x c h calm hs => ?arm⟩
  case taken =>
    have keeps := ((Bridge.KeepsTransfers.asSeenBy s.b x).mono (List.nil_subset _)).trans (Bridge.shadowLoaded_keeps _ c k v)
    have reported := Bridge.Reported.settled _ s.mem (keeps.calm.trans calm)
    have frame := keeps.settled calm s.mem
    refine ⟨_, exec_shadowWrite_taken h k v hk hs, ?word, ?loaded, frame.chState c, ?hops, rfl,
      fun r hk hc => frame.raw r (by simp [hk, hc]), frame.chan⟩
    case word => rw [reported.raw _ rfl, Bridge.shadowLoaded_word, Bridge.asSeenBy_raw]
    case loaded => exact (reported.get _ _ rfl).trans (Bridge.shadowLoaded_chShadow _ c k v (by simpa using hs))
    case hops => exact (reported.get _ _ rfl).trans (Bridge.shadowLoaded_hops _ c k v)
  case refused =>
    have seen := Bridge.KeepsTransfers.asSeenBy s.b x
    have rejected := (Bridge.rejectChan_stateRejected _ x (8 * k) _
      (fun w n hx => Blk.ofOffset_shadow c k (h.lt_of_chan w n hx) hk)).settled (seen.calm.trans calm) s.mem
    have frame := rejected.after seen
    exact ⟨_, exec_shadowWrite_refused h k v hk hs, rejected.reason, rejected.valid, rfl,
      fun r hr => frame.raw r (by simpa using hr), frame.chan⟩
  case disarm =>
    have restarted := s.b.asSeenBy_restartHops_keeps x c
    by_cases hs : s.b.chShadow c = 2
    · have keeps := restarted.trans (.setShadow _ c 1)
      have reported := Bridge.Reported.settled _ s.mem (keeps.calm.trans calm)
      have frame := keeps.settled calm s.mem
      refine ⟨_, exec_disarm_armed h hs, ?loaded, frame.chState c, ?hops, rfl, fun r hc _ => frame.raw r (by simpa using hc),
        fun hn => absurd hs hn, frame.chan⟩
      case loaded => rw [if_pos hs]; exact (reported.get _ _ rfl).trans (Bridge.setShadow_chShadow _ c 1)
      case hops => exact (reported.get _ _ rfl).trans (by simp)
    · have rejected := (Bridge.chanState_stateRejected _ x c h.lt_of_chan).settled (restarted.calm.trans calm) s.mem
      have frame := rejected.after restarted
      refine ⟨_, exec_disarm_unarmed h hs, ?stays, frame.chState c, ?hops, rfl, fun r hc hr => frame.raw r ?others,
        fun _ => ⟨rejected.reason, rejected.valid⟩, frame.chan⟩
      case stays => rw [if_neg hs, rejected.keeps.chShadow (by simp), Bridge.restartHops_chShadow, Bridge.asSeenBy_chShadow]
      case hops => exact (congrArg (wget · _) (rejected.keeps.raw _ (by simp) rfl)).trans (Bridge.restartHops_hops _ c)
      case others => simpa [hc] using fun e => hs (hr e)
  case arm =>
    obtain ⟨u, d, rung, served⟩ := exec_arm_armed h hs
    have reached := ((s.b.asSeenBy_restartHops_keeps x c).mono (rs' := [.fndChStatus c, .dspGuideStat d]) (by simp)).trans
      (rung.mono (by simp))
    have rejected := (Bridge.chanState_stateRejected u x c h.lt_of_chan).settled (reached.calm.trans calm) s.mem
    have frame := rejected.after reached
    refine ⟨_, served, rejected.reason, rejected.valid, ?stays, frame.chState c, rfl,
      fun k => ⟨frame.raw _ (by simp) rfl, frame.raw _ (by simp) rfl⟩, frame.chan⟩
    case stays =>
      rw [rejected.keeps.chShadow (by simp), rung.chShadow (by simp), Bridge.restartHops_chShadow, Bridge.asSeenBy_chShadow, hs]

end Sys2Proof.Machine
end

section
/-!
PROOF of ServiceAlert (R460). ID_EVENT_SUM.SVC_PENDING collects one bit per pending block, so it is not 0 exactly when some block is
pending; and a block is pending exactly when one bit stands in both words that BLK_EVENT AND SVC_EN compares.
-/
namespace Sys2Proof.Machine

open Sys2Proof

/-! Bits of a field. -/

/-- Bit n of a field is the word's bit n places above the field's lowest. -/
theorem wget_testBit (w : Word) (f : Fld) (n : Nat) : (wget w f).testBit n = (decide (n < f.len) && w.getLsbD (f.lo + n)) := by
  unfold wget
  rw [BitVec.testBit_toNat, BitVec.getLsbD_extractLsb']

theorem wget_and_wget_ne_zero (v w : Word) (f g : Fld) :
    wget v f &&& wget w g ≠ 0 ↔
      ∃ n, (n < f.len ∧ v.getLsbD (f.lo + n) = true) ∧ (n < g.len ∧ w.getLsbD (g.lo + n) = true) := by
  have bits (n : Nat) : (wget v f &&& wget w g).testBit n = true ↔
      (n < f.len ∧ v.getLsbD (f.lo + n) = true) ∧ (n < g.len ∧ w.getLsbD (g.lo + n) = true) := by
    simp [wget_testBit]
  constructor
  · intro h
    obtain ⟨n, hn⟩ := Nat.exists_testBit_of_ne_zero h
    exact ⟨n, (bits n).mp hn⟩
  · rintro ⟨n, hn⟩ hz
    have clear : (wget v f &&& wget w g).testBit n = false := by rw [hz, Nat.zero_testBit]
    exact Bool.false_ne_true (clear.symm.trans ((bits n).mpr hn))

/-! Pending blocks. -/

/-- A number that collects one bit for each selected entry of a list is 0 only where nothing is selected. -/
theorem foldl_or_two_pow_ne_zero {α : Type} (p : α → Bool) (bitOf : α → Nat) (l : List α) (n : Nat) :
    l.foldl (fun n k => if p k then n ||| 2 ^ bitOf k else n) n ≠ 0 ↔ n ≠ 0 ∨ ∃ k ∈ l, p k = true := by
  induction l generalizing n with
  | nil => simp
  | cons k l ih =>
    rw [List.foldl_cons, ih]
    cases hk : p k with
    | false => simp [hk]
    | true => simp [hk, Nat.or_eq_zero_iff]

theorem Bridge.svcSum_ne_zero (b : Bridge) : b.svcSum ≠ 0 ↔ ∃ k ∈ Blk.all, b.svcPending k = true :=
  (foldl_or_two_pow_ne_zero b.svcPending Blk.sumBit Blk.all 0).trans (by simp)

/-- A block is pending for the board controller exactly when one of its 32 events is set with its SVC_EN bit (R455, R460). -/
theorem Bridge.svcPending_iff (b : Bridge) (k : Blk) : b.svcPending k = true ↔
    ∃ n, n < 32 ∧ b.event k n = true ∧ (b.raw (.blkEventEn k)).getLsbD (32 + n) = true := by
  have compared : b.svcPending k = true ↔
      wget (b.raw (.blkEvent k)) ⟨0, 32⟩ &&& wget (b.raw (.blkEventEn k)) Fld.blkEventEn_SVC_EN ≠ 0 := decide_eq_true_iff
  rw [compared, wget_and_wget_ne_zero]
  refine exists_congr fun n => ?_
  simp only [Nat.zero_add, Bridge.event, Fld.blkEventEn_SVC_EN]
  constructor
  · rintro ⟨⟨hn, event⟩, -, enabled⟩
    exact ⟨hn, event, enabled⟩
  · rintro ⟨hn, event, enabled⟩
    exact ⟨⟨hn, event⟩, hn, enabled⟩

/-- Settles O7: the alert is the sum of the pending blocks, the parked bit or Quarantine, and a pending block is one with an event
that its SVC_EN selects. -/
theorem serviceAlert : Obligations.ServiceAlert := by
  intro b
  have alert : b.svcAlert = true ↔ b.svcSum ≠ 0 ∨ b.get .pwrMode Fld.pwrMode_PARKED = 1 ∨ b.mode = 11 := by
    simp [Bridge.svcAlert, or_assoc]
  rw [alert, b.svcSum_ne_zero]
  simp only [b.svcPending_iff]

end Sys2Proof.Machine
end
